-- ==== Sys2Proof/Word.lean ====
section
/-! DEFINITION. The words of the KC360: bytes, halfwords, tags, tokens, and the numberings of Table 0-2
(bays, shelves, data channels, latch slots, order lists). A numbering is kept as a `Fin` counted from 0;
the spec's number is one more, except for order lists, custody slots and journal entries, which the spec
itself counts from 0. -/

namespace Sys2Proof

/-- A byte of shared work memory or of a frame. -/
abbrev Byte := BitVec 8

/-- A 16-bit field: revision numbers, record offsets and links. -/
abbrev Half := BitVec 16

/-- A tablet tag, 48 bits (Table 0-2). -/
abbrev Tag := BitVec 48

/-- A credential token, 64 bits (Table 0-2). -/
abbrev Token := BitVec 64

/-- A bay; `b : Bay` is the spec's bay `b.val + 1` (Table 0-2: 1 to 36). -/
abbrev Bay := Fin 36

/-- A shelf; the spec's shelf `s.val + 1` (1 to 6). -/
abbrev Shelf := Fin 6

/-- A data channel; the spec's channel `c.val + 1` (1 to 4). -/
abbrev Chan := Fin 4

/-- A latch drive slot; the spec's slot `k.val + 1` (1 or 2). -/
abbrev Slot := Fin 2

/-- An order list, 0 or 1. -/
abbrev ListId := Fin 2

/-- Shelf s holds bays 6s−5 to 6s (Table 0-2). -/
abbrev shelfOf (b : Bay) : Shelf := ⟨b.val / 6, by omega⟩

end Sys2Proof
end

