-- ==== Sys2Proof/Config.lean ====
section
/-! DEFINITION. What the spec fixes for every part (times in ms, powers in quarter-watts, table sizes) and
the one free value of the model: which of two events that "may be taken in either order" is taken first. -/

namespace Sys2Proof

/-- FREE VALUE (log entry 3). Where the spec says that two recipients or two events may be taken in either
order, `firstTaken n` says whether the one named first is taken first at the `n`-th such choice of a run.
It has no body: nothing can be proved of it. -/
opaque Config.firstTaken : Nat → Bool

/-- R1: the presence debounce, both directions. -/
def Config.presenceHold : Nat := 50
/-- R10, R13: the door and latch sense debounces. -/
def Config.senseHold : Nat := 20
/-- R181: the longest gap between two bytes of a reader frame. -/
def Config.byteGap : Nat := 5
/-- R3: the wait of one tag-read attempt. -/
def Config.tagWait : Nat := 250
/-- R14: the period of charge-level polls. -/
def Config.pollPeriod : Nat := 30000
/-- R14: the wait for a charge-level report. -/
def Config.reportWait : Nat := 250
/-- R15: the age at which a level becomes unknown. -/
def Config.staleAge : Nat := 90000
/-- R21: the time at the fault level that cuts a data path. -/
def Config.faultHold : Nat := 800
/-- R30: the count of a below timer that makes a fall. -/
def Config.fallHold : Nat := 40
/-- R31: the count of an above timer that makes a rise. -/
def Config.riseHold : Nat := 2000
/-- R33: the thermal sampling period. -/
def Config.thermalPeriod : Nat := 1000
/-- R53: the negotiation timer. -/
def Config.negotiation : Nat := 400
/-- R58: the ramp period. -/
def Config.rampPeriod : Nat := 100
/-- R58: the largest ramp step, qW. -/
def Config.rampStep : Nat := 16
/-- R60: the over-current sampling period. -/
def Config.samplePeriod : Nat := 1
/-- R61: the cooldown after a trip. -/
def Config.cooldown : Nat := 30000
/-- R100: one second of the timebase. -/
def Config.second : Nat := 1000
/-- R121: the release window. -/
def Config.releaseWindow : Nat := 10000
/-- R137: the wait limit of a queued latch request. -/
def Config.latchWait : Nat := 2000
/-- R139: the longest HOLD drive. -/
def Config.holdLimit : Nat := 3000
/-- R167: the stall timer. -/
def Config.stall : Nat := 500
/-- R149: a closed phase is counted in units of 100 ms. -/
def Config.closedUnit : Nat := 100

/-- R54, R56: the highest demand, qW. -/
def Config.maxDemand : Nat := 120
/-- R55: the basic rate, qW. -/
def Config.basicRate : Nat := 20
/-- R27: the overhead O, qW. -/
def Config.overhead : Nat := 160
/-- R48, R49: the latch reserve for one slot and for two, qW. -/
def Config.reserveOne : Nat := 28
def Config.reserveTwo : Nat := 56
/-- R42: the floor of a session bay, qW. -/
def Config.sessionFloor : Nat := 40
/-- R41: the want cap of a TOPPED bay, qW. -/
def Config.toppedCap : Nat := 8
/-- R134: the room of the latch queue. -/
def Config.latchQueueRoom : Nat := 12
/-- R93: the entries a credential bank has room for. -/
def Config.bankRoom : Nat := 480
/-- R98: the windows the window table has room for. -/
def Config.windowRoom : Nat := 12
/-- R118: the sequence number at which every fill is dropped. -/
def Config.lastSequence : Nat := 4294967295
/-- R100: the minutes of a week. -/
def Config.week : Nat := 10080

end Sys2Proof
end

