-- ==== Sys2Proof/Syntax.lean ====
section
/-! DEFINITION. The commands of the KC360: one constructor of `Instr` for each row of
spec/opcode_table.json, in the table's order, with the operands the row's event carries from outside the
part. An order's fields are NOT operands: the walker reads them from the record in shared work memory
(R166, R168), so the 17 order rows carry none. -/

namespace Sys2Proof

/-- A port write burst: the 3-byte offset of the command and the data bytes sent (R156). -/
structure Burst where
  offset : BitVec 24
  data : List Byte
  deriving DecidableEq, Repr

/-- What the sensor on TSENSE gives in one sampling period (R33). A reading is in thousandths of a degree
Celsius (log entry 12). -/
inductive ThermalReading where
  | noAnswer
  | badCheck
  | value (milliC : Int)
  deriving DecidableEq, Repr

/-- Why a frame being collected is discarded (R181), other than a gap, which is READER_BYTE_GAP. -/
inductive FrameFault where
  | badType
  | badStop
  | badCheck
  deriving DecidableEq, Repr

/-- The commands and events of the part, one per row of the opcode table. -/
inductive Instr where
  /-- POWER_ON: loss and return of supply (R170). -/
  | powerOn
  /-- RESETN_PART_RESET: a low pulse on RESETn; `cut` is the port write burst in progress, as far as its
  bytes had been sent when the reset came (R170). -/
  | resetnPartReset (cut : Option Burst)
  /-- MEMORY_READY: every block has written its pages (R158). -/
  | memoryReady
  /-- MEMORY_READ: offset of the command and the number of data bytes clocked (R156). -/
  | memoryRead (offset : BitVec 24) (clocked : Nat)
  /-- MEMORY_WRITE: a port write burst (R160). -/
  | memoryWrite (burst : Burst)
  /-- REGISTER_READ: register number and data bytes clocked (R159, R180). -/
  | registerRead (number : Byte) (clocked : Nat)
  /-- CONTROL_PART_RESET: a register write to CONTROL whose first data byte is the part-reset code;
  `trailing` are the bytes after it, which are ignored (R159, R180). -/
  | controlPartReset (trailing : List Byte)
  /-- REGISTER_WRITE: register number and data bytes (R159). -/
  | registerWrite (number : Byte) (data : List Byte)
  /-- PRESENCE_INPUT_CHANGE: the new level of PRESn (R1). -/
  | presenceInputChange (bay : Bay) (asserted : Bool)
  | attach (bay : Bay)
  | detach (bay : Bay)
  /-- TAG_FRAME: the tag a frame carries and whether its check byte passes (R3). -/
  | tagFrame (bay : Bay) (tag : Tag) (checkOk : Bool)
  | tagReadAttemptExpiry (bay : Bay)
  /-- DOOR_INPUT_CHANGE: the new reading of DOORn, `true` for OPEN (R10). -/
  | doorInputChange (bay : Bay) (isOpen : Bool)
  | doorEvent (bay : Bay)
  /-- LATCH_SENSE_INPUT_CHANGE: the new reading of LSNSn, `true` for RELEASED (R13). -/
  | latchSenseInputChange (bay : Bay) (isReleased : Bool)
  | latchSenseChange (bay : Bay)
  | levelPoll (bay : Bay)
  /-- LEVEL_REPORT: the level byte a report carries and whether its check byte passes (R14). -/
  | levelReport (bay : Bay) (level : Byte) (checkOk : Bool)
  | levelReportWaitExpiry (bay : Bay)
  | levelStale (bay : Bay)
  | lineActivity (bay : Bay)
  | silenceEvent (bay : Bay)
  /-- FAULT_LEVEL_CHANGE: whether the bay's data line pair is now at the fault level (R21). -/
  | faultLevelChange (bay : Bay) (atFault : Bool)
  | faultLevelExpiry (bay : Bay)
  /-- SUPPLY_INPUT_CROSSING: the input on VSENSE in hundredths of a percent of nominal (R29). -/
  | supplyInputCrossing (input : Nat)
  | supplyFall
  | supplyRise
  | thermalSample (reading : ThermalReading)
  /-- AGREEMENT: the amount the bay charger and the tablet agreed, qW (R54). -/
  | agreement (bay : Bay) (amount : Nat)
  | negotiationExpiry (bay : Bay)
  /-- DEMAND_ANNOUNCEMENT: the announced amount, qW (R56). -/
  | demandAnnouncement (bay : Bay) (amount : Nat)
  | rampStep (bay : Bay)
  /-- OVER_CURRENT_SAMPLE: whether the comparator on OCMPn reads above the trip level (R60). -/
  | overCurrentSample (bay : Bay) (high : Bool)
  | cooldownExpiry (bay : Bay)
  | sessionTimerExpiry (channel : Chan)
  /-- TOKEN_ARRIVAL: the 10 bytes collected after the start byte (R108, R181). -/
  | tokenArrival (frame : List Byte)
  | readerByteGap
  | clockSecond
  | changeOfMinute
  | releaseWindowExpiry (bay : Bay)
  | latchWaitExpiry (bay : Bay)
  | driveTimeEnd (slot : Slot)
  | closedPhaseEnd
  | windowExpiry
  | stallTimerExpiry (list : ListId)
  | recordNotDispatched
  | setLimits
  | setThresholds
  | bayConfig
  | reserve
  | provision
  | cancelProvision
  | sessionEnd
  | commitCredentials
  | commitWindows
  | setClock
  | releaseBay
  | custodyRestore
  | forgetTablet
  | setLatchMode
  | clearFault
  | setNotice
  | setSupervision
  | startByte
  | frameDiscarded (cause : FrameFault)
  | linkOf0Followed
  deriving DecidableEq, Repr

end Sys2Proof
end

