-- ==== Sys2Proof/WellFormed.lean ====
section
/-! DEFINITION. Well-formed commands: what every command of a row carries. A port command that ends before its
first data byte is no access (R156), so it is none of the port's rows; a write of the part-reset code to
CONTROL is the row CONTROL_PART_RESET (R159); a frame collected after a start byte has 10 bytes (R181). -/

namespace Sys2Proof

/-- The number of CONTROL and the part-reset code (Table 11-14). -/
abbrev controlNumber : Byte := 0x02
abbrev partResetCode : Byte := 0x96

/-- A burst has a first data byte (R156). -/
def Burst.wellFormed (w : Burst) : Bool := !w.data.isEmpty

/-- Whether a command is one of its row's commands. -/
def Instr.wellFormed : Instr → Bool
  | .powerOn => true
  | .resetnPartReset cut => (cut.map Burst.wellFormed).getD true
  | .memoryReady => true
  | .memoryRead _ clocked => decide (1 ≤ clocked)
  | .memoryWrite burst => burst.wellFormed
  | .registerRead _ clocked => decide (1 ≤ clocked)
  | .controlPartReset _ => true
  | .registerWrite number data =>
    !data.isEmpty && !(number == controlNumber && data.head? == some partResetCode)
  | .presenceInputChange _ _ => true
  | .attach _ => true
  | .detach _ => true
  | .tagFrame _ _ _ => true
  | .tagReadAttemptExpiry _ => true
  | .doorInputChange _ _ => true
  | .doorEvent _ => true
  | .latchSenseInputChange _ _ => true
  | .latchSenseChange _ => true
  | .levelPoll _ => true
  | .levelReport _ _ _ => true
  | .levelReportWaitExpiry _ => true
  | .levelStale _ => true
  | .lineActivity _ => true
  | .silenceEvent _ => true
  | .faultLevelChange _ _ => true
  | .faultLevelExpiry _ => true
  | .supplyInputCrossing _ => true
  | .supplyFall => true
  | .supplyRise => true
  | .thermalSample _ => true
  | .agreement _ _ => true
  | .negotiationExpiry _ => true
  | .demandAnnouncement _ _ => true
  | .rampStep _ => true
  | .overCurrentSample _ _ => true
  | .cooldownExpiry _ => true
  | .sessionTimerExpiry _ => true
  | .tokenArrival frame => decide (frame.length = 10)
  | .readerByteGap => true
  | .clockSecond => true
  | .changeOfMinute => true
  | .releaseWindowExpiry _ => true
  | .latchWaitExpiry _ => true
  | .driveTimeEnd _ => true
  | .closedPhaseEnd => true
  | .windowExpiry => true
  | .stallTimerExpiry _ => true
  | .recordNotDispatched => true
  | .setLimits => true
  | .setThresholds => true
  | .bayConfig => true
  | .reserve => true
  | .provision => true
  | .cancelProvision => true
  | .sessionEnd => true
  | .commitCredentials => true
  | .commitWindows => true
  | .setClock => true
  | .releaseBay => true
  | .custodyRestore => true
  | .forgetTablet => true
  | .setLatchMode => true
  | .clearFault => true
  | .setNotice => true
  | .setSupervision => true
  | .startByte => true
  | .frameDiscarded _ => true
  | .linkOf0Followed => true

end Sys2Proof
end

