-- ==== Sys2Proof/Decode.lean ====
section
/-! DEFINITION. The words of commands. No row of the opcode table gives bits, so no word spells a command
(log entry 11). The bytes of a port command do (R180): `decodePort` reads the command from the bytes sent on
IO0 to IO3 while CSn is low, and `encodePort` writes them. -/

namespace Sys2Proof

/-- The command that a word spells by the table's bits: the table gives no row any bits. -/
def decodeTableWord (_nbits _w : Nat) : Option Instr := none

/-- R180: a byte travels high nibble first. -/
def nibbles (b : Byte) : List (BitVec 4) := [BitVec.extractLsb' 4 4 b, BitVec.extractLsb' 0 4 b]

/-- The 3 offset bytes of a memory command, low byte first (R180). -/
def offsetOf (b0 b1 b2 : Byte) : BitVec 24 := b2 ++ b1 ++ b0

/-- R180: the register write that a number and data bytes make. -/
def decodeRegisterWrite (number : Byte) (data : List Byte) : Instr :=
  match data with
  | d :: ds =>
    if number = controlNumber ∧ d = partResetCode then .controlPartReset ds
    else .registerWrite number (d :: ds)
  | [] => .registerWrite number []

/-- R156, R180: the command of the bytes between CSn low and CSn high. Turnaround bytes carry nothing; the
data bytes of a read are only clocked. A command with no data byte and a command of another code are none. -/
def decodePort (bytes : List Byte) : Option Instr :=
  match bytes with
  | code :: rest =>
    match code.toNat, rest with
    | 0x10, b0 :: b1 :: b2 :: _ :: _ :: d :: ds => some (.memoryRead (offsetOf b0 b1 b2) (d :: ds).length)
    | 0x11, b0 :: b1 :: b2 :: d :: ds => some (.memoryWrite { offset := offsetOf b0 b1 b2, data := d :: ds })
    | 0x20, n :: _ :: d :: ds => some (.registerRead n (d :: ds).length)
    | 0x21, n :: d :: ds => some (decodeRegisterWrite n (d :: ds))
    | _, _ => none
  | [] => none

/-- The offset bytes of a command (R180). -/
def offsetBytes (o : BitVec 24) : List Byte :=
  [BitVec.extractLsb' 0 8 o, BitVec.extractLsb' 8 8 o, BitVec.extractLsb' 16 8 o]

/-- The bytes of a port command, with 0 on the turnaround and clocked bytes; `none` for any other command. -/
def encodePort (i : Instr) : Option (List Byte) :=
  match i with
  | .memoryRead o n => some ((0x10 : Byte) :: offsetBytes o ++ [0, 0] ++ List.replicate n 0)
  | .memoryWrite w => some ((0x11 : Byte) :: offsetBytes w.offset ++ w.data)
  | .registerRead r n => some ([(0x20 : Byte), r, 0] ++ List.replicate n 0)
  | .controlPartReset ds => some ([(0x21 : Byte), controlNumber, partResetCode] ++ ds)
  | .registerWrite r ds => some ([(0x21 : Byte), r] ++ ds)
  | _ => none

end Sys2Proof
end

