-- ==== Sys2Proof/Machine/State.lean ====
section
/-! DEFINITION. The state of the KC360 (Table 0-1, block by block), as plain data, its reset value, and the
reasons a step can stop. Timers are kept as the timebase value at which they started (`none`: stopped), so
a timer's elapsed time is `now` less its start (log entry 1). A field or a pin that the spec defines from
other state (setpoint code, the factors f_v and f_t, latch request state, ATTN, the PEEK word, STATUS, every
part-written page) is computed from that state and not stored a second time (log entry 6). -/

namespace Sys2Proof.Machine

/-! ## Bay Monitor (Table 1-1) -/

inductive Occupancy where
  | empty | settling | present | anon | duplicate
  deriving DecidableEq, Repr

inductive Door where
  | closed | opened
  deriving DecidableEq, Repr

/-- Last open class (R11). -/
inductive OpenClass where
  | released | forced
  deriving DecidableEq, Repr

inductive LatchSense where
  | locked | released
  deriving DecidableEq, Repr

/-- Data-path states (Table 1-5). -/
inductive DataPath where
  | dark | watch | joined | cut
  deriving DecidableEq, Repr

/-- A tag-read attempt: its number 1 to 3 and its start (R3). -/
structure TagRead where
  attempt : Nat
  since : Nat
  deriving DecidableEq, Repr

/-- The silence timer: its last restart and its limit in seconds (R20). -/
structure SilenceTimer where
  since : Nat
  limit : Nat
  deriving DecidableEq, Repr

/-- The bay entry held by BMON (Table 1-1). -/
structure BayEntry where
  occupancy : Occupancy
  /-- The presence debounce under way: toward assertion in EMPTY, toward loss otherwise (R1). -/
  presenceDebounce : Option Nat
  tag : Option Tag
  tagRead : Option TagRead
  door : Door
  doorDebounce : Option Nat
  lastOpen : Option OpenClass
  latch : LatchSense
  latchDebounce : Option Nat
  /-- Charge level 0 to 100; `none` is unknown (R14). -/
  level : Option Nat
  /-- Time of the last valid report, while the level age runs (R15). -/
  levelAge : Option Nat
  /-- Time of the last poll, while polls run (R14). -/
  pollTimer : Option Nat
  /-- Start of the wait for a report (R14). -/
  reportWait : Option Nat
  /-- Pool group 0 to 15; `none` is UNPOOLED (R17). -/
  pool : Option Nat
  path : DataPath
  joined : Option Chan
  silence : Option SilenceTimer
  faultTimer : Option Nat
  deriving DecidableEq, Repr

/-- The input pins of a bay as they stand (Table 0-6: PRESn, DOORn, LSNSn, and whether DATAn± is at the
fault level). They belong to the outside: a reset does not change them. -/
structure BayPins where
  presence : Bool
  door : Door
  latch : LatchSense
  atFault : Bool
  deriving DecidableEq, Repr

/-! ## Power Allocator (Table 2-1) -/

inductive SagSelect where
  | pct92 | pct88 | pct84
  deriving DecidableEq, Repr

inductive DeepSelect where
  | pct80 | pct75
  deriving DecidableEq, Repr

inductive SupplyState where
  | nominal | sag | deepSag
  deriving DecidableEq, Repr

inductive ThermalState where
  | normal | derated | hold | sensorLost
  deriving DecidableEq, Repr

inductive Tier where
  | session | due | low | normal | topped
  deriving DecidableEq, Repr

/-- What PALLOC holds for a bay (Table 2-1). -/
structure PowerBay where
  toppedMark : Bool
  tier : Tier
  want : Nat
  grant : Nat
  deriving DecidableEq, Repr

structure PAlloc where
  limit : Nat
  caps : Vector Nat 6
  sagSelect : SagSelect
  deepSelect : DeepSelect
  supply : SupplyState
  belowSag : Option Nat
  belowDeep : Option Nat
  aboveSag : Option Nat
  aboveDeep : Option Nat
  thermal : ThermalState
  temp : Option Int
  invalidSamples : Nat
  /-- Time of the last sampling instant (R33). -/
  sampleSince : Nat
  /-- The supervision factor f_h, as last set by a mode change (R36). -/
  supervisionFactor : Nat
  reserve : Nat
  /-- The net bay budget N of the last pass. -/
  net : Nat
  bays : Vector PowerBay 36
  deriving DecidableEq, Repr

/-! ## Charge Control (Table 3-1) -/

inductive ChargeState where
  | off | negotiating | delivering | cooldown | lockedOut
  deriving DecidableEq, Repr

/-- CCTL's state for a bay. The setpoint code is computed from `applied` (R59). -/
structure ChargeBay where
  state : ChargeState
  demand : Nat
  grant : Nat
  applied : Nat
  trips : Nat
  negotiation : Option Nat
  ramp : Option Nat
  highSamples : Nat
  /-- Time of the last comparator sample, while sampling runs (log entry 13). -/
  lastSample : Option Nat
  /-- MODEL's own: when a door OPEN at the bay last came with power applied, two high samples standing and the
  third due: a trip at that moment falls together with the door (R46; log entry 25). -/
  thirdDue : Option Nat
  cooldown : Option Nat
  deriving DecidableEq, Repr

/-! ## Provisioning Scheduler (Tables 4-1 and 4-3) -/

inductive ProvState where
  | none | waiting | active | current | failed
  deriving DecidableEq, Repr

/-- Session outcomes (Table 4-4). -/
inductive SessionOutcome where
  | success | failedReported | expired | stalled | linkFault | removed | aborted | forced | cancelled
  | hostLost
  deriving DecidableEq, Repr

inductive Mode where
  | attended | standalone
  deriving DecidableEq, Repr

structure ProvRecord where
  state : ProvState
  wanted : Half
  installed : Half
  attempts : Nat
  lastOutcome : Option SessionOutcome
  /-- Session limit, minutes. -/
  sessionLimit : Nat
  /-- Silence limit, seconds. -/
  silenceLimit : Nat
  deriving DecidableEq, Repr

/-- The session that holds a BUSY channel (R73, R76). -/
structure Session where
  bay : Bay
  /-- Cart clock minute at the grant; `none` when the clock was unset. -/
  start : Option Nat
  wanted : Half
  sessionLimit : Nat
  silenceLimit : Nat
  /-- Start of the session timer (R77). -/
  since : Nat
  deriving DecidableEq, Repr

/-- A last ended session: its bay and its outcome. -/
structure EndedSession where
  bay : Bay
  outcome : SessionOutcome
  deriving DecidableEq, Repr

/-- A channel is BUSY while it holds a session and IDLE otherwise (R73). -/
structure Channel where
  session : Option Session
  lastEnded : Option EndedSession
  deriving DecidableEq, Repr

structure PSched where
  records : Vector ProvRecord 36
  /-- The provisioning queue, head first (R72). -/
  queue : List Bay
  channels : Vector Channel 4
  /-- The mode as SMON last handed it to PSCHED (Table 4-6). -/
  mode : Mode
  releaseThreshold : Nat
  provMinimum : Nat
  /-- The provisioning page's change count (R90). -/
  pageCount : Byte
  deriving DecidableEq, Repr

/-! ## Access Controller (Table 5-1, R109, R116) -/

inductive Bank where
  | a | b
  deriving DecidableEq, Repr

/-- The cart clock while it is set: minute-of-week, second, and the time of the last advance of the
second (R100, R101). -/
structure CartClock where
  minute : Nat
  second : Nat
  since : Nat
  deriving DecidableEq, Repr

/-- A window entry (Table 5-3). -/
structure WindowEntry where
  days : Byte
  start : Nat
  stop : Nat
  groups : Half
  deriving DecidableEq, Repr

structure Reservation where
  deadline : Nat
  token : Option Token
  deriving DecidableEq, Repr

/-- A DECIDING reader transaction (R109). -/
structure Transaction where
  token : Token
  bay : Bay
  deriving DecidableEq, Repr

structure Acc where
  activeBank : Option Bank
  activeCount : Nat
  windows : List WindowEntry
  clock : Option CartClock
  reservations : Vector (Option Reservation) 36
  /-- `none` is IDLE. -/
  transaction : Option Transaction
  service : Bool
  /-- Time of the start byte of the frame being collected on RXD; `none` while ACC searches for a start byte
  (R181). -/
  collecting : Option Nat
  deriving DecidableEq, Repr

/-! ## Custody Unit (Tables 6-3, 6-5 and 6-6) -/

inductive CustodyState where
  | inCart | pendingRelease | out | missing
  deriving DecidableEq, Repr

structure CustodyRecord where
  tag : Tag
  state : CustodyState
  bay : Option Bay
  lastBay : Option Bay
  holder : Option Token
  since : Option Nat
  deriving DecidableEq, Repr

/-- A custody slot: the record in it, if any, and its change count (R117). -/
structure CustodySlot where
  record : Option CustodyRecord
  count : Byte
  deriving DecidableEq, Repr

inductive JournalState where
  | free | held | filled
  deriving DecidableEq, Repr

inductive JournalKind where
  | checkout | returned | arrival | staffRelease | forcedOpen
  deriving DecidableEq, Repr

/-- A journal entry as it stands in shared work memory; `none` is a field with every byte at 0xFF. -/
structure JournalEntry where
  state : JournalState
  kind : Option JournalKind
  bay : Option Bay
  misplaced : Option Bool
  sequence : Option Nat
  tag : Option Tag
  holder : Option Token
  minute : Option Nat
  deriving DecidableEq, Repr

inductive ReleaseStage where
  | latchWait | window | opened
  deriving DecidableEq, Repr

inductive ReleaseKind where
  | student | teacher | staff
  deriving DecidableEq, Repr

/-- A release of a bay (Table 6-6); a bay with stage none has no `Release`. `held` is the journal entry it
holds, when it is recorded. -/
structure Release where
  stage : ReleaseStage
  kind : ReleaseKind
  holder : Option Token
  recorded : Bool
  held : Option (Fin 48)
  window : Option Nat
  deriving DecidableEq, Repr

structure Cust where
  slots : Vector CustodySlot 48
  journal : Vector JournalEntry 48
  nextSequence : Nat
  releases : Vector (Option Release) 36
  deriving DecidableEq, Repr

/-! ## Latch Driver (Table 7-1) -/

inductive LatchMode where
  | pulse | hold | off
  deriving DecidableEq, Repr

/-- A queued latch request and the start of its wait timer (R134). -/
structure LatchRequest where
  bay : Bay
  since : Nat
  deriving DecidableEq, Repr

/-- The drive record of a driving slot (R138). -/
structure Drive where
  bay : Bay
  mode : LatchMode
  pulse : Nat
  since : Nat
  releasedSeen : Bool
  deriving DecidableEq, Repr

structure Ldrv where
  queue : List LatchRequest
  /-- `none` is an idle slot. -/
  slots : Vector (Option Drive) 2
  reserveHeld : Bool
  mode : LatchMode
  pulse : Nat
  stuck : Vector Bool 36
  deriving DecidableEq, Repr

/-! ## Supervision Monitor (Table 8-1) -/

inductive WindowPhase where
  | stopped | closed | opened
  deriving DecidableEq, Repr

inductive HeartbeatFailure where
  | early | late
  deriving DecidableEq, Repr

structure Smon where
  enable : Bool
  /-- Closed phase, 100 ms units. -/
  closedPhase : Nat
  /-- Maximum, seconds. -/
  maximum : Nat
  phase : WindowPhase
  /-- Start of the window, while it runs. -/
  since : Option Nat
  lastFailure : Option HeartbeatFailure
  mode : Mode
  deriving DecidableEq, Repr

/-! ## Shared Work Memory (Chapter 9) -/

inductive ResetCause where
  | powerOn | pin | control
  deriving DecidableEq, Repr

/-- SWM's state. `mem` holds the bytes of the order area, the credential banks and the scratch, in canonical
form; every other region is the view of its owner's state (log entry 6). -/
structure Swm where
  mem : List Host.Cell
  ready : Bool
  resetCause : ResetCause
  guardArmed : Bool
  guardOffset : Option Nat
  endWord : Byte
  heartbeatWord : Byte
  /-- The change count of each bay mirror record (R24). -/
  bayCounts : Vector Byte 36
  /-- The change count of the cart page (R179). -/
  cartCount : Byte
  deriving DecidableEq, Repr

/-! ## Order Walker (Table 9-3) -/

inductive ListState where
  | idle | armed | running | stalled | done | fault
  deriving DecidableEq, Repr

inductive ListFault where
  | badLink | notPosted | tooLong | aborted
  deriving DecidableEq, Repr

/-- A record of a walked set: its offset and the bytes of it that the guard covers (R168). -/
structure WalkedRecord where
  offset : Nat
  bytes : Nat
  deriving DecidableEq, Repr

structure OrderList where
  state : ListState
  /-- The stall policy byte as written; FAIL at 1, WAIT at any other value (R179). -/
  policy : Byte
  first : Half
  taken : Nat
  faultCode : Option ListFault
  faultOffset : Option Half
  stall : Option Nat
  /-- The offset the walker reaches next, while the list is RUNNING or STALLED. -/
  next : Half
  walked : List WalkedRecord
  deriving DecidableEq, Repr

/-! ## Notice Controller (Table 10-2) -/

structure NoticeSource where
  level : Nat
  capture : Bool
  request : Bool
  inService : Bool
  deriving DecidableEq, Repr

/-- A set of the causes of source 16 (R173). -/
structure Causes where
  order : Bool
  guard : Bool
  deriving DecidableEq, Repr

structure Nctl where
  sources : Vector NoticeSource 16
  threshold : Nat
  pendingCauses : Causes
  serviceCauses : Causes
  deriving DecidableEq, Repr

/-! ## Outputs -/

/-- A verdict frame (Table 6-1): verdict code, bay or count, reason code. -/
structure VerdictFrame where
  verdict : Byte
  bayOrCount : Byte
  reason : Byte
  deriving DecidableEq, Repr

/-- MODEL's own: what the part has put on its outputs. `portData` are the data bytes of the last port read
command; `txd` are the verdict frames sent on TXD since power-on, oldest first (log entry 5). -/
structure Outputs where
  portData : List Byte
  txd : List VerdictFrame
  deriving DecidableEq, Repr

/-! ## The machine -/

structure State where
  /-- The commands that wait, first in, first out. -/
  pending : List Instr
  /-- MODEL's own: the internal timebase, ms (log entry 1). -/
  now : Nat
  /-- MODEL's own: how many either-order choices have been made (log entry 3). -/
  choices : Nat
  pins : Vector BayPins 36
  /-- The input on VSENSE, hundredths of a percent of nominal (log entry 12). -/
  vsense : Nat
  bmon : Vector BayEntry 36
  palloc : PAlloc
  cctl : Vector ChargeBay 36
  psched : PSched
  acc : Acc
  cust : Cust
  ldrv : Ldrv
  smon : Smon
  swm : Swm
  owalk : Vector OrderList 2
  nctl : Nctl
  out : Outputs
  deriving DecidableEq, Repr

/-- The machine has no fault: the spec describes no event that stops the part. -/
inductive Fault where
  deriving DecidableEq, Repr

/-- Reasons a command is refused. -/
inductive Refusal where
  /-- Raised by `exec` for a command that has no meaning yet (none: every row is modelled). Safe. -/
  | notModelled (mnemonic : String)
  deriving DecidableEq, Repr

/-! ## Reset (the machine right after power-on, before memory ready is set) -/

/-- R25 and Table 1-7. -/
def BayEntry.reset : BayEntry where
  occupancy := .empty
  presenceDebounce := none
  tag := none
  tagRead := none
  door := .opened
  doorDebounce := none
  lastOpen := none
  latch := .released
  latchDebounce := none
  level := none
  levelAge := none
  pollTimer := none
  reportWait := none
  pool := none
  path := .dark
  joined := none
  silence := none
  faultTimer := none

/-- DESIGN CHOICE (log entry 4): every bay empty, its door sensed open, its latch sensed released. -/
def BayPins.reset : BayPins where
  presence := false
  door := .opened
  latch := .released
  atFault := false

/-- R51: no bay has the SESSION or DUE tier, a level or a want. -/
def PowerBay.reset : PowerBay where
  toppedMark := false
  tier := .low
  want := 0
  grant := 0

/-- R51. The above timers start at time 0 because the input is at nominal (log entry 4). -/
def PAlloc.reset : PAlloc where
  limit := 4800
  caps := Vector.replicate 6 600
  sagSelect := .pct88
  deepSelect := .pct75
  supply := .nominal
  belowSag := none
  belowDeep := none
  aboveSag := some 0
  aboveDeep := some 0
  thermal := .sensorLost
  temp := none
  invalidSamples := 3
  sampleSince := 0
  supervisionFactor := 4
  reserve := 28
  net := 2306
  bays := Vector.replicate 36 PowerBay.reset

/-- R67. -/
def ChargeBay.reset : ChargeBay where
  state := .off
  demand := 0
  grant := 0
  applied := 0
  trips := 0
  negotiation := none
  ramp := none
  highSamples := 0
  lastSample := none
  thirdDue := none
  cooldown := none

/-- R91. -/
def ProvRecord.reset : ProvRecord where
  state := .none
  wanted := 0
  installed := 0
  attempts := 0
  lastOutcome := none
  sessionLimit := 45
  silenceLimit := 30

/-- R91. -/
def PSched.reset : PSched where
  records := Vector.replicate 36 ProvRecord.reset
  queue := []
  channels := Vector.replicate 4 { session := none, lastEnded := none }
  mode := .attended
  releaseThreshold := 60
  provMinimum := 40
  pageCount := 0

/-- R106, R116, R132. -/
def Acc.reset : Acc where
  activeBank := none
  activeCount := 0
  windows := []
  clock := none
  reservations := Vector.replicate 36 none
  transaction := none
  service := false
  collecting := none

/-- R132 and the note to Table 11-5. -/
def JournalEntry.reset : JournalEntry where
  state := .free
  kind := none
  bay := none
  misplaced := none
  sequence := none
  tag := none
  holder := none
  minute := none

/-- R132. -/
def Cust.reset : Cust where
  slots := Vector.replicate 48 { record := none, count := 0 }
  journal := Vector.replicate 48 JournalEntry.reset
  nextSequence := 1
  releases := Vector.replicate 36 none

/-- R145. -/
def Ldrv.reset : Ldrv where
  queue := []
  slots := Vector.replicate 2 none
  reserveHeld := false
  mode := .pulse
  pulse := 300
  stuck := Vector.replicate 36 false

/-- R155. -/
def Smon.reset : Smon where
  enable := false
  closedPhase := 0
  maximum := 60
  phase := .stopped
  since := none
  lastFailure := none
  mode := .attended

/-- R170: memory all zero, memory ready clear, the guard capture armed. -/
def Swm.reset : Swm where
  mem := []
  ready := false
  resetCause := .powerOn
  guardArmed := true
  guardOffset := none
  endWord := 0
  heartbeatWord := 0
  bayCounts := Vector.replicate 36 0
  cartCount := 0

/-- R171. `next` is read only while a list is RUNNING or STALLED (log entry 5). DESIGN CHOICE (log entry 30): of
the bytes that mean WAIT, which are all but 1 (R179), the header shows 0. -/
def OrderList.reset : OrderList where
  state := .idle
  policy := 0
  first := 0
  taken := 0
  faultCode := none
  faultOffset := none
  stall := none
  next := 0
  walked := []

/-- Table 10-1: source n (counted from 1) with its default level and capture, nothing set. -/
def NoticeSource.atReset (level : Nat) (capture : Bool) : NoticeSource where
  level := level
  capture := capture
  request := false
  inService := false

/-- R178: defaults of Table 10-1, with the request of POWER_ON set. -/
def Nctl.reset : Nctl where
  sources := #v[
    { NoticeSource.atReset 0 true with request := true }, NoticeSource.atReset 0 true,
    NoticeSource.atReset 1 true, NoticeSource.atReset 3 false,
    NoticeSource.atReset 2 true, NoticeSource.atReset 2 false,
    NoticeSource.atReset 2 false, NoticeSource.atReset 2 false,
    NoticeSource.atReset 4 false, NoticeSource.atReset 3 false,
    NoticeSource.atReset 4 false, NoticeSource.atReset 3 false,
    NoticeSource.atReset 5 false, NoticeSource.atReset 4 false,
    NoticeSource.atReset 6 false, NoticeSource.atReset 3 false]
  threshold := 7
  pendingCauses := { order := false, guard := false }
  serviceCauses := { order := false, guard := false }

/-- The machine right after power-on: every block at its power-on values, every page written with them,
memory ready still clear (R158, R170). -/
def State.reset : State where
  pending := []
  now := 0
  choices := 0
  pins := Vector.replicate 36 BayPins.reset
  vsense := 10000
  bmon := Vector.replicate 36 BayEntry.reset
  palloc := PAlloc.reset
  cctl := Vector.replicate 36 ChargeBay.reset
  psched := PSched.reset
  acc := Acc.reset
  cust := Cust.reset
  ldrv := Ldrv.reset
  smon := Smon.reset
  swm := Swm.reset
  owalk := Vector.replicate 2 OrderList.reset
  nctl := Nctl.reset
  out := { portData := [], txd := [] }

end Sys2Proof.Machine
end

