-- ==== Sys2Proof/Machine/Fields.lean ====
section
/-! DEFINITION. The byte values of every name (Table 11-1) and the bytes of each block's fields in the
part-written pages (Tables 11-2 to 11-7), block by block. A block's field bytes serve two ends: the pages
are put together from them (Pages.lean), and an update counts only if they change (R24, R90, R179). -/

namespace Sys2Proof.Machine

/-! ## Bytes -/

/-- A byte from a number. -/
def byteOf (n : Nat) : Byte := BitVec.ofNat 8 n

/-- The `n` bytes of `v`, least significant first (R179). -/
def leBytes : Nat → Nat → List Byte
  | 0, _ => []
  | n + 1, v => byteOf v :: leBytes n (v / 256)

/-- The number that little-endian bytes spell (R179). -/
def leNat : List Byte → Nat
  | [] => 0
  | b :: bs => b.toNat + 256 * leNat bs

/-- An absent field: every byte at 0xFF (R179). -/
def absent (n : Nat) : List Byte := List.replicate n 0xFF

/-- Pad bytes are written as 0 (R179). -/
def pad (n : Nat) : List Byte := List.replicate n 0

/-- An optional field of `n` bytes (R179). -/
def optBytes (n : Nat) : Option Nat → List Byte
  | some v => leBytes n v
  | none => absent n

def flagByte (b : Bool) : Byte := if b then 1 else 0

/-- A bay number, 1 to 36. -/
def bayByte (b : Bay) : Byte := byteOf (b.val + 1)

def optBay : Option Bay → Byte
  | some b => bayByte b
  | none => 0xFF

/-! ## Codes (Table 11-1) -/

def Occupancy.code : Occupancy → Byte
  | .empty => 0
  | .settling => 1
  | .present => 2
  | .anon => 3
  | .duplicate => 4

def Door.code : Door → Byte
  | .closed => 0
  | .opened => 1

def OpenClass.code : OpenClass → Byte
  | .released => 1
  | .forced => 2

def LatchSense.code : LatchSense → Byte
  | .locked => 0
  | .released => 1

def DataPath.code : DataPath → Byte
  | .dark => 0
  | .watch => 1
  | .joined => 2
  | .cut => 3

def Tier.code : Tier → Byte
  | .session => 0
  | .due => 1
  | .low => 2
  | .normal => 3
  | .topped => 4

def ChargeState.code : ChargeState → Byte
  | .off => 0
  | .negotiating => 1
  | .delivering => 2
  | .cooldown => 3
  | .lockedOut => 4

def ProvState.code : ProvState → Byte
  | .none => 0
  | .waiting => 1
  | .active => 2
  | .current => 3
  | .failed => 4

def SessionOutcome.code : SessionOutcome → Byte
  | .success => 1
  | .failedReported => 2
  | .expired => 3
  | .stalled => 4
  | .linkFault => 5
  | .removed => 6
  | .aborted => 7
  | .forced => 8
  | .cancelled => 9
  | .hostLost => 10

def LatchMode.code : LatchMode → Byte
  | .pulse => 0
  | .hold => 1
  | .off => 2

def CustodyState.code : CustodyState → Byte
  | .inCart => 1
  | .pendingRelease => 2
  | .out => 3
  | .missing => 4

def JournalState.code : JournalState → Byte
  | .free => 0
  | .held => 1
  | .filled => 2

def JournalKind.code : JournalKind → Byte
  | .checkout => 1
  | .returned => 2
  | .arrival => 3
  | .staffRelease => 4
  | .forcedOpen => 5

def SupplyState.code : SupplyState → Byte
  | .nominal => 0
  | .sag => 1
  | .deepSag => 2

def ThermalState.code : ThermalState → Byte
  | .normal => 0
  | .derated => 1
  | .hold => 2
  | .sensorLost => 3

def SagSelect.code : SagSelect → Byte
  | .pct92 => 0
  | .pct88 => 1
  | .pct84 => 2

def DeepSelect.code : DeepSelect → Byte
  | .pct80 => 0
  | .pct75 => 1

def Bank.code : Bank → Byte
  | .a => 1
  | .b => 2

def WindowPhase.code : WindowPhase → Byte
  | .stopped => 0
  | .closed => 1
  | .opened => 2

def HeartbeatFailure.code : HeartbeatFailure → Byte
  | .early => 1
  | .late => 2

def Mode.code : Mode → Byte
  | .attended => 0
  | .standalone => 1

def ListState.code : ListState → Byte
  | .idle => 0
  | .armed => 1
  | .running => 2
  | .stalled => 3
  | .done => 4
  | .fault => 5

def ListFault.code : ListFault → Byte
  | .badLink => 1
  | .notPosted => 2
  | .tooLong => 3
  | .aborted => 4

def ResetCause.code : ResetCause → Byte
  | .powerOn => 0
  | .pin => 1
  | .control => 2

/-- Bit 0 ORDER, bit 1 GUARD. -/
def Causes.code (c : Causes) : Byte :=
  (if c.order then 1 else 0) ||| (if c.guard then 2 else 0)

/-! ## Quantities computed from state -/

/-- R32: f_v by supply state. -/
def SupplyState.factor : SupplyState → Nat
  | .nominal => 4
  | .sag => 3
  | .deepSag => 2

/-- Table 2-4 and R34: f_t by thermal state and temperature. A DERATED cabinet has a temperature from 36
to 49. -/
def thermalFactor (st : ThermalState) (temp : Option Int) : Nat :=
  match st with
  | .normal => 16
  | .hold => 0
  | .sensorLost => 8
  | .derated =>
    match temp with
    | some t => if t ≤ 43 then (51 - t).toNat else 8
    | none => 8

def PAlloc.supplyFactor (p : PAlloc) : Nat := p.supply.factor
def PAlloc.thermalFactor (p : PAlloc) : Nat := Machine.thermalFactor p.thermal p.temp

/-- The sum of the grants of the bays that `sel` holds for. -/
def PAlloc.grantSum (p : PAlloc) (sel : Bay → Bool) : Nat :=
  (List.finRange 36).foldl (fun n b => if sel b then n + p.bays[b].grant else n) 0

/-- Sum of all grants (R47). -/
def PAlloc.grantTotal (p : PAlloc) : Nat := p.grantSum fun _ => true

/-- Sum of the grants of a shelf's bays (R47). -/
def PAlloc.shelfTotal (p : PAlloc) (s : Shelf) : Nat := p.grantSum fun b => shelfOf b == s

/-- R59: S_b = floor(P_b × 4095 / 120). -/
def setpointOf (applied : Nat) : Nat := applied * 4095 / 120

def ChargeBay.setpoint (c : ChargeBay) : Nat := setpointOf c.applied

/-- Records in use (R117). -/
def Cust.recordCount (c : Cust) : Nat :=
  (List.finRange 48).foldl (fun n i => if c.slots[i].record.isSome then n + 1 else n) 0

/-- Latch request states (R144). -/
inductive LatchRequestState where
  | none | queued | driving | drivingQueued
  deriving DecidableEq, Repr

def LatchRequestState.code : LatchRequestState → Byte
  | .none => 0
  | .queued => 1
  | .driving => 2
  | .drivingQueued => 3

def Ldrv.queued (l : Ldrv) (b : Bay) : Bool := l.queue.any fun r => r.bay == b

def Ldrv.slotDrives (l : Ldrv) (k : Slot) (b : Bay) : Bool :=
  match l.slots[k] with
  | some d => d.bay == b
  | none => false

/-- A slot is driving the bay. -/
def Ldrv.driving (l : Ldrv) (b : Bay) : Bool := l.slotDrives 0 b || l.slotDrives 1 b

/-- R144. -/
def Ldrv.requestState (l : Ldrv) (b : Bay) : LatchRequestState :=
  match l.queued b, l.driving b with
  | false, false => .none
  | true, false => .queued
  | false, true => .driving
  | true, true => .drivingQueued

/-! ## Fields of the bay mirror record by writer (Tables 1-6 and 11-3) -/

/-- BMON's fields, offsets 0x01 to 0x0E. -/
def BayEntry.fields (e : BayEntry) : List Byte :=
  [e.occupancy.code] ++ optBytes 6 (e.tag.map BitVec.toNat) ++
  [e.door.code, (e.lastOpen.map OpenClass.code).getD 0xFF, e.latch.code,
    (e.level.map byteOf).getD 0xFF, (e.pool.map byteOf).getD 0xFF, e.path.code,
    (e.joined.map fun c => byteOf (c.val + 1)).getD 0xFF]

/-- PALLOC's fields, offsets 0x10 to 0x12. -/
def PowerBay.fields (p : PowerBay) : List Byte := [p.tier.code, byteOf p.want, byteOf p.grant]

/-- CCTL's fields, offsets 0x13 to 0x18. -/
def ChargeBay.fields (c : ChargeBay) : List Byte :=
  [c.state.code, byteOf c.demand, byteOf c.applied] ++ leBytes 2 c.setpoint ++ [byteOf c.trips]

/-- PSCHED's fields, offsets 0x19 to 0x21. -/
def ProvRecord.fields (r : ProvRecord) : List Byte :=
  [r.state.code] ++ leBytes 2 r.wanted.toNat ++ leBytes 2 r.installed.toNat ++
  [byteOf r.attempts, (r.lastOutcome.map SessionOutcome.code).getD 0xFF, byteOf r.sessionLimit,
    byteOf r.silenceLimit]

/-- LDRV's fields, offsets 0x22 and 0x23. -/
def Ldrv.bayFields (l : Ldrv) (b : Bay) : List Byte :=
  [(l.requestState b).code, flagByte l.stuck[b]]

/-- ACC's fields, offsets 0x24 to 0x2D. -/
def reservationFields (r : Option Reservation) : List Byte :=
  optBytes 2 (r.map Reservation.deadline) ++ optBytes 8 ((r.bind Reservation.token).map BitVec.toNat)

/-! ## Fields of the cart page by writer (Table 11-2) -/

/-- PALLOC's part, offsets 0x02 to 0x2B. -/
def PAlloc.cartFields (p : PAlloc) : List Byte :=
  leBytes 2 p.limit ++ (List.finRange 6).flatMap (fun s => leBytes 2 p.caps[s]) ++
  [p.sagSelect.code, p.deepSelect.code, p.supply.code, byteOf p.supplyFactor, p.thermal.code,
    byteOf p.thermalFactor, (p.temp.map fun t => byteOf (t + 64).toNat).getD 0xFF,
    byteOf p.supervisionFactor, byteOf p.reserve, 0] ++
  leBytes 2 p.net ++ leBytes 2 p.grantTotal ++ leBytes 2 (p.net - p.grantTotal) ++
  (List.finRange 6).flatMap (fun s => leBytes 2 (p.shelfTotal s))

/-- ACC's part, offsets 0x2C to 0x33. -/
def Acc.cartFields (a : Acc) : List Byte :=
  [(a.activeBank.map Bank.code).getD 0, byteOf a.windows.length] ++ leBytes 2 a.activeCount ++
  optBytes 2 (a.clock.map CartClock.minute) ++
  [(a.clock.map fun c => byteOf c.second).getD 0xFF, flagByte a.service]

/-- CUST's part, offsets 0x34 to 0x39. -/
def Cust.cartFields (c : Cust) : List Byte :=
  [byteOf c.recordCount, 0] ++ leBytes 4 c.nextSequence

/-- LDRV's part, offsets 0x3A to 0x3E. -/
def Ldrv.cartFields (l : Ldrv) : List Byte :=
  [l.mode.code, byteOf l.queue.length] ++ leBytes 2 l.pulse ++ [flagByte l.reserveHeld]

/-- SMON's part, offsets 0x3F to 0x45. -/
def Smon.cartFields (m : Smon) : List Byte :=
  [flagByte m.enable] ++ leBytes 2 m.closedPhase ++
  [byteOf m.maximum, m.phase.code, (m.lastFailure.map HeartbeatFailure.code).getD 0, m.mode.code]

/-- SWM's part, offsets 0x46 and 0x47. -/
def Swm.cartFields (w : Swm) : List Byte := optBytes 2 w.guardOffset

/-! ## Custody slot, journal entry, provisioning page, list header (Tables 11-4 to 11-9) -/

/-- Offsets 0x01 to 0x13 of a custody slot. -/
def custodyFields : Option CustodyRecord → List Byte
  | none => absent 19
  | some r =>
    [r.state.code] ++ leBytes 6 r.tag.toNat ++ [optBay r.bay, optBay r.lastBay] ++
    optBytes 8 (r.holder.map BitVec.toNat) ++ optBytes 2 r.since

/-- Offsets 0x00 to 0x17 of a journal entry. -/
def JournalEntry.fields (e : JournalEntry) : List Byte :=
  [e.state.code, (e.kind.map JournalKind.code).getD 0xFF, optBay e.bay,
    (e.misplaced.map flagByte).getD 0xFF] ++
  optBytes 4 e.sequence ++ optBytes 6 (e.tag.map BitVec.toNat) ++
  optBytes 8 (e.holder.map BitVec.toNat) ++ optBytes 2 e.minute

/-- Offsets 0x00 to 0x09 of a channel record; while IDLE the session's fields are 0xFF (Table 11-7). -/
def Channel.fields (c : Channel) : List Byte :=
  (match c.session with
    | some x =>
      [1, bayByte x.bay] ++ optBytes 2 x.start ++ leBytes 2 x.wanted.toNat ++
      [byteOf x.sessionLimit, byteOf x.silenceLimit]
    | none => 0 :: absent 7) ++
  (match c.lastEnded with
    | some e => [bayByte e.bay, e.outcome.code]
    | none => absent 2)

/-- The contents of the provisioning page without its change count (Table 4-6): the first five fields, the
36 queue positions and the four channel records. -/
def PSched.pageFields (p : PSched) : List Byte :=
  [p.mode.code, byteOf p.releaseThreshold, byteOf p.provMinimum, byteOf p.queue.length] ++ pad 11 ++
  (List.range 36).map (fun i => ((p.queue[i]?).map bayByte).getD 0xFF) ++ pad 12 ++
  (List.finRange 4).flatMap (fun c => p.channels[c].fields ++ pad 22)

/-- Offsets 0x00 to 0x07 of a list header. -/
def OrderList.fields (l : OrderList) : List Byte :=
  [l.state.code, l.policy] ++ leBytes 2 l.first.toNat ++
  [byteOf l.taken, (l.faultCode.map ListFault.code).getD 0xFF] ++
  optBytes 2 (l.faultOffset.map BitVec.toNat)

end Sys2Proof.Machine
end

