-- ==== Sys2Proof/Machine/Ops.lean ====
section
/-! DEFINITION. The named operations over the state: one setter per block, the updates that count in the
part-written pages (R23, R24, R90, R179), timers, either-order choices, and the stored bytes of shared work
memory in canonical form. -/

namespace Sys2Proof.Machine

/-! ## One setter per block -/

def State.withPending (s : State) (x : List Instr) : State :=
  { s with pending := x }

def State.withNow (s : State) (x : Nat) : State :=
  { s with now := x }

def State.withChoices (s : State) (x : Nat) : State :=
  { s with choices := x }

def State.withPins (s : State) (x : Vector BayPins 36) : State :=
  { s with pins := x }

def State.withVsense (s : State) (x : Nat) : State :=
  { s with vsense := x }

def State.withBmon (s : State) (x : Vector BayEntry 36) : State :=
  { s with bmon := x }

def State.withPalloc (s : State) (x : PAlloc) : State :=
  { s with palloc := x }

def State.withCctl (s : State) (x : Vector ChargeBay 36) : State :=
  { s with cctl := x }

def State.withPsched (s : State) (x : PSched) : State :=
  { s with psched := x }

def State.withAcc (s : State) (x : Acc) : State :=
  { s with acc := x }

def State.withCust (s : State) (x : Cust) : State :=
  { s with cust := x }

def State.withLdrv (s : State) (x : Ldrv) : State :=
  { s with ldrv := x }

def State.withSmon (s : State) (x : Smon) : State :=
  { s with smon := x }

def State.withSwm (s : State) (x : Swm) : State :=
  { s with swm := x }

def State.withOwalk (s : State) (x : Vector OrderList 2) : State :=
  { s with owalk := x }

def State.withNctl (s : State) (x : Nctl) : State :=
  { s with nctl := x }

def State.withOut (s : State) (x : Outputs) : State :=
  { s with out := x }

/-! ## Timers (log entry 1) -/

/-- A running timer has reached `limit` ms. -/
def due (start : Option Nat) (limit now : Nat) : Bool :=
  match start with
  | some t => decide (t + limit ≤ now)
  | none => false

/-- A running wait has not yet passed `limit` ms. -/
def within (start : Option Nat) (limit now : Nat) : Bool :=
  match start with
  | some t => decide (now ≤ t + limit)
  | none => false

/-- A timer whose condition `cond` holds keeps its count, starts now if it was stopped, and is cleared
when the condition ends (R29). -/
def runWhile (cond : Bool) (timer : Option Nat) (now : Nat) : Option Nat :=
  if cond then some (timer.getD now) else none

/-- A timer cleared to zero: it runs on from now if its condition still holds (R29, R31). -/
def restartWhile (cond : Bool) (now : Nat) : Option Nat :=
  if cond then some now else none

/-! ## Either order (log entry 3) -/

/-- Two events or recipients that may be taken in either order: a free value says which is first. -/
def eitherOrder (f g : State → State) (s : State) : State :=
  if Config.firstTaken s.choices then g (f (s.withChoices (s.choices + 1)))
  else f (g (s.withChoices (s.choices + 1)))

/-! ## Stored bytes of shared work memory (R170: all zero at power-on, so an unlisted byte reads 0) -/

/-- The stored byte at an address. -/
def Memory.read : List Host.Cell → Nat → Byte
  | [], _ => 0
  | c :: m, a => if c.1 = a then c.2 else Memory.read m a

/-- Store a byte, keeping the addresses rising and no cell at 0. -/
def Memory.write : List Host.Cell → Nat → Byte → List Host.Cell
  | [], a, v => if v = 0 then [] else [(a, v)]
  | c :: m, a, v =>
    if c.1 < a then c :: Memory.write m a v
    else if c.1 = a then (if v = 0 then m else (a, v) :: m)
    else if v = 0 then c :: m else (a, v) :: c :: m

/-- Store bytes at consecutive addresses. -/
def Memory.writeList (m : List Host.Cell) (a : Nat) : List Byte → List Host.Cell
  | [] => m
  | v :: vs => Memory.writeList (Memory.write m a v) (a + 1) vs

/-- The canonical form: addresses strictly rising, no cell equal to what an unlisted address reads as. -/
abbrev Memory.wf (m : List Host.Cell) : Prop :=
  m.Pairwise (fun c d => c.1 < d.1) ∧ ∀ c ∈ m, c.2 ≠ 0

/-- `n` stored bytes from an address. -/
def Memory.bytes (m : List Host.Cell) (a n : Nat) : List Byte :=
  (List.range n).map fun i => Memory.read m (a + i)

/-- A little-endian field of `n` stored bytes. -/
def Memory.field (m : List Host.Cell) (a n : Nat) : Nat := leNat (Memory.bytes m a n)

/-- Replace the stored bytes. -/
def State.withMem (s : State) (m : List Host.Cell) : State := s.withSwm { s.swm with mem := m }

/-! ## Change counts -/

/-- One more update of every bay record that `changed` holds for (R24). -/
def State.bumpBays (s : State) (changed : Bay → Bool) : State :=
  s.withSwm { s.swm with
    bayCounts := Vector.ofFn fun b : Bay =>
      if changed b then s.swm.bayCounts[b] + 1 else s.swm.bayCounts[b] }

/-- One more update of one bay record, if it changed (R24). -/
def State.bumpBay (s : State) (b : Bay) (changed : Bool) : State :=
  if changed then
    s.withSwm { s.swm with bayCounts := s.swm.bayCounts.set b (s.swm.bayCounts[b] + 1) }
  else s

/-- One more update of the cart page, if it changed (R179). -/
def State.bumpCart (s : State) (changed : Bool) : State :=
  if changed then s.withSwm { s.swm with cartCount := s.swm.cartCount + 1 } else s

/-! ## Updates that a block makes for one event -/

/-- BMON's update of a bay entry and of its fields in the bay mirror (R23). -/
def State.setEntry (s : State) (b : Bay) (e : BayEntry) : State :=
  (s.withBmon (s.bmon.set b e)).bumpBay b (e.fields != s.bmon[b].fields)

/-- CCTL's update of a bay (R65). -/
def State.setCharge (s : State) (b : Bay) (c : ChargeBay) : State :=
  (s.withCctl (s.cctl.set b c)).bumpBay b (c.fields != s.cctl[b].fields)

/-- PALLOC's update of its own state and of its part of the cart page. -/
def State.setPalloc (s : State) (p : PAlloc) : State :=
  (s.withPalloc p).bumpCart (p.cartFields != s.palloc.cartFields)

/-- ACC's update of its tables and of its part of the cart page. -/
def State.setAcc (s : State) (a : Acc) : State :=
  (s.withAcc a).bumpCart (a.cartFields != s.acc.cartFields)

/-- ACC's update of a bay's reservation (R102). -/
def State.setReservation (s : State) (b : Bay) (r : Option Reservation) : State :=
  (s.withAcc { s.acc with reservations := s.acc.reservations.set b r }).bumpBay b
    (reservationFields r != reservationFields s.acc.reservations[b])

/-- SMON's update of its state and of its part of the cart page (Section 8.1). -/
def State.setSmon (s : State) (m : Smon) : State :=
  (s.withSmon m).bumpCart (m.cartFields != s.smon.cartFields)

/-- CUST's update of one custody slot (R117). -/
def State.setSlot (s : State) (i : Fin 48) (r : Option CustodyRecord) : State :=
  s.withCust { s.cust with
    slots := s.cust.slots.set i
      { record := r
        count := if custodyFields r != custodyFields s.cust.slots[i].record
          then s.cust.slots[i].count + 1 else s.cust.slots[i].count } }

/-- CUST's update of one journal entry. -/
def State.setJournal (s : State) (j : Fin 48) (e : JournalEntry) : State :=
  s.withCust { s.cust with journal := s.cust.journal.set j e }

/-- CUST's update of a bay's release slot, which is internal (R120). -/
def State.setRelease (s : State) (b : Bay) (r : Option Release) : State :=
  s.withCust { s.cust with releases := s.cust.releases.set b r }

/-- PSCHED's update of one provisioning record; it is written into the mirror when the event ends. -/
def State.setProv (s : State) (b : Bay) (r : ProvRecord) : State :=
  s.withPsched { s.psched with records := s.psched.records.set b r }

def State.setQueue (s : State) (q : List Bay) : State :=
  s.withPsched { s.psched with queue := q }

def State.setChannel (s : State) (c : Chan) (x : Channel) : State :=
  s.withPsched { s.psched with channels := s.psched.channels.set c x }

def State.setList (s : State) (i : ListId) (l : OrderList) : State :=
  s.withOwalk (s.owalk.set i l)

def State.setPins (s : State) (b : Bay) (p : BayPins) : State :=
  s.withPins (s.pins.set b p)

/-- One event at PSCHED: all it changes in a bay record is one update of that record, and all it changes
on the provisioning page is one update of the page (R69, R90). -/
def pschedEvent (f : State → State) (s : State) : State :=
  let t := (f s).bumpBays fun b =>
    (f s).psched.records[b].fields != s.psched.records[b].fields
  if t.psched.pageFields != s.psched.pageFields then
    t.withPsched { t.psched with pageCount := t.psched.pageCount + 1 }
  else t

/-- One event at CUST: all it changes of the record count and the next sequence number is one update of
the cart page (R117, R118; log entry 7). -/
def custEvent (f : State → State) (s : State) : State :=
  (f s).bumpCart ((f s).cust.cartFields != s.cust.cartFields)

/-- One event at LDRV: all it changes in a bay record is one update of that record, and all it changes of
LDRV's part of the cart page is one update of that page (R144). -/
def ldrvEvent (f : State → State) (s : State) : State :=
  ((f s).bumpBays fun b => (f s).ldrv.bayFields b != s.ldrv.bayFields b).bumpCart
    ((f s).ldrv.cartFields != s.ldrv.cartFields)

/-! ## Readings of the state that several blocks make -/

/-- The channel that is BUSY with a bay (R38, R73). -/
def PSched.channelOf (p : PSched) (b : Bay) : Option Chan :=
  (List.finRange 4).find? fun c =>
    match p.channels[c].session with
    | some x => x.bay == b
    | none => false

/-- The cart clock's present minute; absent while it is unset (R100). -/
def State.minute (s : State) : Option Nat := s.acc.clock.map CartClock.minute

/-- A custody record is located at a bay while it is IN_CART or PENDING_RELEASE and names it (R117). -/
def CustodyRecord.locatedAt (r : CustodyRecord) (b : Bay) : Bool :=
  (r.state == .inCart || r.state == .pendingRelease) && r.bay == some b

/-- The slot of the record located at a bay. -/
def Cust.slotAt (c : Cust) (b : Bay) : Option (Fin 48) :=
  (List.finRange 48).find? fun i =>
    match c.slots[i].record with
    | some r => r.locatedAt b
    | none => false

/-- The record located at a bay. -/
def Cust.recordAt (c : Cust) (b : Bay) : Option CustodyRecord :=
  (c.slotAt b).bind fun i => c.slots[i].record

/-- The slot of the record of a tag. -/
def Cust.slotOf (c : Cust) (t : Tag) : Option (Fin 48) :=
  (List.finRange 48).find? fun i =>
    match c.slots[i].record with
    | some r => r.tag == t
    | none => false

/-- The custody record located at a bay is IN_CART (R74, R111). -/
def Cust.inCartAt (c : Cust) (b : Bay) : Bool :=
  match c.recordAt b with
  | some r => r.state == .inCart
  | none => false

/-- The lowest-numbered FREE journal entry (R118). -/
def Cust.freeEntry (c : Cust) : Option (Fin 48) :=
  (List.finRange 48).find? fun j => c.journal[j].state == .free

/-- The number of FREE journal entries (R118). -/
def Cust.freeCount (c : Cust) : Nat :=
  (List.finRange 48).countP fun j => c.journal[j].state == .free

end Sys2Proof.Machine
end

