-- ==== Sys2Proof/Machine/Flags.lean ====
section
/-! DEFINITION. The Notice Controller (Chapter 10): the sources, the presentable test, ATTN, PEEK, TAKE, END,
and the two STATUS bytes (Table 11-14). ATTN, the PEEK word and the highest presentable level are computed
from the sources whenever they are read, so they follow every event within that event (R174). -/

namespace Sys2Proof.Machine

/-- The notice sources of Table 10-1, by name. -/
inductive Notice where
  | powerOn | forcedOpen | hostLate | hostRestored | bayFault | latchFault | thermal | supply
  | checkout | journalLow | misplaced | custodyFull | provDone | provFailed | listDone | orderFault
  deriving DecidableEq, Repr

/-- Position of a source: source number n of Table 10-1 is position n − 1. -/
def Notice.index : Notice → Fin 16
  | .powerOn => 0
  | .forcedOpen => 1
  | .hostLate => 2
  | .hostRestored => 3
  | .bayFault => 4
  | .latchFault => 5
  | .thermal => 6
  | .supply => 7
  | .checkout => 8
  | .journalLow => 9
  | .misplaced => 10
  | .custodyFull => 11
  | .provDone => 12
  | .provFailed => 13
  | .listDone => 14
  | .orderFault => 15

/-- Source 16 (R173). -/
abbrev source16 : Fin 16 := 15

/-- Every source in service has a level above `level` (R174: "strictly lower than the level of every source
that is in service"). -/
def Nctl.belowService (n : Nctl) (level : Nat) : Bool :=
  (List.finRange 16).all fun i => !n.sources[i].inService || decide (level < n.sources[i].level)

/-- R174: the presentable test. -/
def Nctl.presentable (n : Nctl) (i : Fin 16) : Bool :=
  n.sources[i].request && !n.sources[i].inService && n.sources[i].capture &&
    decide (n.sources[i].level ≤ n.threshold) && n.belowService n.sources[i].level

/-- The source of lowest level among those that `sel` holds for, the lowest number among equals. -/
def Nctl.best (n : Nctl) (sel : Fin 16 → Bool) : Option (Fin 16) :=
  (List.finRange 16).foldl
    (fun best i =>
      if sel i then
        match best with
        | none => some i
        | some j => if n.sources[i].level < n.sources[j].level then some i else some j
      else best)
    none

/-- R174: the highest presentable source. -/
def Nctl.highest (n : Nctl) : Option (Fin 16) := n.best n.presentable

/-- R174: ATTN is asserted exactly when at least one source is presentable. -/
def State.attn (s : State) : Bool := s.nctl.highest.isSome

/-- A source's number as the TAKE and PEEK words carry it; 0xFF for none. -/
def sourceByte : Option (Fin 16) → Byte
  | some i => byteOf (i.val + 1)
  | none => 0xFF

/-- The PEEK word (R174). -/
def Nctl.peek (n : Nctl) : Byte := sourceByte n.highest

/-- An event at source `i` (R172): lost with capture off; otherwise the request is set. -/
def Nctl.event (n : Nctl) (i : Fin 16) : Nctl :=
  if n.sources[i].capture then
    { n with sources := n.sources.set i { n.sources[i] with request := true } }
  else n

/-- A block raises a notice (R172). -/
def raise (x : Notice) (s : State) : State := s.withNctl (s.nctl.event x.index)

/-- An event at source 16 with its cause (R173). -/
def Nctl.event16 (n : Nctl) (cause : Causes) : Nctl :=
  if n.sources[source16].capture then
    { n.event source16 with
      pendingCauses :=
        { order := n.pendingCauses.order || cause.order
          guard := n.pendingCauses.guard || cause.guard } }
  else n

/-- OWALK raises ORDER_FAULT with the cause ORDER (R165, R173). -/
def raiseOrderFault (s : State) : State :=
  s.withNctl (s.nctl.event16 { order := true, guard := false })

/-- SWM raises GUARD_HIT: source 16 with the cause GUARD (R161, R173). -/
def raiseGuardHit (s : State) : State :=
  s.withNctl (s.nctl.event16 { order := false, guard := true })

/-- The state of NCTL after a TAKE that returns source `i` (R175). -/
def Nctl.taken (n : Nctl) (i : Fin 16) : Nctl :=
  let n' := { n with
    sources := n.sources.set i { n.sources[i] with request := false, inService := true } }
  if i = source16 then
    { n' with
      serviceCauses :=
        { order := n.serviceCauses.order || n.pendingCauses.order
          guard := n.serviceCauses.guard || n.pendingCauses.guard }
      pendingCauses := { order := false, guard := false } }
  else n'

/-- One TAKE (R175); a TAKE that returns source 16 arms SWM's guard capture (R161, R173). -/
def take (s : State) : State :=
  match s.nctl.highest with
  | none => s
  | some i =>
    let t := s.withNctl (s.nctl.taken i)
    if i = source16 then t.withSwm { t.swm with guardArmed := true } else t

/-- Clear the in-service state of source `i` (R176). -/
def Nctl.ended (n : Nctl) (i : Fin 16) : Nctl :=
  let n' := { n with sources := n.sources.set i { n.sources[i] with inService := false } }
  if i = source16 then { n' with serviceCauses := { order := false, guard := false } } else n'

/-- One END carrying the value `v` (R176). -/
def Nctl.endWord (n : Nctl) (v : Byte) : Nctl :=
  if h : 1 ≤ v.toNat ∧ v.toNat ≤ 16 then
    let i : Fin 16 := ⟨v.toNat - 1, by omega⟩
    if n.sources[i].inService then n.ended i else n
  else if v = 0xFF then
    match n.best fun i => n.sources[i].inService with
    | some i => n.ended i
    | none => n
  else n

/-- HOST_LATE is outstanding when its request is set or it is in service (R151). -/
def Nctl.hostLateOutstanding (n : Nctl) : Bool :=
  n.sources[Notice.hostLate.index].request || n.sources[Notice.hostLate.index].inService

/-- STATUS byte 0: bit 0 memory ready, bit 1 mode, bit 2 SERVICE, bits 4 and 5 reset cause (Table 11-14). -/
def State.status0 (s : State) : Byte :=
  flagByte s.swm.ready ||| (s.smon.mode.code <<< 1) ||| (flagByte s.acc.service <<< 2) |||
    (s.swm.resetCause.code <<< 4)

/-- STATUS byte 1: the highest presentable level, or 0xFF for none (Table 11-14). -/
def State.status1 (s : State) : Byte :=
  match s.nctl.highest with
  | some i => byteOf s.nctl.sources[i].level
  | none => 0xFF

end Sys2Proof.Machine
end

