-- ==== Sys2Proof/Machine/Operands.lean ====
section
/-! DEFINITION. Operands that a command takes from bytes: the fields of an order record (Tables 11-10 and
11-11), the entries of a credential bank and of a window set (Tables 11-12 and 11-13), and the two reader
frames (Table 11-15). -/

namespace Sys2Proof.Machine

/-! ## Order kinds and outcomes -/

/-- The 17 order kinds of Table 9-6. -/
inductive OrderKind where
  | setLimits | setThresholds | bayConfig | reserve | provision | cancelProvision | sessionEnd
  | commitCredentials | commitWindows | setClock | releaseBay | custodyRestore | forgetTablet
  | setLatchMode | clearFault | setNotice | setSupervision
  deriving DecidableEq, Repr

/-- Table 11-11: the kind a code names. -/
def OrderKind.ofCode (c : Byte) : Option OrderKind :=
  match c.toNat with
  | 0x01 => some .setLimits
  | 0x02 => some .setThresholds
  | 0x03 => some .bayConfig
  | 0x04 => some .reserve
  | 0x05 => some .provision
  | 0x06 => some .cancelProvision
  | 0x07 => some .sessionEnd
  | 0x08 => some .commitCredentials
  | 0x09 => some .commitWindows
  | 0x0A => some .setClock
  | 0x0B => some .releaseBay
  | 0x0C => some .custodyRestore
  | 0x0D => some .forgetTablet
  | 0x0E => some .setLatchMode
  | 0x0F => some .clearFault
  | 0x10 => some .setNotice
  | 0x11 => some .setSupervision
  | _ => none

/-- The units of 16 bytes a record of the kind needs (Table 11-11); `count` is the byte at 0x0C, which
COMMIT_WINDOWS reads: a count above 12 needs the one unit that holds it (R166 step 5). -/
def OrderKind.units (k : OrderKind) (count : Nat) : Nat :=
  match k with
  | .setLimits => 2
  | .setThresholds => 1
  | .bayConfig => 1
  | .reserve => 2
  | .provision => 2
  | .cancelProvision => 2
  | .sessionEnd => 1
  | .commitCredentials => 1
  | .commitWindows => if count ≤ Config.windowRoom then 1 + (count + 1) / 2 else 1
  | .setClock => 1
  | .releaseBay => 2
  | .custodyRestore => 2
  | .forgetTablet => 2
  | .setLatchMode => 1
  | .clearFault => 1
  | .setNotice => 1
  | .setSupervision => 1

/-- Outcome codes (Table 9-7). -/
inductive OrderOutcome where
  | done | doneClamped | badField | busy | badState | notFound | full | tooLate | mismatch
  | unknownKind | badLength
  deriving DecidableEq, Repr

def OrderOutcome.code : OrderOutcome → Byte
  | .done => 0x00
  | .doneClamped => 0x01
  | .badField => 0x10
  | .busy => 0x11
  | .badState => 0x12
  | .notFound => 0x13
  | .full => 0x14
  | .tooLate => 0x15
  | .mismatch => 0x16
  | .unknownKind => 0x17
  | .badLength => 0x18

/-- R168: TAKEN for DONE and DONE_CLAMPED, REFUSED for every REFUSED_ code. -/
def OrderOutcome.recordState : OrderOutcome → Byte
  | .done => 2
  | .doneClamped => 2
  | _ => 3

/-- What an order's owner answers: outcome and detail (R168). -/
structure Answer where
  outcome : OrderOutcome
  detail : Nat
  deriving DecidableEq, Repr

def Answer.done : Answer := ⟨.done, 0⟩
def Answer.badField (detail : Nat) : Answer := ⟨.badField, detail⟩
def Answer.busy (detail : Nat) : Answer := ⟨.busy, detail⟩

/-- DONE_CLAMPED if a value was brought into range, DONE otherwise. -/
def Answer.clamped (c : Bool) (detail : Nat) : Answer := ⟨if c then .doneClamped else .done, detail⟩

/-! ## Fields of an order record -/

/-- A byte field of the record at `off`. -/
def State.field1 (s : State) (off pos : Nat) : Byte := Memory.read s.swm.mem (off + pos)

/-- A little-endian field of `n` bytes of the record at `off`. -/
def State.fieldN (s : State) (off pos n : Nat) : Nat := Memory.field s.swm.mem (off + pos) n

/-- An optional field: absent with every byte at 0xFF (R179). -/
def State.fieldOpt (s : State) (off pos n : Nat) : Option Nat :=
  if s.fieldN off pos n = 256 ^ n - 1 then none else some (s.fieldN off pos n)

/-- An optional token field. -/
def State.fieldToken (s : State) (off pos : Nat) : Option Token :=
  (s.fieldOpt off pos 8).map (BitVec.ofNat 64)

/-- A tag field. -/
def State.fieldTag (s : State) (off pos : Nat) : Tag := BitVec.ofNat 48 (s.fieldN off pos 6)

/-- A bay number from 1 to 36. -/
def bayOfNumber (n : Nat) : Option Bay :=
  if h : 1 ≤ n ∧ n ≤ 36 then some ⟨n - 1, by omega⟩ else none

/-- A channel number from 1 to 4. -/
def chanOfNumber (n : Nat) : Option Chan :=
  if h : 1 ≤ n ∧ n ≤ 4 then some ⟨n - 1, by omega⟩ else none

/-- The tag with every byte at 0xFF is not a tag (R3). -/
abbrev noTag : Tag := BitVec.allOnes 48

/-- The token with every byte at 0xFF is not a token (Table 5-2). -/
abbrev noToken : Token := BitVec.allOnes 64

/-- Bring a value into a range. -/
def clampTo (lo hi n : Nat) : Nat := max lo (min hi n)

/-! ## Credential entries (Table 11-12) -/

/-- The first byte of a bank (Table 9-2). -/
def Bank.base : Bank → Nat
  | .a => 0x3800
  | .b => 0x5800

inductive Role where
  | student | teacher | technician
  deriving DecidableEq, Repr

def Role.ofCode (c : Byte) : Option Role :=
  match c.toNat with
  | 1 => some .student
  | 2 => some .teacher
  | 3 => some .technician
  | _ => none

/-- A credential entry as its bytes stand. -/
structure CredentialEntry where
  token : Nat
  role : Byte
  group : Byte
  homeBay : Byte
  status : Byte
  deriving DecidableEq, Repr

/-- Entry `k` of a bank. -/
def credentialAt (m : List Host.Cell) (bank : Bank) (k : Nat) : CredentialEntry where
  token := Memory.field m (bank.base + 16 * k) 8
  role := Memory.read m (bank.base + 16 * k + 8)
  group := Memory.read m (bank.base + 16 * k + 9)
  homeBay := Memory.read m (bank.base + 16 * k + 10)
  status := Memory.read m (bank.base + 16 * k + 11)

/-! ## Reader frames (R181, Table 11-15) -/

/-- The 8-bit sum of bytes. -/
def byteSum (bs : List Byte) : Byte := bs.foldl (· + ·) 0

/-- The token of the 10 bytes collected after a start byte, if the type is 0x01 and the check passes. -/
def tokenOfFrame (frame : List Byte) : Option Token :=
  match frame with
  | [t, b0, b1, b2, b3, b4, b5, b6, b7, c] =>
    if t = 0x01 ∧ byteSum [t, b0, b1, b2, b3, b4, b5, b6, b7, c] = 0 then
      some (BitVec.ofNat 64 (leNat [b0, b1, b2, b3, b4, b5, b6, b7]))
    else none
  | _ => none

/-- The 10 bytes a reader sends after the start byte for a token. -/
def frameOfToken (t : Token) : List Byte :=
  ((0x01 : Byte) :: leBytes 8 t.toNat) ++ [-(byteSum ((0x01 : Byte) :: leBytes 8 t.toNat))]

/-- The 6 bytes of a verdict frame (Table 11-15, check byte by R181). -/
def VerdictFrame.bytes (v : VerdictFrame) : List Byte :=
  [0xA5, 0x02, v.verdict, v.bayOrCount, v.reason, -(0x02 + v.verdict + v.bayOrCount + v.reason)]

end Sys2Proof.Machine
end

