-- ==== Sys2Proof/Machine/Charger.lean ====
section
/-! DEFINITION. What Charge Control does at one bay (Chapter 3), as functions of that bay's CCTL state and
the time. Each change of the applied power is a change of the setpoint code (R59). -/

namespace Sys2Proof.Machine

/-- Set the applied power. A change of the setpoint code clears the over-current sample count, and sampling
stops when the applied power becomes 0 (R60). -/
def ChargeBay.setApplied (c : ChargeBay) (p : Nat) : ChargeBay :=
  if p = c.applied then c
  else { c with applied := p, highSamples := 0, lastSample := if p = 0 then none else c.lastSample }

/-- The ramp timer runs while the bay is DELIVERING and its applied power is below its grant; a running
timer keeps its phase (R58). -/
def ChargeBay.syncRamp (c : ChargeBay) (now : Nat) : ChargeBay :=
  { c with ramp := runWhile (c.state == .delivering && decide (c.applied < c.grant)) c.ramp now }

/-- R60: 1 ms has passed since the last sample of the bay's comparator (log entry 13). -/
def ChargeBay.sampleDue (c : ChargeBay) (now : Nat) : Bool :=
  match c.lastSample with
  | some t => decide (t + Config.samplePeriod ≤ now)
  | none => true

/-- A door OPEN at a bay, before its pass: it falls together with the third high sample, if that one is due
(R46; DEDUCED, log entry 25). -/
def ChargeBay.noteDoor (c : ChargeBay) (now : Nat) : ChargeBay :=
  if c.state = .delivering ∧ 0 < c.applied ∧ c.highSamples = 2 ∧ c.sampleDue now = true then
    { c with thirdDue := some now }
  else c

/-- A grant handed by PALLOC (R57, R58): a grant below the applied power cuts it at once. -/
def ChargeBay.takeGrant (c : ChargeBay) (now g : Nat) : ChargeBay :=
  ({ c.setApplied (min c.applied g) with grant := g }).syncRamp now

/-- The start of a negotiation, on an attach, a cooldown expiry or CLEAR_FAULT (R53, R62, R66). -/
def ChargeBay.negotiate (c : ChargeBay) (now : Nat) : ChargeBay :=
  { c with state := .negotiating, demand := 0, negotiation := some now, cooldown := none }

/-- The entry to DELIVERING with a demand (R54, R55). -/
def ChargeBay.deliver (c : ChargeBay) (now d : Nat) : ChargeBay :=
  ({ c with state := .delivering, demand := d, negotiation := none }).syncRamp now

/-- One expiry of the ramp timer at time `t` (R58): the smaller of 16 qW and the gap is added. -/
def ChargeBay.rampUp (c : ChargeBay) (t : Nat) : ChargeBay :=
  let c' := c.setApplied (c.applied + min Config.rampStep (c.grant - c.applied))
  { c' with ramp := if c'.applied < c'.grant then some t else none }

/-- A trip (R61). -/
def ChargeBay.trip (c : ChargeBay) (now : Nat) : ChargeBay :=
  { c with
    state := if c.trips + 1 < 3 then .cooldown else .lockedOut
    applied := 0
    trips := c.trips + 1
    ramp := none
    highSamples := 0
    lastSample := none
    thirdDue := none
    cooldown := if c.trips + 1 < 3 then some now else none }

/-- A detach (R64): OFF with everything at 0; the grant stands until PALLOC's pass. -/
def ChargeBay.detached (c : ChargeBay) : ChargeBay := { ChargeBay.reset with grant := c.grant }

end Sys2Proof.Machine
end

