-- ==== Sys2Proof/Machine/Allocate.lean ====
section
/-! DEFINITION. The Power Allocator's pass (Sections 2.6 to 2.12): the net bay budget, tiers, wants, floors,
rounds, the publishing of a pass, and the latch reserve. -/

namespace Sys2Proof.Machine

/-- R37: N = floor(max(0, L − O − R) × f_v × f_h × f_t / 256). -/
def netBudget (limit reserve fv fh ft : Nat) : Nat :=
  (limit - Config.overhead - reserve) * fv * fh * ft / 256

def PAlloc.netBudget (p : PAlloc) : Nat :=
  Machine.netBudget p.limit p.reserve p.supplyFactor p.supervisionFactor p.thermalFactor

/-! ## Tier and want of a bay -/

/-- Minutes from `minute` forward to `deadline`, modulo the week (R40). -/
def minutesAhead (deadline minute : Nat) : Nat :=
  if minute ≤ deadline then deadline - minute else deadline + Config.week - minute

/-- R40: the reservation test. -/
def State.reservationTest (s : State) (b : Bay) : Bool :=
  match s.acc.reservations[b], s.minute with
  | some r, some m =>
    decide (minutesAhead r.deadline m ≤ 60) &&
      (match s.bmon[b].level with
        | none => true
        | some l => decide (l < s.psched.releaseThreshold))
  | _, _ => false

/-- R38: the tier of a bay; the first test that holds gives it. -/
def State.tierOf (s : State) (b : Bay) : Tier :=
  if (s.psched.channelOf b).isSome then .session
  else if s.reservationTest b then .due
  else if s.palloc.bays[b].toppedMark then .topped
  else
    match s.bmon[b].level with
    | none => .low
    | some l => if l < 30 then .low else .normal

/-- PRESENT, ANON and DUPLICATE are the attached states (Section 1.2). -/
def Occupancy.attached : Occupancy → Bool
  | .present | .anon | .duplicate => true
  | .empty | .settling => false

/-- R41: the want of a bay, given its tier. -/
def State.wantOf (s : State) (b : Bay) (t : Tier) : Nat :=
  if s.bmon[b].occupancy.attached && s.bmon[b].door == .closed &&
      (s.cctl[b].state == .negotiating || s.cctl[b].state == .delivering) then
    if t = .topped then min s.cctl[b].demand Config.toppedCap else s.cctl[b].demand
  else 0

/-- What a pass reads of a bay. -/
structure PassInput where
  tier : Tier
  want : Nat
  deriving DecidableEq, Repr

def State.passInputs (s : State) : Vector PassInput 36 :=
  Vector.ofFn fun b : Bay => { tier := s.tierOf b, want := s.wantOf b (s.tierOf b) }

/-! ## The pass (R42, R43) -/

/-- The running amounts of a pass: remaining budget, shelf remaining of each shelf, grants so far. -/
structure Alloc where
  remaining : Nat
  shelf : Vector Nat 6
  grants : Vector Nat 36
  deriving DecidableEq, Repr

/-- An addition to a grant is subtracted from the remaining budget and from the shelf remaining. -/
def Alloc.give (a : Alloc) (b : Bay) (x : Nat) : Alloc where
  remaining := a.remaining - x
  shelf := a.shelf.set (shelfOf b) (a.shelf[shelfOf b] - x)
  grants := a.grants.set b (a.grants[b] + x)

/-- The floor of a SESSION bay: the smallest of its want capped at 40 qW, the remaining budget and its shelf
remaining (R42). -/
def Alloc.floor (inp : Vector PassInput 36) (a : Alloc) (b : Bay) : Alloc :=
  if inp[b].tier = .session then
    a.give b (min (min (min inp[b].want Config.sessionFloor) a.remaining) a.shelf[shelfOf b])
  else a

/-- A bay of the tier whose grant is below its want and whose shelf has something left (R43). -/
def Alloc.eligible (inp : Vector PassInput 36) (t : Tier) (a : Alloc) (b : Bay) : Bool :=
  inp[b].tier == t && decide (a.grants[b] < inp[b].want) && decide (0 < a.shelf[shelfOf b])

/-- A visit in a round with a share of 1 or more (R43). -/
def Alloc.visitShare (inp : Vector PassInput 36) (share : Nat) (a : Alloc) (b : Bay) : Alloc :=
  a.give b (min (min share (inp[b].want - a.grants[b])) a.shelf[shelfOf b])

/-- A visit in a remainder pass (R43). -/
def Alloc.visitOne (a : Alloc) (b : Bay) : Alloc :=
  if 0 < a.remaining ∧ 0 < a.shelf[shelfOf b] then a.give b 1 else a

/-- One round over the eligible bays in ascending bay number (R43). -/
def Alloc.round (inp : Vector PassInput 36) (bays : List Bay) (a : Alloc) : Alloc :=
  let share := a.remaining / bays.length
  if share = 0 then bays.foldl Alloc.visitOne a
  else bays.foldl (Alloc.visitShare inp share) a

/-- The rounds of one tier, until no bay of it is eligible or nothing remains. Every round gives at least
1 qW (R43), so the remaining budget bounds their number. -/
def Alloc.fillTier (inp : Vector PassInput 36) (t : Tier) : Nat → Alloc → Alloc
  | 0, a => a
  | n + 1, a =>
    match (List.finRange 36).filter (a.eligible inp t) with
    | [] => a
    | b :: bs => if a.remaining = 0 then a else fillTier inp t n (a.round inp (b :: bs))

/-- R43: the tiers in the order in which they are filled. -/
def tierOrder : List Tier := [.session, .due, .low, .normal, .topped]

/-- The state of a pass before its floors (R42). -/
def Alloc.start (n : Nat) (caps : Vector Nat 6) : Alloc where
  remaining := n
  shelf := caps
  grants := Vector.replicate 36 0

/-- A whole pass over a budget, the shelf caps and the inputs of the bays (R42, R43). -/
def allocate (n : Nat) (caps : Vector Nat 6) (inp : Vector PassInput 36) : Alloc :=
  let a := (List.finRange 36).foldl (Alloc.floor inp) (Alloc.start n caps)
  tierOrder.foldl (fun a t => a.fillTier inp t a.remaining) a

/-! ## Taking and publishing a pass (R45, R47) -/

/-- PALLOC's state after a pass. -/
def State.passed (s : State) : PAlloc :=
  let inp := s.passInputs
  let a := allocate s.palloc.netBudget s.palloc.caps inp
  { s.palloc with
    net := s.palloc.netBudget
    bays := Vector.ofFn fun b : Bay =>
      { toppedMark := s.palloc.bays[b].toppedMark
        tier := inp[b].tier
        want := inp[b].want
        grant := a.grants[b] } }

/-- CCTL takes the new grant of every bay whose grant changed (R47, R57). -/
def State.grantsTaken (s : State) (p : PAlloc) : Vector ChargeBay 36 :=
  Vector.ofFn fun b : Bay =>
    if p.bays[b].grant = s.palloc.bays[b].grant then s.cctl[b]
    else s.cctl[b].takeGrant s.now p.bays[b].grant

/-- An allocation pass: grants to CCTL, one update of each bay record that changed by each of the two
blocks, then one update of the cart page, whose fields of PALLOC showed `shown` before (R47). -/
def passFrom (shown : List Byte) (s : State) : State :=
  let p := s.passed
  let ch := s.grantsTaken p
  ((((s.withPalloc p).withCctl ch).bumpBays
    fun b => p.bays[b].fields != s.palloc.bays[b].fields).bumpBays
    fun b => ch[b].fields != s.cctl[b].fields).bumpCart
    (p.cartFields != shown)

/-- A pass whose inputs PALLOC has already shown in the cart page. -/
def pass (s : State) : State := passFrom s.palloc.cartFields s

/-- A pass on a change of R: R is written into the cart page in the pass's own update (R47, R49). -/
def reservePass (r : Nat) (s : State) : State :=
  passFrom s.palloc.cartFields (s.withPalloc { s.palloc with reserve := r })

/-- Some bay's tier or want differs from that of the last pass (R45). -/
def State.inputsChanged (s : State) : Bool :=
  (List.finRange 36).any fun b =>
    s.tierOf b != s.palloc.bays[b].tier || s.wantOf b (s.tierOf b) != s.palloc.bays[b].want

/-- A change handed to PALLOC that takes a pass only if a tier or a want changed (R45, R65). -/
def passIfChanged (s : State) : State := if s.inputsChanged then pass s else s

/-! ## Latch reserve (R48, R49) -/

/-- LDRV's request for the second-slot reserve (R48). -/
def requestReserve (s : State) : State :=
  if s.palloc.reserve = Config.reserveTwo then s
  else reservePass Config.reserveTwo s

/-- LDRV's report that no second slot is driving and none is queued (R49). -/
def returnReserve (s : State) : State :=
  if s.palloc.reserve = Config.reserveOne then s
  else reservePass Config.reserveOne s

/-! ## Changes that other blocks hand to PALLOC -/

/-- A change of mode (R36): f_h, its update of the cart page, and a pass. -/
def pallocMode (m : Mode) (s : State) : State :=
  pass (s.setPalloc { s.palloc with
    supervisionFactor := match m with | .attended => 4 | .standalone => 3 })

/-- The topped mark after a level event (R39). -/
def toppedAfter (mark : Bool) (level : Option Nat) : Bool :=
  match level with
  | none => false
  | some l => if 95 ≤ l then true else if l < 90 then false else mark

/-- A level event at PALLOC (R16, R39): the mark, and a pass if a tier changed. -/
def pallocLevel (b : Bay) (s : State) : State :=
  passIfChanged (s.withPalloc { s.palloc with
    bays := s.palloc.bays.set b { s.palloc.bays[b] with
      toppedMark := toppedAfter s.palloc.bays[b].toppedMark s.bmon[b].level } })

/-- A detach at PALLOC (R8, R39): the mark is cleared and a pass is taken. -/
def pallocDetach (b : Bay) (s : State) : State :=
  pass (s.withPalloc { s.palloc with
    bays := s.palloc.bays.set b { s.palloc.bays[b] with toppedMark := false } })

end Sys2Proof.Machine
end

