-- ==== Sys2Proof/Machine/Provisioning.lean ====
section
/-! DEFINITION. The crosspoint's reports to BMON (R19) and the Provisioning Scheduler (Chapter 4): eligibility,
grants, the end of a session, and what PSCHED does with the events of other blocks. Functions named `…Core`
are parts of one event at PSCHED; `pschedEvent` around them makes the event's updates. -/

namespace Sys2Proof.Machine

/-! ## The crosspoint (R19, R20) -/

/-- A join report to BMON: path JOINED, the channel recorded, the silence timer started with the limit. -/
def join (b : Bay) (c : Chan) (limit : Nat) (s : State) : State :=
  s.setEntry b { s.bmon[b] with
    path := .joined, joined := some c, silence := some { since := s.now, limit := limit } }

/-- The path after an unjoin report. -/
def BayEntry.pathUnjoined (e : BayEntry) : DataPath :=
  if e.path = .cut then .cut
  else if e.occupancy = .present then (if e.path = .joined then .watch else e.path)
  else .dark

/-- An unjoin report to BMON. -/
def unjoin (b : Bay) (s : State) : State :=
  s.setEntry b { s.bmon[b] with
    path := s.bmon[b].pathUnjoined, joined := none, silence := none
    faultTimer := if s.bmon[b].pathUnjoined = .dark then none else s.bmon[b].faultTimer }

/-! ## Eligibility and grants (R74 to R76) -/

/-- R74: a bay is eligible for a grant. -/
def State.eligible (s : State) (b : Bay) : Bool :=
  s.bmon[b].occupancy == .present && s.bmon[b].door == .closed && s.bmon[b].latch == .locked &&
  !s.ldrv.driving b &&
  s.cust.inCartAt b &&
  (match s.bmon[b].level with
    | some l => decide (s.psched.provMinimum ≤ l)
    | none => false) &&
  s.bmon[b].path == .watch &&
  s.cctl[b].state != .lockedOut

/-- The lowest-numbered IDLE channel (R75). -/
def PSched.firstIdle (p : PSched) : Option Chan :=
  (List.finRange 4).find? fun c => p.channels[c].session.isNone

/-- R76: a grant of channel `c` to bay `b`. -/
def grantCore (c : Chan) (b : Bay) (s : State) : State :=
  let r := s.psched.records[b]
  let t := (s.setQueue (s.psched.queue.filter (· != b))).setProv b { r with state := .active }
  let t := t.setChannel c
    { session := some
        { bay := b, start := s.minute, wanted := r.wanted, sessionLimit := r.sessionLimit
          silenceLimit := r.silenceLimit, since := s.now }
      lastEnded := s.psched.channels[c].lastEnded }
  pass (join b c r.silenceLimit t)

/-- The repeated scan from the head of the queue; each grant takes a channel, so at most `n` are made. -/
def scanCore : Nat → State → State
  | 0, s => s
  | n + 1, s =>
    match s.psched.firstIdle, s.psched.queue.find? s.eligible with
    | some c, some b => scanCore n (grantCore c b s)
    | _, _ => s

/-- R75: a consideration. -/
def considerCore (s : State) : State :=
  if s.psched.mode = .standalone then s else scanCore 4 s

/-- A change handed to PSCHED under R74, which considers a grant (R75). -/
def consider (s : State) : State := pschedEvent considerCore s

/-! ## The end of a session (R78, R79) -/

/-- Entering NONE sets the wanted revision and the attempts to 0 (R69). -/
def ProvRecord.toNone (r : ProvRecord) : ProvRecord :=
  { r with state := .none, wanted := 0, attempts := 0 }

/-- A counted failure (R79): the attempts rise by 1; below 3 the bay waits, at 3 it is FAILED. -/
def ProvRecord.counted (r : ProvRecord) : ProvRecord :=
  { r with
    state := if r.attempts + 1 < 3 then .waiting else .failed
    attempts := r.attempts + 1 }

/-- Table 4-4: the bay's record after a session end; `reported` is the installed revision of SESSION_END. -/
def ProvRecord.afterEnd (r : ProvRecord) (o : SessionOutcome) (reported : Half) : ProvRecord :=
  let r := { r with lastOutcome := some o }
  match o with
  | .success =>
    if reported = r.wanted then { r with installed := reported, state := .current, attempts := 0 }
    else { r with installed := reported, state := .waiting }
  | .failedReported =>
    { r with installed := if reported = 0 then r.installed else reported }.counted
  | .expired | .stalled | .linkFault => r.counted
  | .removed => { r.toNone with installed := 0 }
  | .aborted | .forced | .cancelled => r.toNone
  | .hostLost => { r with state := .waiting }

/-- R78: the end of the session on channel `c`, if it is BUSY. -/
def endSessionCore (c : Chan) (o : SessionOutcome) (reported : Half) (s : State) : State :=
  match s.psched.channels[c].session with
  | none => s
  | some x =>
    let b := x.bay
    let t := unjoin b (s.setChannel c { session := none, lastEnded := some { bay := b, outcome := o } })
    let r := t.psched.records[b].afterEnd o reported
    let t := t.setProv b r
    let t := if r.state = .waiting then t.setQueue (t.psched.queue ++ [b]) else t
    let t := raise .provDone (pass t)
    let t := if r.state = .failed then raise .provFailed t else t
    considerCore t

/-- The end of the session of an ACTIVE bay, by its channel. -/
def endBayCore (b : Bay) (o : SessionOutcome) (s : State) : State :=
  if s.psched.records[b].state = .active then
    match s.psched.channelOf b with
    | some c => endSessionCore c o 0 s
    | none => s
  else s

/-- Take a bay out of the queue and set it NONE (R69, R72). -/
def clearCore (b : Bay) (s : State) : State :=
  (s.setQueue (s.psched.queue.filter (· != b))).setProv b s.psched.records[b].toNone

/-! ## Events of other blocks at PSCHED -/

/-- R71: a detach. -/
def pschedDetach (b : Bay) (s : State) : State :=
  pschedEvent (fun s =>
    let t := clearCore b (endBayCore b .removed s)
    t.setProv b { t.psched.records[b] with installed := 0 }) s

/-- R70: the entry of a bay to PRESENT. -/
def pschedPresent (b : Bay) (s : State) : State :=
  pschedEvent (fun s =>
    let t := clearCore b s
    considerCore (t.setProv b { t.psched.records[b] with installed := 0 })) s

/-- R81: a door OPEN classed FORCED. -/
def pschedForced (b : Bay) (s : State) : State := pschedEvent (endBayCore b .forced) s

/-- R81: a silence event or a stuck-line event naming a bay and a channel. -/
def pschedLineEvent (b : Bay) (c : Chan) (o : SessionOutcome) (s : State) : State :=
  pschedEvent (fun s =>
    match s.psched.channels[c].session with
    | some x => if x.bay = b then endSessionCore c o 0 s else s
    | none => s) s

/-- R82: an abort. -/
def pschedAbort (b : Bay) (s : State) : State := pschedEvent (endBayCore b .aborted) s

/-- R82: a withdrawal. -/
def pschedWithdraw (b : Bay) (s : State) : State :=
  pschedEvent (fun s => if s.psched.records[b].state = .waiting then clearCore b s else s) s

/-- R88: the entry to STANDALONE ends every session HOST_LOST, in ascending channel number. -/
def pschedLost (s : State) : State :=
  pschedEvent (fun s =>
    (List.finRange 4).foldl (fun t c => endSessionCore c .hostLost 0 t)
      (s.withPsched { s.psched with mode := .standalone })) s

/-- R89: the return to ATTENDED. -/
def pschedReturn (s : State) : State :=
  pschedEvent (fun s => considerCore (s.withPsched { s.psched with mode := .attended })) s

/-- A change of mode at PSCHED. -/
def pschedMode (m : Mode) (s : State) : State :=
  match m with
  | .attended => pschedReturn s
  | .standalone => pschedLost s

end Sys2Proof.Machine
end

