-- ==== Sys2Proof/Machine/Custody.lean ====
section
/-! DEFINITION. The Custody Unit (Sections 6.5 to 6.9): custody records, journal takes, the release pipeline,
forced entry, removal, returns and arrivals; and the answers that the Access Controller gives on the reader
port when a release ends (R108, R114). -/

namespace Sys2Proof.Machine

/-! ## Verdicts (Table 6-1) -/

inductive Verdict where
  | release | group | serviceOn | serviceOff | busy | denyUnknown | denySuspended | denyClosed
  | denyService | denyHolding | denyJournal | denyNotReady | denyLatch | denyLatchTimeout
  deriving DecidableEq, Repr

def Verdict.code : Verdict → Byte
  | .release => 0x01
  | .group => 0x02
  | .serviceOn => 0x03
  | .serviceOff => 0x04
  | .busy => 0x05
  | .denyUnknown => 0x10
  | .denySuspended => 0x11
  | .denyClosed => 0x12
  | .denyService => 0x13
  | .denyHolding => 0x14
  | .denyJournal => 0x15
  | .denyNotReady => 0x16
  | .denyLatch => 0x17
  | .denyLatchTimeout => 0x18

inductive Reason where
  | none | empty | charging | provisioning | fault | noneFree
  deriving DecidableEq, Repr

def Reason.code : Reason → Byte
  | .none => 0
  | .empty => 1
  | .charging => 2
  | .provisioning => 3
  | .fault => 4
  | .noneFree => 5

/-- ACC sends a verdict frame on TXD (R108). -/
def sendVerdict (v : Verdict) (bayOrCount : Byte) (r : Reason) (s : State) : State :=
  s.withOut { s.out with
    txd := s.out.txd ++ [{ verdict := v.code, bayOrCount := bayOrCount, reason := r.code }] }

/-- R114: a transaction DECIDING on the bay ends with a verdict; otherwise nothing is sent. -/
def answerDeciding (b : Bay) (v : Verdict) (bayOrCount : Byte) (r : Reason) (s : State) : State :=
  match s.acc.transaction with
  | some x =>
    if x.bay = b then
      sendVerdict v bayOrCount r (s.withAcc { s.acc with transaction := none })
    else s
  | none => s

/-! ## Custody records (R117) -/

/-- On entering IN_CART the holder and the last bay become absent (R117). -/
def CustodyRecord.toCart (r : CustodyRecord) (b : Bay) (minute : Option Nat) : CustodyRecord :=
  { r with state := .inCart, bay := some b, lastBay := none, holder := none, since := minute }

/-- On leaving a bay for OUT or MISSING the bay becomes the last bay (R117). -/
def CustodyRecord.leave (r : CustodyRecord) (st : CustodyState) (b : Bay) (holder : Option Token)
    (minute : Option Nat) : CustodyRecord :=
  { r with state := st, bay := none, lastBay := some b, holder := holder, since := minute }

/-- PENDING_RELEASE at the bay, with the release's holder (R113, R129). -/
def CustodyRecord.toPending (r : CustodyRecord) (holder : Option Token) (minute : Option Nat) :
    CustodyRecord :=
  { r with state := .pendingRelease, holder := holder, since := minute }

/-- Change the record located at a bay, if there is one. -/
def changeRecordAt (b : Bay) (f : CustodyRecord → CustodyRecord) (s : State) : State :=
  match s.cust.slotAt b with
  | some i => s.setSlot i (s.cust.slots[i].record.map f)
  | none => s

/-- The lowest free custody slot (R117). -/
def Cust.freeSlot (c : Cust) : Option (Fin 48) :=
  (List.finRange 48).find? fun i => c.slots[i].record.isNone

/-! ## Journal (R118) -/

/-- JOURNAL_LOW is raised when a take leaves 3 FREE entries where there were 4 (R118); `before` is the
FREE count before the take. -/
def journalLow (before : Nat) (s : State) : State := if before = 4 then raise .journalLow s else s

/-- The next sequence number advances by 1 (R118). -/
def advanceSequence (s : State) : State :=
  s.withCust { s.cust with nextSequence := s.cust.nextSequence + 1 }

/-- What a fill writes, apart from the sequence number and the minute. -/
structure Fill where
  kind : JournalKind
  bay : Bay
  tag : Option Tag
  holder : Option Token
  misplaced : Bool
  deriving DecidableEq, Repr

/-- The FILLED entry of a fill. -/
def Fill.entry (f : Fill) (sequence : Nat) (minute : Option Nat) : JournalEntry where
  state := .filled
  kind := some f.kind
  bay := some f.bay
  misplaced := some f.misplaced
  sequence := some sequence
  tag := f.tag
  holder := f.holder
  minute := minute

/-- A fill of the lowest-numbered FREE entry, or its drop (R118). -/
def fillFree (f : Fill) (s : State) : State :=
  if s.cust.nextSequence = Config.lastSequence then s
  else
    match s.cust.freeEntry with
    | some j =>
      journalLow s.cust.freeCount
        (advanceSequence (s.setJournal j (f.entry s.cust.nextSequence s.minute)))
    | none => advanceSequence s

/-- Return an entry to FREE; its other bytes stay (R118, R119). -/
def freeJournal (j : Fin 48) (s : State) : State :=
  s.setJournal j { s.cust.journal[j] with state := .free }

/-- A fill of a release's own HELD entry; a dropped fill returns it to FREE (R118). -/
def fillHeld (j : Fin 48) (f : Fill) (s : State) : State :=
  if s.cust.nextSequence = Config.lastSequence then freeJournal j s
  else advanceSequence (s.setJournal j (f.entry s.cust.nextSequence s.minute))

/-- A hold writes the bay and leaves every other field absent (R118). -/
def JournalEntry.heldFor (b : Bay) : JournalEntry where
  state := .held
  kind := none
  bay := some b
  misplaced := none
  sequence := none
  tag := none
  holder := none
  minute := none

/-! ## The release pipeline (R113, R120 to R124) -/

/-- Open a release for a bay in LATCH_WAIT: steps 1 to 3 of R113, and the STAFF release of R129. With a
record located at the bay, the record becomes PENDING_RELEASE and the lowest FREE entry is held. The change
of the record is handed to PSCHED. -/
def openRelease (b : Bay) (k : ReleaseKind) (holder : Option Token) (s : State) : State :=
  match s.cust.slotAt b with
  | some i =>
    let t := s.setSlot i (s.cust.slots[i].record.map fun r => r.toPending holder s.minute)
    let t :=
      match s.cust.freeEntry with
      | some j => journalLow s.cust.freeCount (t.setJournal j (JournalEntry.heldFor b))
      | none => t
    consider (t.setRelease b (some
      { stage := .latchWait, kind := k, holder := holder, recorded := true, held := s.cust.freeEntry
        window := none }))
  | none =>
    s.setRelease b (some
      { stage := .latchWait, kind := k, holder := holder, recorded := false, held := none
        window := none })

/-- R123: a release ends unopened. -/
def endUnopened (b : Bay) (s : State) : State :=
  match s.cust.releases[b] with
  | none => s
  | some r =>
    if r.recorded then
      let t := changeRecordAt b (fun x => x.toCart b s.minute) s
      let t :=
        match r.held with
        | some j => freeJournal j t
        | none => t
      consider (t.setRelease b none)
    else s.setRelease b none

/-- R121: LDRV reports the start of a drive. -/
def custDriveStart (b : Bay) (s : State) : State :=
  match s.cust.releases[b] with
  | some r =>
    if r.stage = .latchWait then
      s.setRelease b (some (
        if s.bmon[b].door = .opened then { r with stage := .opened, window := none }
        else { r with stage := .window, window := some s.now }))
    else s
  | none => s

/-- LDRV reports a dropped request: a release in LATCH_WAIT ends unopened (R114, R123). -/
def custDropped (b : Bay) (s : State) : State :=
  match s.cust.releases[b] with
  | some r => if r.stage = .latchWait then endUnopened b s else s
  | none => s

/-- R122: a door OPEN classed RELEASED moves WINDOW to OPENED. -/
def custDoorReleased (b : Bay) (s : State) : State :=
  match s.cust.releases[b] with
  | some r =>
    if r.stage = .window then s.setRelease b (some { r with stage := .opened, window := none }) else s
  | none => s

/-- R122: a door CLOSED in OPENED ends the release, unless the loss debounce is running. -/
def custDoorClosed (b : Bay) (s : State) : State :=
  match s.cust.releases[b] with
  | some r =>
    if r.stage = .opened ∧ s.bmon[b].presenceDebounce = none then endUnopened b s else s
  | none => s

/-- R122: BMON hands the abandonment of a loss debounce, for a bay in OPENED with its door CLOSED. -/
def custLossAbandoned (b : Bay) (s : State) : State :=
  match s.cust.releases[b] with
  | some r => if r.stage = .opened ∧ s.bmon[b].door = .closed then endUnopened b s else s
  | none => s

/-- R124: what the completion of a release fills. -/
def ReleaseKind.journalKind : ReleaseKind → JournalKind
  | .student => .checkout
  | .teacher => .checkout
  | .staff => .staffRelease

/-- R124: the detach of a bay in OPENED completes its release. `tag` is the tag BMON held before. -/
def completeRelease (b : Bay) (r : Release) (tag : Option Tag) (s : State) : State :=
  let t :=
    if r.recorded then
      let recordTag := (s.cust.recordAt b).map CustodyRecord.tag
      let t := changeRecordAt b (fun x => x.leave .out b r.holder s.minute) s
      match r.held with
      | some j => fillHeld j ⟨r.kind.journalKind, b, recordTag, r.holder, false⟩ t
      | none => t
    else fillFree ⟨.staffRelease, b, tag, r.holder, false⟩ s
  consider (raise .checkout (t.setRelease b none))

/-- R126: a removal without an opened release. -/
def custRemoval (b : Bay) (s : State) : State :=
  if s.bmon[b].door = .opened ∧ (s.cust.slotAt b).isSome then
    consider (changeRecordAt b (fun x => x.leave .missing b none s.minute) s)
  else s

/-- A detach at CUST (R114, R123, R124, R126); `tag` is the tag BMON held before the detach. -/
def custDetach (b : Bay) (tag : Option Tag) (s : State) : State :=
  custEvent (fun s =>
    match s.cust.releases[b] with
    | some r =>
      if r.stage = .opened then completeRelease b r tag s
      else custRemoval b (answerDeciding b .denyNotReady (bayByte b) .empty (endUnopened b s))
    | none => custRemoval b s) s

/-- A door OPEN classed FORCED at CUST (R123, R125). -/
def custForced (b : Bay) (s : State) : State :=
  custEvent (fun s =>
    let t :=
      match s.cust.releases[b] with
      | some r =>
        if r.stage = .latchWait then
          answerDeciding b .denyNotReady (bayByte b) .fault (endUnopened b s)
        else s
      | none => s
    fillFree ⟨.forcedOpen, b, t.bmon[b].tag, none, false⟩ t) s

/-! ## Returns and arrivals (R127, R128) -/

/-- The first step of R127: a record located at the bay becomes MISSING unless it carries the tag read;
`none` stands for a failed tag read (R128). -/
def clearBay (b : Bay) (tag : Option Tag) (s : State) : State :=
  match s.cust.recordAt b with
  | some r =>
    if some r.tag = tag then s else changeRecordAt b (fun x => x.leave .missing b none s.minute) s
  | none => s

/-- A new record (R127, R130). -/
def CustodyRecord.fresh (t : Tag) (st : CustodyState) (bay : Option Bay) (holder : Option Token)
    (minute : Option Nat) : CustodyRecord :=
  { tag := t, state := st, bay := bay, lastBay := none, holder := holder, since := minute }

/-- The second step of R127 (Table 6-8): place tag `t` read at the PRESENT bay `b`. -/
def placeTag (b : Bay) (t : Tag) (s : State) : State :=
  match s.cust.slotOf t with
  | none =>
    match s.cust.freeSlot with
    | some i =>
      fillFree ⟨.arrival, b, some t, none, false⟩
        (s.setSlot i (some (CustodyRecord.fresh t .inCart (some b) none s.minute)))
    | none => raise .custodyFull s
  | some i =>
    match s.cust.slots[i].record with
    | none => s
    | some r =>
      let moved := s.setSlot i (some (r.toCart b s.minute))
      match r.state with
      | .out | .missing =>
        let misplaced := r.lastBay.isSome && r.lastBay != some b
        let u := fillFree ⟨.returned, b, some t, r.holder, misplaced⟩ moved
        if misplaced then raise .misplaced u else u
      | .inCart =>
        if r.bay = some b then s
        else raise .misplaced (fillFree ⟨.returned, b, some t, none, true⟩ moved)
      | .pendingRelease => s

/-- R127: a tag read at a PRESENT bay. -/
def custTagRead (b : Bay) (t : Tag) (s : State) : State :=
  custEvent (fun s => consider (placeTag b t (clearBay b (some t) s))) s

/-- R128: the entry of a bay to ANON (`tag` absent) or DUPLICATE. -/
def custOtherEntry (b : Bay) (tag : Option Tag) (s : State) : State :=
  custEvent (fun s => consider (clearBay b tag s)) s

end Sys2Proof.Machine
end

