-- ==== Sys2Proof/Machine/Latches.lean ====
section
/-! DEFINITION. The Latch Driver (Chapter 7): requests, takes, drives, the second-slot reserve, drops. One
event at LDRV is wrapped in `ldrvEvent`, which makes its updates. -/

namespace Sys2Proof.Machine

/-- R134: LDRV can take a request for a bay. -/
def Ldrv.canTake (l : Ldrv) (b : Bay) : Bool :=
  l.mode != .off && (decide (l.queue.length < Config.latchQueueRoom) || l.queued b)

/-- R134: append the request at the tail, or merge it with the one already queued for the bay. -/
def appendRequest (b : Bay) (s : State) : State :=
  if s.ldrv.queued b then s
  else s.withLdrv { s.ldrv with queue := s.ldrv.queue ++ [{ bay := b, since := s.now }] }

/-- The queue without the request of a bay. -/
def Ldrv.dequeue (l : Ldrv) (b : Bay) : Ldrv :=
  { l with queue := l.queue.filter fun r => r.bay != b }

/-- The oldest request whose bay no slot is driving (R135). -/
def Ldrv.oldestFree (l : Ldrv) : Option Bay :=
  (l.queue.find? fun r => !l.driving r.bay).map LatchRequest.bay

/-- The slot that is offered the queue: slot 1 if idle, else slot 2 if idle (R135). -/
def Ldrv.offeredSlot (l : Ldrv) : Option Slot :=
  if l.slots[(0 : Slot)].isNone then some 0
  else if l.slots[(1 : Slot)].isNone then some 1
  else none

/-- Slot 2 first asks PALLOC for the reserve, and holds it from the answer on (R136). -/
def askReserve (k : Slot) (s : State) : State :=
  if k = 1 then
    let t := requestReserve s
    t.withLdrv { t.ldrv with reserveHeld := true }
  else s

/-- R138: the drive record of a drive that starts now. -/
def newDrive (b : Bay) (s : State) : Drive where
  bay := b
  mode := s.ldrv.mode
  pulse := s.ldrv.pulse
  since := s.now
  releasedSeen := s.bmon[b].latch == .released

/-- R138: energise the coil and report the start to ACC, CUST and PSCHED. -/
def startDrive (k : Slot) (b : Bay) (s : State) : State :=
  let t := s.withLdrv { s.ldrv with slots := s.ldrv.slots.set k (some (newDrive b s)) }
  consider (custDriveStart b (answerDeciding b .release (bayByte b) .none t))

/-- R140 steps 1, 3 and 4: the slot becomes idle and the end is reported to PSCHED. -/
def clearSlot (k : Slot) (s : State) : State :=
  consider (s.withLdrv { s.ldrv with slots := s.ldrv.slots.set k none })

/-- R135: offer the queue to the slots until no take is made; every round removes a request, so the length
of the queue bounds their number. A request whose bay is ACTIVE is discarded. A HOLD drive that starts on a
bay whose door is OPEN ends in its start event as a door end (R139). -/
def offer : Nat → State → State
  | 0, s => s
  | n + 1, s =>
    match s.ldrv.offeredSlot, s.ldrv.oldestFree with
    | some k, some b =>
      let t := s.withLdrv (s.ldrv.dequeue b)
      if s.psched.records[b].state = .active then offer n t
      else
        let u := startDrive k b (askReserve k t)
        if u.ldrv.mode = .hold ∧ u.bmon[b].door = .opened then offer n (clearSlot k u)
        else offer n u
    | _, _ => s

/-- R140 step 6: the reserve is returned when slot 2 is idle. -/
def settleReserve (s : State) : State :=
  if s.ldrv.reserveHeld = true ∧ s.ldrv.slots[(1 : Slot)].isNone = true then
    returnReserve (s.withLdrv { s.ldrv with reserveHeld := false })
  else s

/-- R140 steps 5 and 6. -/
def offerAndSettle (s : State) : State := settleReserve (offer s.ldrv.queue.length s)

/-- R134: a request for a bay, as one event at LDRV. -/
def requestDrive (b : Bay) (s : State) : State :=
  ldrvEvent (fun s => offerAndSettle (appendRequest b s)) s

/-- R142: the judgement of a latch at a time end. -/
def judge (d : Drive) (s : State) : State :=
  let t := s.withLdrv { s.ldrv with stuck := s.ldrv.stuck.set d.bay (!d.releasedSeen) }
  if d.releasedSeen then t else raise .latchFault t

/-- R140: a drive ends by time. -/
def timeEnd (k : Slot) (d : Drive) (s : State) : State :=
  ldrvEvent (fun s => offerAndSettle (clearSlot k (judge d s))) s

/-- The slot that drives a bay. -/
def Ldrv.slotOf (l : Ldrv) (b : Bay) : Option Slot :=
  if l.slotDrives 0 b then some 0 else if l.slotDrives 1 b then some 1 else none

/-- R139, R141: a door OPEN at LDRV ends a HOLD drive of the bay as a door end. -/
def ldrvDoorOpen (b : Bay) (s : State) : State :=
  match s.ldrv.slotOf b with
  | some k =>
    match s.ldrv.slots[k] with
    | some d => if d.mode = .hold then ldrvEvent (fun s => offerAndSettle (clearSlot k s)) s else s
    | none => s
  | none => s

/-- R141: a latch sense RELEASED during a drive. -/
def Drive.see (d : Drive) (b : Bay) : Drive := if d.bay = b then { d with releasedSeen := true } else d

/-- R13, R141: a change of latch sense at LDRV. -/
def ldrvLatchSense (b : Bay) (s : State) : State :=
  if s.bmon[b].latch = .released then
    s.withLdrv { s.ldrv with slots := Vector.ofFn fun k : Slot => s.ldrv.slots[k].map fun d => d.see b }
  else s

/-- A drop reported for a bay to ACC and CUST (R114, R123, R137, R143). -/
def reportDrop (b : Bay) (v : Verdict) (bayOrCount : Byte) (s : State) : State :=
  custDropped b (answerDeciding b v bayOrCount .none s)

/-- R137: the wait of a bay's queued request has expired. -/
def waitExpired (b : Bay) (s : State) : State :=
  ldrvEvent (fun s =>
    reportDrop b .denyLatchTimeout (bayByte b) (s.withLdrv (s.ldrv.dequeue b))) s

/-- R143: a mode end of the drive on a slot, if it drives. -/
def modeEnd (k : Slot) (s : State) : State :=
  if s.ldrv.slots[k].isSome then clearSlot k s else s

/-- R143: a change to OFF. Every queued request is dropped in queue order, then every running drive ends as a
mode end (the two slots in either order), and the reserve is returned. -/
def latchOff (s : State) : State :=
  ldrvEvent (fun s =>
    let dropped := s.ldrv.queue
    let t := s.withLdrv { s.ldrv with mode := .off, queue := [] }
    let t := dropped.foldl (fun t r => reportDrop r.bay .denyLatch 0 t) t
    settleReserve (eitherOrder (modeEnd 0) (modeEnd 1) t)) s

end Sys2Proof.Machine
end

