-- ==== Sys2Proof/Machine/Access.lean ====
section
/-! DEFINITION. The Access Controller's decisions (Chapters 5 and 6): lookup of a token, the open-group test,
readiness and bay selection, student checkout, group release and SERVICE. -/

namespace Sys2Proof.Machine

/-! ## Lookup (R93, R97) -/

/-- R97: binary search for a token among the entries from `lo` to below `hi`; `n` halvings are enough for
2 ^ n − 1 entries. -/
def searchBank (m : List Host.Cell) (bank : Bank) (token : Nat) : Nat → Nat → Nat → Option CredentialEntry
  | 0, _, _ => none
  | n + 1, lo, hi =>
    if lo < hi then
      let mid := (lo + hi) / 2
      let e := credentialAt m bank mid
      if e.token = token then some e
      else if e.token < token then searchBank m bank token n (mid + 1) hi
      else searchBank m bank token n lo mid
    else none

/-- R97: the entry in force of a token; the all-0xFF pattern is always unknown. -/
def State.lookup (s : State) (token : Token) : Option CredentialEntry :=
  match s.acc.activeBank with
  | none => none
  | some bank =>
    if token = noToken then none
    else searchBank s.swm.mem bank token.toNat 10 0 s.acc.activeCount

/-- A token is found as STUDENT in the active bank (R129). -/
def State.isStudent (s : State) (token : Token) : Bool :=
  match s.lookup token with
  | some e => Role.ofCode e.role == some .student
  | none => false

/-- Some custody record other than that in slot `except` is PENDING_RELEASE or OUT with the token as holder
(R110 check 3, R129 check 7, R130 check 3). -/
def Cust.holds (c : Cust) (token : Token) (except : Option (Fin 48)) : Bool :=
  (List.finRange 48).any fun i =>
    match c.slots[i].record with
    | some r =>
      (r.state == .pendingRelease || r.state == .out) && r.holder == some token &&
        !(except == some i)
    | none => false

/-! ## Windows (R99) -/

/-- One window opens a group at a minute of the week. -/
def WindowEntry.opens (w : WindowEntry) (group minute : Nat) : Bool :=
  w.days.getLsbD (minute / 1440) && decide (w.start ≤ minute - 1440 * (minute / 1440)) &&
    decide (minute - 1440 * (minute / 1440) < w.stop) && w.groups.getLsbD group

/-- R99: a group is open. -/
def State.groupOpen (s : State) (group : Nat) : Bool :=
  match s.minute with
  | some m => s.acc.windows.any fun w => w.opens group m
  | none => false

/-! ## Readiness and selection (R111, R112) -/

/-- The bay holds a reservation whose token is present and differs from the given token (R104). -/
def State.reservedForOther (s : State) (b : Bay) (token : Token) : Bool :=
  match s.acc.reservations[b] with
  | some r => r.token.isSome && r.token != some token
  | none => false

/-- The provisioning part of the readiness test (R69, R111). -/
def ProvRecord.ready (r : ProvRecord) : Bool :=
  r.state != .waiting && r.state != .active && r.state != .failed &&
    (r.wanted == 0 || r.state == .current)

/-- The charge level is known and at or above the release threshold (R111). -/
def State.chargedEnough (s : State) (b : Bay) : Bool :=
  match s.bmon[b].level with
  | some l => decide (s.psched.releaseThreshold ≤ l)
  | none => false

/-- R111: a bay is ready for a token. -/
def State.ready (s : State) (b : Bay) (token : Token) : Bool :=
  s.bmon[b].occupancy == .present && s.bmon[b].door == .closed && s.bmon[b].latch == .locked &&
  s.cust.inCartAt b && s.psched.records[b].ready && s.chargedEnough b &&
  s.cctl[b].state != .lockedOut && s.bmon[b].path != .cut && !s.reservedForOther b token

/-- Table 6-2: the reason for a home bay that is not ready; the first row whose condition holds. -/
def State.homeReason (s : State) (b : Bay) (token : Token) : Reason :=
  if s.bmon[b].occupancy = .empty ∨ s.bmon[b].occupancy = .settling then .empty
  else if s.bmon[b].occupancy = .anon ∨ s.bmon[b].occupancy = .duplicate ∨
      s.cust.recordAt b = none ∨ s.bmon[b].door = .opened ∨ s.bmon[b].latch = .released ∨
      s.cctl[b].state = .lockedOut ∨ s.bmon[b].path = .cut then .fault
  else if s.cust.inCartAt b = false ∨ s.reservedForOther b token = true then .noneFree
  else if s.psched.records[b].ready = false then .provisioning
  else .charging

/-- R112: among the bays of the group that are ready, the highest level, the lowest number among equals. -/
def State.poolBay (s : State) (group : Nat) (token : Token) : Option Bay :=
  (List.finRange 36).foldl
    (fun best b =>
      if s.bmon[b].pool = some group ∧ s.ready b token = true then
        match best with
        | none => some b
        | some c => if s.bmon[c].level.getD 0 < s.bmon[b].level.getD 0 then some b else some c
      else best)
    none

/-- The outcome of bay selection: a bay, or the fields of DENY_NOT_READY. -/
inductive Selection where
  | bay (b : Bay)
  | notReady (bayField : Byte) (reason : Reason)
  deriving DecidableEq, Repr

/-- R112: bay selection for a student entry. -/
def State.selectBay (s : State) (e : CredentialEntry) (token : Token) : Selection :=
  match bayOfNumber e.homeBay.toNat with
  | some b => if s.ready b token then .bay b else .notReady (bayByte b) (s.homeReason b token)
  | none =>
    match s.poolBay e.group.toNat token with
    | some b => .bay b
    | none => .notReady 0 .noneFree

/-! ## Decisions (R109, R110, R113, R115, R116) -/

/-- R113: an accepted student checkout. The transaction is DECIDING before the request is sent, so a drive
that starts within the event answers RELEASE at once. -/
def acceptStudent (b : Bay) (token : Token) (s : State) : State :=
  let t := openRelease b .student (some token) s
  requestDrive b (t.withAcc { t.acc with transaction := some { token := token, bay := b } })

/-- R110: the checks of a STUDENT token, in order. -/
def decideStudent (e : CredentialEntry) (token : Token) (s : State) : State :=
  if s.groupOpen e.group.toNat = false then sendVerdict .denyClosed 0 .none s
  else if s.acc.service = true then sendVerdict .denyService 0 .none s
  else if s.cust.holds token none = true then sendVerdict .denyHolding 0 .none s
  else if s.cust.freeEntry = none then sendVerdict .denyJournal 0 .none s
  else
    match s.selectBay e token with
    | .notReady f r => sendVerdict .denyNotReady f r s
    | .bay b =>
      if s.ldrv.canTake b then acceptStudent b token s else sendVerdict .denyLatch 0 .none s

/-- R115: the tests of a teacher's visit to a bay. -/
def State.teacherTakes (s : State) (b : Bay) : Bool :=
  s.bmon[b].occupancy == .present && s.cust.inCartAt b && s.cctl[b].state != .lockedOut &&
    s.psched.records[b].state != .active && s.cust.freeEntry.isSome && s.ldrv.canTake b

/-- R115: enqueue a bay for a teacher: steps 1 to 4 of R113, and a withdrawal if the bay is WAITING. -/
def teacherEnqueue (b : Bay) (token : Token) (s : State) : State :=
  let t := requestDrive b (openRelease b .teacher (some token) s)
  if s.psched.records[b].state = .waiting then pschedWithdraw b t else t

/-- The visit of one bay, with the count of bays enqueued so far. -/
def teacherVisit (group : Nat) (token : Token) (x : State × Nat) (b : Bay) : State × Nat :=
  if x.1.bmon[b].pool = some group ∧ x.1.teacherTakes b = true then
    (teacherEnqueue b token x.1, x.2 + 1)
  else x

/-- R115: a TEACHER token. -/
def decideTeacher (e : CredentialEntry) (token : Token) (s : State) : State :=
  if s.acc.service then sendVerdict .denyService 0 .none s
  else
    let x := (List.finRange 36).foldl (teacherVisit e.group.toNat token) (s, 0)
    sendVerdict .group (byteOf x.2) .none x.1

/-- R116: a TECHNICIAN token toggles SERVICE. -/
def decideTechnician (s : State) : State :=
  sendVerdict (if s.acc.service then .serviceOff else .serviceOn) 0 .none
    (s.setAcc { s.acc with service := !s.acc.service })

/-- R109: one token arrival. -/
def tokenArrives (token : Token) (s : State) : State :=
  if s.acc.transaction.isSome then sendVerdict .busy 0 .none s
  else
    match s.lookup token with
    | none => sendVerdict .denyUnknown 0 .none s
    | some e =>
      if e.status = 2 then sendVerdict .denySuspended 0 .none s
      else
        match Role.ofCode e.role with
        | some .student => decideStudent e token s
        | some .teacher => decideTeacher e token s
        | some .technician => decideTechnician s
        | none => sendVerdict .denyUnknown 0 .none s

/-- Set the cart clock and lapse the reservations whose deadline is `left` (R100, R105): one update of the
cart page, one of each bay record whose reservation lapses. -/
def lapse (left : Nat) (s : State) : State :=
  (List.finRange 36).foldl
    (fun t b =>
      match t.acc.reservations[b] with
      | some r => if r.deadline = left then t.setReservation b none else t
      | none => t) s

/-- R100: a change of minute, as one event. -/
def changeMinute (c : CartClock) (s : State) : State :=
  passIfChanged (lapse c.minute (s.setAcc { s.acc with
    clock := some
      { minute := if c.minute + 1 < Config.week then c.minute + 1 else 0
        second := 0
        since := c.since + Config.second } }))

/-- R100: the advance of the second that does not wrap. -/
def advanceSecond (c : CartClock) (s : State) : State :=
  s.setAcc { s.acc with
    clock := some { c with second := c.second + 1, since := c.since + Config.second } }

end Sys2Proof.Machine
end

