-- ==== Sys2Proof/Machine/Supervision.lean ====
section
/-! DEFINITION. The Supervision Monitor (Chapter 8): the heartbeat window, failures, the entry to STANDALONE
and the return to ATTENDED. -/

namespace Sys2Proof.Machine

/-- R149, R150, R153: the phase in which a window begun by a heartbeat or an EARLY failure starts. -/
def Smon.firstPhase (m : Smon) : WindowPhase := if m.closedPhase = 0 then .opened else .closed

/-- A new window begins now in a phase. -/
def Smon.begin (m : Smon) (phase : WindowPhase) (now : Nat) : Smon :=
  { m with phase := phase, since := some now }

/-- The window becomes STOPPED. -/
def Smon.stop (m : Smon) : Smon := { m with phase := .stopped, since := none }

/-- A change of mode is handed to PALLOC and to PSCHED, in either order (R152, R153). -/
def handMode (m : Mode) (s : State) : State := eitherOrder (pallocMode m) (pschedMode m) s

/-- R150, R151, R152: a failure is ruled a first or a second one by the HOST_LATE source. -/
def failure (f : HeartbeatFailure) (s : State) : State :=
  let m := { s.smon with lastFailure := some f }
  if s.nctl.hostLateOutstanding then
    handMode .standalone (s.setSmon { m.stop with mode := .standalone })
  else
    raise .hostLate (s.setSmon (m.begin
      (match f with
        | .early => m.firstPhase
        | .late => .opened) s.now))

/-- R153: the return to ATTENDED, with SMON's state after it. -/
def returnAttended (m : Smon) (s : State) : State :=
  handMode .attended (raise .hostRestored (s.setSmon { m with mode := .attended }))

/-- R149: one heartbeat. -/
def heartbeat (s : State) : State :=
  match s.smon.phase with
  | .stopped =>
    match s.smon.mode with
    | .standalone => returnAttended (s.smon.begin s.smon.firstPhase s.now) s
    | .attended => s
  | .closed => failure .early s
  | .opened => s.setSmon (s.smon.begin s.smon.firstPhase s.now)

end Sys2Proof.Machine
end

