-- ==== Sys2Proof/Machine/Walker.lean ====
section
/-! DEFINITION. The Order Walker (Sections 9.6 and 9.7): commands on a list, the start and end of a list,
what the walker finds at a record, and the dispatch of an order to its owner. -/

namespace Sys2Proof.Machine

/-- A list that is being walked (R163: at most one is). -/
def OrderList.walking (l : OrderList) : Bool := l.state == .running || l.state == .stalled

/-- The other list. -/
def otherList (i : ListId) : ListId := if i = 0 then 1 else 0

/-! ## Start and end of a list (R165) -/

/-- A list becomes RUNNING; a first record offset of 0 ends it DONE at once, with LIST_DONE. -/
def runList (i : ListId) (s : State) : State :=
  let l := s.owalk[i]
  if l.first = 0 then
    raise .listDone (s.setList i { l with state := .done, taken := 0, next := 0, walked := [] })
  else s.setList i { l with state := .running, next := l.first, walked := [] }

/-- The other list starts if it is ARMED; if that ends it at once, a list still ARMED starts in turn. -/
def startArmed : Nat → ListId → State → State
  | 0, _, s => s
  | n + 1, i, s =>
    if s.owalk[i].state = .armed then
      let t := runList i s
      if t.owalk[i].state = .done then startArmed n (otherList i) t else t
    else s

/-- A list ends DONE (R165). -/
def endDone (i : ListId) (s : State) : State :=
  startArmed 2 (otherList i) (raise .listDone (s.setList i
    { s.owalk[i] with state := .done, stall := none, walked := [] }))

/-- A list ends FAULT with a code and an offset (R164 to R167). -/
def endFault (i : ListId) (code : ListFault) (offset : Half) (s : State) : State :=
  startArmed 2 (otherList i) (raiseOrderFault (s.setList i
    { s.owalk[i] with
      state := .fault, faultCode := some code, faultOffset := some offset, stall := none
      walked := [] }))

/-! ## Commands on a list (R163, R164) -/

/-- R163: ARM written into a list's state byte. -/
def arm (i : ListId) (s : State) : State :=
  let l := s.owalk[i]
  match l.state with
  | .idle | .done | .fault =>
    let cleared := { l with taken := 0, faultCode := none, faultOffset := none }
    if s.owalk[otherList i].walking then s.setList i { cleared with state := .armed }
    else
      let t := runList i (s.setList i cleared)
      if t.owalk[i].state = .done then startArmed 2 (otherList i) t else t
  | .stalled => s.setList i { l with state := .running, stall := none, faultOffset := none }
  | .armed | .running => s

/-- R164: ABORT written into a list's state byte. -/
def abort (i : ListId) (s : State) : State :=
  let l := s.owalk[i]
  match l.state with
  | .running | .stalled => endFault i .aborted l.next s
  | .armed => s.setList i { l with state := .idle }
  | .idle | .done | .fault => s

/-- A value written into a list's state byte (R162): only ARM and ABORT are commands. -/
def listCommand (i : ListId) (v : Byte) (s : State) : State :=
  if v = 0xA1 then arm i s else if v = 0xA2 then abort i s else s

/-! ## What the walker finds (R165 to R167) -/

/-- What reaching an offset comes to: the end of the chain, a fault, a stall, a refusal by the walker with
the bytes of the record that join the walked set, or an order of a kind. -/
inductive Arrival where
  | linkOf0
  | badLink
  | notPosted
  | tooLong
  | refused (answer : Answer) (bytes : Nat)
  | order (kind : OrderKind) (bytes : Nat)
  deriving DecidableEq, Repr

/-- The list that is RUNNING. -/
def State.runningList (s : State) : Option ListId :=
  (List.finRange 2).find? fun i => s.owalk[i].state == .running

/-- R166: the steps of an arrival at the offset the list reaches next, in order. -/
def State.arrivalOf (s : State) (l : OrderList) : Arrival :=
  let off := l.next.toNat
  let units := (s.field1 off 2).toNat
  if off = 0 then .linkOf0
  else if off < 0x1800 ∨ 0x37FF < off ∨ off % 16 ≠ 0 then .badLink
  else if s.field1 off 0 ≠ 1 then .notPosted
  else if l.taken = 255 then .tooLong
  else if units = 0 ∨ 16 < units then .refused ⟨.badLength, 0⟩ 16
  else if 0x37FF < off + 16 * units - 1 then .badLink
  else
    match OrderKind.ofCode (s.field1 off 1) with
    | none => .refused ⟨.unknownKind, 0⟩ (16 * units)
    | some k =>
      let needed := k.units (s.field1 off 0x0C).toNat
      if units < needed then .refused ⟨.badLength, needed⟩ (16 * units)
      else .order k (16 * units)

/-- R168: the outcome, the detail and the state written into the record. -/
def writeAnswer (off : Nat) (a : Answer) (s : State) : State :=
  s.withMem (Memory.write
    (Memory.writeList (Memory.write s.swm.mem (off + 3) a.outcome.code) (off + 4) (leBytes 2 a.detail))
    off a.outcome.recordState)

/-- R166, R168: the record at `off` is answered: the outcome is written, the taken count rises, the record
joins the walked set with `bytes` bytes, and the walker follows the link it read with the record. -/
def answered (i : ListId) (off bytes : Nat) (link : Half) (a : Answer) (s : State) : State :=
  let t := writeAnswer off a s
  t.setList i { t.owalk[i] with
    taken := t.owalk[i].taken + 1
    next := link
    walked := t.owalk[i].walked ++ [{ offset := off, bytes := bytes }] }

/-- The link of the record at an offset. -/
def State.linkOf (s : State) (off : Nat) : Half := BitVec.ofNat 16 (s.fieldN off 6 2)

/-- R167: a record that is not POSTED stalls the list under WAIT and ends it under FAIL. -/
def notPosted (i : ListId) (s : State) : State :=
  let l := s.owalk[i]
  if l.policy = 1 then endFault i .notPosted l.next s
  else s.setList i { l with state := .stalled, faultOffset := some l.next, stall := some s.now }

/-- The walker reaches a record that it does not dispatch (R166, R167). -/
def notDispatched (s : State) : State :=
  match s.runningList with
  | none => s
  | some i =>
    let l := s.owalk[i]
    match s.arrivalOf l with
    | .badLink => endFault i .badLink l.next s
    | .notPosted => notPosted i s
    | .tooLong => endFault i .tooLong l.next s
    | .refused a bytes => answered i l.next.toNat bytes (s.linkOf l.next.toNat) a s
    | .linkOf0 => s
    | .order _ _ => s

/-- The walker reaches a record that it dispatches as an order of kind `k` (R168): the owner `f` decides from
the record's offset and the state, and OWALK writes the answer. An arrival that comes to anything else is
not this event, and nothing changes (log entry 2). -/
def dispatch (k : OrderKind) (f : Nat → State → State × Answer) (s : State) : State :=
  match s.runningList with
  | none => s
  | some i =>
    let l := s.owalk[i]
    match s.arrivalOf l with
    | .order k' bytes =>
      if k' = k then
        let x := f l.next.toNat s
        answered i l.next.toNat bytes (s.linkOf l.next.toNat) x.2 x.1
      else s
    | _ => s

end Sys2Proof.Machine
end

