-- ==== Sys2Proof/Machine/Pages.lean ====
section
/-! DEFINITION. Shared work memory as the port reads it (Table 9-2): the part-written pages put together from
the state of their owners, byte for byte by Tables 11-2 to 11-9, and the stored bytes elsewhere. -/

namespace Sys2Proof.Machine

/-- Byte `i` of a record, 0 beyond its written part (pad bytes, R179). -/
def byteIn (bs : List Byte) (i : Nat) : Byte := bs.getD i 0

/-- The cart page (Table 11-2). -/
def State.cartPage (s : State) : List Byte :=
  [s.swm.cartCount, 0] ++ s.palloc.cartFields ++ s.acc.cartFields ++ s.cust.cartFields ++
    s.ldrv.cartFields ++ s.smon.cartFields ++ s.swm.cartFields

/-- The bay mirror record of a bay (Table 11-3). -/
def State.bayRecord (s : State) (b : Bay) : List Byte :=
  [s.swm.bayCounts[b]] ++ s.bmon[b].fields ++ pad 1 ++ s.palloc.bays[b].fields ++ s.cctl[b].fields ++
    s.psched.records[b].fields ++ s.ldrv.bayFields b ++ reservationFields s.acc.reservations[b]

/-- A custody slot (Table 11-4). -/
def CustodySlot.bytes (x : CustodySlot) : List Byte := x.count :: custodyFields x.record

/-- The provisioning page (Table 11-6). -/
def State.provPage (s : State) : List Byte := s.psched.pageCount :: s.psched.pageFields

/-- A source on the notice board (Table 11-8). -/
def NoticeSource.bytes (x : NoticeSource) : List Byte :=
  [byteOf x.level, flagByte x.capture, flagByte x.request, flagByte x.inService]

/-- The notice board (Table 11-8); the stored TAKE byte is 0xFF. -/
def State.noticeBoard (s : State) : List Byte :=
  [0xFF, s.nctl.peek, s.swm.endWord, s.swm.heartbeatWord, byteOf s.nctl.threshold,
    s.nctl.pendingCauses.code, s.nctl.serviceCauses.code] ++ pad 9 ++
  (List.finRange 16).flatMap fun i => s.nctl.sources[i].bytes

/-- Offsets of the watched words (Table 11-8, Section 9.5). -/
abbrev takeWord : Nat := 0x0140
abbrev endWordAt : Nat := 0x0142
abbrev heartbeatAt : Nat := 0x0143
abbrev listStateAt (i : ListId) : Nat := 0x0100 + 0x20 * i.val

/-- The byte at an offset from 0x0000 to 0x7FFF, with no event. -/
def State.byteAt (s : State) (a : Nat) : Byte :=
  if a < 0x0100 then byteIn s.cartPage a
  else if a < 0x0120 then byteIn (s.owalk[(0 : ListId)].fields) (a - 0x0100)
  else if a < 0x0140 then byteIn (s.owalk[(1 : ListId)].fields) (a - 0x0120)
  else if a < 0x0200 then byteIn s.noticeBoard (a - 0x0140)
  else if h : a < 0x0B00 then
    byteIn (s.bayRecord ⟨min ((a - 0x0200) / 0x40) 35, by omega⟩) ((a - 0x0200) % 0x40)
  else if h : a < 0x1100 then
    byteIn (s.cust.slots[(⟨min ((a - 0x0B00) / 0x20) 47, by omega⟩ : Fin 48)]).bytes
      ((a - 0x0B00) % 0x20)
  else if h : a < 0x1700 then
    byteIn (s.cust.journal[(⟨min ((a - 0x1100) / 0x20) 47, by omega⟩ : Fin 48)]).fields
      ((a - 0x1100) % 0x20)
  else if a < 0x1800 then byteIn s.provPage (a - 0x1700)
  else Memory.read s.swm.mem a

end Sys2Proof.Machine
end

