-- ==== Sys2Proof/Machine/Port.lean ====
section
/-! DEFINITION. The port's accesses to shared work memory and to the register page (Sections 9.1 to 9.5):
read bursts with their TAKE, the guard, write bursts with their watch events, register reads. -/

namespace Sys2Proof.Machine

/-- The offset of the `i`-th data byte of a burst: the low 15 bits of the command's offset, running on past
0x7FFF to 0x0000 (R156). -/
def burstAt (offset : BitVec 24) (i : Nat) : Nat := (offset.toNat + i) % 32768

/-- A burst moves at most 256 data bytes (R156). -/
abbrev burstMax : Nat := 256

/-! ## Read bursts (R156, R158, R162, R175) -/

/-- A read burst of `n` bytes covers the TAKE word. -/
def coversTake (offset : BitVec 24) (n : Nat) : Bool :=
  (List.range n).any fun i => burstAt offset i == takeWord

/-- The bytes a read burst returns: the memory as it stands, with the result of the TAKE in the TAKE word's
place while memory ready is set, and 0xFF for every byte clocked after the 256th. -/
def State.readBytes (s : State) (offset : BitVec 24) (clocked : Nat) : List Byte :=
  (List.range (min clocked burstMax)).map (fun i =>
    if burstAt offset i = takeWord ∧ s.swm.ready = true then s.nctl.peek
    else s.byteAt (burstAt offset i)) ++ absent (clocked - burstMax)

/-- What the part drives on the port's data bytes. -/
def State.drive (s : State) (bs : List Byte) : State := s.withOut { s.out with portData := bs }

/-- A memory read command. With no data byte clocked it is no access (R156). -/
def readBurst (offset : BitVec 24) (clocked : Nat) (s : State) : State :=
  let t := if s.swm.ready && coversTake offset (min clocked burstMax) then take s else s
  t.drive (s.readBytes offset clocked)

/-! ## The guard (R160) -/

/-- Offsets of the order area and of the two banks (Table 9-2). -/
def inOrderArea (a : Nat) : Bool := decide (0x1800 ≤ a) && decide (a < 0x3800)

def Bank.covers (k : Bank) (a : Nat) : Bool := decide (k.base ≤ a) && decide (a < k.base + 0x2000)

/-- A byte inside a record of a walked set. -/
def WalkedRecord.covers (w : WalkedRecord) (a : Nat) : Bool :=
  decide (w.offset ≤ a) && decide (a < w.offset + w.bytes)

/-- A byte of the order area that a RUNNING or STALLED list has walked (R160, R168). -/
def State.walkedByte (s : State) (a : Nat) : Bool :=
  (List.finRange 2).any fun i =>
    s.owalk[i].walking && s.owalk[i].walked.any fun w => w.covers a

/-- The stall policy and the first record offset of a list may be written while it is IDLE, DONE or FAULT;
the state byte always (R160). `p` is the position in the header. -/
def OrderList.headerWritable (l : OrderList) (p : Nat) : Bool :=
  p == 0 ||
    ((p == 1 || p == 2 || p == 3) && (l.state == .idle || l.state == .done || l.state == .fault))

/-- A journal entry takes only FREE into its state byte while it is FILLED or FREE (R119, R160). -/
def JournalEntry.writable (e : JournalEntry) (p : Nat) (v : Byte) : Bool :=
  p == 0 && v == 0 && (e.state == .filled || e.state == .free)

/-- The journal entry and the position in it of an offset of the journal. -/
def journalIndex (a : Nat) : Fin 48 := ⟨min ((a - 0x1100) / 0x20) 47, by omega⟩

/-- R160: a port write of `v` to the byte at `a` may land. -/
def State.mayWrite (s : State) (a : Nat) (v : Byte) : Bool :=
  if a < 0x0100 then false
  else if a < 0x0120 then s.owalk[(0 : ListId)].headerWritable (a - 0x0100)
  else if a < 0x0140 then s.owalk[(1 : ListId)].headerWritable (a - 0x0120)
  else if a < 0x0200 then a == endWordAt || a == heartbeatAt
  else if a < 0x1100 then false
  else if a < 0x1700 then s.cust.journal[journalIndex a].writable ((a - 0x1100) % 0x20) v
  else if a < 0x1800 then false
  else if a < 0x3800 then !s.walkedByte a
  else if a < 0x5800 then s.acc.activeBank != some .a
  else if a < 0x7800 then s.acc.activeBank != some .b
  else true

/-! ## Landing (R160, R162) -/

/-- Replace the low or the high byte of a halfword. -/
def setLow (w : Half) (v : Byte) : Half := BitVec.ofNat 16 (w.toNat / 256 * 256 + v.toNat)
def setHigh (w : Half) (v : Byte) : Half := BitVec.ofNat 16 (w.toNat % 256 + 256 * v.toNat)

/-- A byte that lands in a list header; the state byte keeps no written value (R162). -/
def OrderList.land (l : OrderList) (p : Nat) (v : Byte) : OrderList :=
  match p with
  | 1 => { l with policy := v }
  | 2 => { l with first := setLow l.first v }
  | 3 => { l with first := setHigh l.first v }
  | _ => l

/-- One byte that the guard allows lands. -/
def land (a : Nat) (v : Byte) (s : State) : State :=
  if a < 0x0120 then s.setList 0 (s.owalk[(0 : ListId)].land (a - 0x0100) v)
  else if a < 0x0140 then s.setList 1 (s.owalk[(1 : ListId)].land (a - 0x0120) v)
  else if a = endWordAt then s.withSwm { s.swm with endWord := v }
  else if a = heartbeatAt then s.withSwm { s.swm with heartbeatWord := v }
  else if a < 0x1800 then freeJournal (journalIndex a) s
  else s.withMem (Memory.write s.swm.mem a v)

/-- The bytes of a write burst with their offsets; bytes after the 256th are discarded (R156). -/
def burstBytes (w : Burst) : List (Nat × Byte) :=
  (w.data.take burstMax).zipIdx.map fun x => (burstAt w.offset x.2, x.1)

/-- The bytes of a burst land byte by byte as the guard, read at the moment the burst is served, allows. -/
def landBytes (bs : List (Nat × Byte)) (s : State) : State :=
  (bs.filter fun x => s.mayWrite x.1 x.2).foldl (fun t x => land x.1 x.2 t) s

/-- The offset of the first discarded byte of a burst (R161). -/
def State.firstHit (s : State) (bs : List (Nat × Byte)) : Option Nat :=
  (bs.find? fun x => !s.mayWrite x.1 x.2).map Prod.fst

/-- R161: SWM's update of the guard capture and the guard offset, with GUARD_HIT. -/
def recordHit (hit : Option Nat) (s : State) : State :=
  match hit with
  | none => s
  | some a =>
    if s.swm.guardArmed then
      let w := { s.swm with guardArmed := false, guardOffset := some a }
      raiseGuardHit ((s.withSwm w).bumpCart (w.cartFields != s.swm.cartFields))
    else s

/-- The value a burst wrote into a watched byte, if it covers it. -/
def writtenTo (bs : List (Nat × Byte)) (a : Nat) : Option Byte := (bs.find? fun x => x.1 == a).map Prod.snd

/-- A watch event, if the burst covers the watched byte. -/
def watch (bs : List (Nat × Byte)) (a : Nat) (f : Byte → State → State) (s : State) : State :=
  match writtenTo bs a with
  | some v => f v s
  | none => s

/-- The watch events of a write burst, in ascending offset (R162). -/
def watchEvents (bs : List (Nat × Byte)) (s : State) : State :=
  watch bs heartbeatAt (fun _ => heartbeat)
    (watch bs endWordAt (fun v s => s.withNctl (s.nctl.endWord v))
      (watch bs (listStateAt 1) (listCommand 1)
        (watch bs (listStateAt 0) (listCommand 0) s)))

/-- A memory write command (R158, R160, R161, R162): discarded whole while memory ready is clear. -/
def writeBurst (w : Burst) (s : State) : State :=
  if s.swm.ready then
    watchEvents (burstBytes w) (recordHit (s.firstHit (burstBytes w)) (landBytes (burstBytes w) s))
  else s

/-- A write burst cut off by a part reset: its bytes written so far remain, and none of its watch events is
taken (R170). -/
def cutBurst (w : Option Burst) (s : State) : State :=
  match w with
  | some w => if s.swm.ready then landBytes (burstBytes w) s else s
  | none => s

/-! ## The register page (R159, R180) -/

/-- The bytes of a register (Table 11-14); an unknown register has none, so it reads as 0. -/
def State.register (s : State) (number : Byte) : List Byte :=
  if number = 0x00 then [0x36, 0x01]
  else if number = 0x01 then [s.status0, s.status1]
  else if number = 0x02 then [0]
  else []

/-- A register read: the register's bytes, and 0 for every byte clocked beyond its length (R180). -/
def readRegister (number : Byte) (clocked : Nat) (s : State) : State :=
  s.drive ((List.range clocked).map fun i => byteIn (s.register number) i)

end Sys2Proof.Machine
end

