-- ==== Sys2Proof/Machine/Reset.lean ====
section
/-! DEFINITION. Power-on and part reset (R25, R26, R51, R52, R67, R68, R91, R92, R106, R107, R132, R133, R145,
R146, R155, R170, R171, R178): every block restarts, and what a part reset keeps is kept. -/

namespace Sys2Proof.Machine

/-- A bay entry at its reset values with sensing started: each input that differs from the state it starts
in begins its debounce now (R10, R13, R25). -/
def BayEntry.sensing (p : BayPins) (pool : Option Nat) (now : Nat) : BayEntry :=
  { BayEntry.reset with
    pool := pool
    presenceDebounce := if p.presence then some now else none
    doorDebounce := if p.door = .closed then some now else none
    latchDebounce := if p.latch = .locked then some now else none }

def SagSelect.threshold : SagSelect → Nat
  | .pct92 => 9200
  | .pct88 => 8800
  | .pct84 => 8400

def DeepSelect.threshold : DeepSelect → Nat
  | .pct80 => 8000
  | .pct75 => 7500

/-- All four supply timers cleared and starting from the input as it stands (R29, R51). -/
def PAlloc.restartTimers (p : PAlloc) (input now : Nat) : PAlloc :=
  { p with
    belowSag := restartWhile (decide (input < p.sagSelect.threshold)) now
    belowDeep := restartWhile (decide (input < p.deepSelect.threshold)) now
    aboveSag := restartWhile (decide (p.sagSelect.threshold ≤ input)) now
    aboveDeep := restartWhile (decide (p.deepSelect.threshold ≤ input)) now }

/-- Every change count of the pages at 0 (R24, R90, R179). -/
def clearCounts (s : State) : State :=
  (s.withSwm { s.swm with bayCounts := Vector.replicate 36 0, cartCount := 0 }).withPsched
    { s.psched with pageCount := 0 }

/-- R25, R51, R170: power-on. The pins, the timebase and the commands that wait belong to the outside. -/
def powerUp (s : State) : State :=
  let p := PAlloc.reset.restartTimers s.vsense s.now
  clearCounts (pass
    { State.reset with
      pending := s.pending
      now := s.now
      choices := s.choices
      pins := s.pins
      vsense := s.vsense
      bmon := Vector.ofFn fun b : Bay => BayEntry.sensing s.pins[b] none s.now
      palloc := { p with sampleSince := s.now } })

/-- R52: the allocator's state at a part reset: the limits and selects are kept. -/
def PAlloc.partReset (p : PAlloc) (input now : Nat) : PAlloc :=
  let q := ({ PAlloc.reset with
    limit := p.limit, caps := p.caps, sagSelect := p.sagSelect, deepSelect := p.deepSelect }).restartTimers
      input now
  { q with sampleSince := now }

/-- R92. -/
def PSched.partReset (p : PSched) : PSched :=
  { PSched.reset with releaseThreshold := p.releaseThreshold, provMinimum := p.provMinimum }

/-- R107, R116, R133, R181: ACC keeps its tables, its clock and SERVICE; the transaction returns to IDLE and
the collection of a frame is discarded. -/
def Acc.partReset (a : Acc) : Acc := { a with transaction := none, collecting := none }

/-- A record at a part reset: PENDING_RELEASE returns to IN_CART at its bay (R133). -/
def CustodyRecord.partReset (r : CustodyRecord) (minute : Option Nat) : CustodyRecord :=
  match r.state, r.bay with
  | .pendingRelease, some b => r.toCart b minute
  | _, _ => r

/-- A slot at a part reset; a change is one update of the slot (R117). -/
def CustodySlot.partReset (x : CustodySlot) (minute : Option Nat) : CustodySlot :=
  let r := x.record.map fun r => r.partReset minute
  { record := r
    count := if custodyFields r != custodyFields x.record then x.count + 1 else x.count }

/-- A journal entry at a part reset: HELD returns to FREE (R133). -/
def JournalEntry.partReset (e : JournalEntry) : JournalEntry :=
  if e.state = .held then { e with state := .free } else e

/-- R133. -/
def Cust.partReset (c : Cust) (minute : Option Nat) : Cust where
  slots := Vector.ofFn fun i : Fin 48 => c.slots[i].partReset minute
  journal := Vector.ofFn fun j : Fin 48 => c.journal[j].partReset
  nextSequence := c.nextSequence
  releases := Vector.replicate 36 none

/-- R146: the latch mode and the pulse length are kept. -/
def Ldrv.partReset (l : Ldrv) : Ldrv := { Ldrv.reset with mode := l.mode, pulse := l.pulse }

/-- R158, R159, R170: the stored bytes are kept, memory ready is cleared, the guard capture is armed. -/
def Swm.partReset (w : Swm) (cause : ResetCause) : Swm :=
  { Swm.reset with mem := w.mem, resetCause := cause }

/-- A part reset with its cause. Every page is rewritten with the values below, a change count of 0, and
PALLOC's first pass (R52, R170). -/
def partReset (cause : ResetCause) (s : State) : State :=
  clearCounts (pass
    { s with
      bmon := Vector.ofFn fun b : Bay => BayEntry.sensing s.pins[b] s.bmon[b].pool s.now
      palloc := s.palloc.partReset s.vsense s.now
      cctl := Vector.replicate 36 ChargeBay.reset
      psched := s.psched.partReset
      acc := s.acc.partReset
      cust := s.cust.partReset s.minute
      ldrv := s.ldrv.partReset
      smon := Smon.reset
      swm := s.swm.partReset cause
      owalk := Vector.replicate 2 OrderList.reset
      nctl := Nctl.reset })

end Sys2Proof.Machine
end

