-- ==== Sys2Proof/Machine/BayCommands.lean ====
section
/-! DEFINITION. The meanings of the Bay Monitor's commands (Chapter 1). An event that cannot arise in the state
(its timer is not running or has not reached its count, or the bay is in another state) does not happen, and
the command changes nothing (log entry 2). -/

namespace Sys2Proof.Machine

/-- A change of charge state or demand at a bay (R65): CCTL's update, PALLOC's pass if a want changed, and a
consideration if the bay entered or left LOCKED_OUT (R74). -/
def cctlChange (b : Bay) (ch : ChargeBay) (s : State) : State :=
  let t := passIfChanged (s.setCharge b ch)
  if (s.cctl[b].state == .lockedOut) != (ch.state == .lockedOut) then consider t else t

/-! ## Presence (R1, R2, R7, R8) -/

/-- R1: a change of the presence input. -/
def presenceChange (b : Bay) (v : Bool) (s : State) : State :=
  if s.pins[b].presence = v then s
  else
    let t := s.setPins b { s.pins[b] with presence := v }
    let e := s.bmon[b]
    if e.occupancy = .empty then
      t.setEntry b { e with presenceDebounce := restartWhile v s.now }
    else if v then
      let t := t.setEntry b { e with presenceDebounce := none }
      if e.presenceDebounce.isSome then custLossAbandoned b t else t
    else t.setEntry b { e with presenceDebounce := some s.now }

def execPresenceInputChange (bay : Bay) (asserted : Bool) (s : State) :
    Host.Outcome State Fault Refusal :=
  .next (presenceChange bay asserted s)

/-- R2: the entry of a bay when its attach is issued. -/
def BayEntry.attached (e : BayEntry) (now : Nat) : BayEntry :=
  { e with
    occupancy := .settling, presenceDebounce := none, tag := none, level := none, path := .dark
    tagRead := some { attempt := 1, since := now } }

/-- R2, R53: an attach. -/
def attachBay (b : Bay) (s : State) : State :=
  if s.bmon[b].occupancy = .empty ∧ due s.bmon[b].presenceDebounce Config.presenceHold s.now = true then
    let t := s.setEntry b (s.bmon[b].attached s.now)
    pass (t.setCharge b (s.cctl[b].negotiate s.now))
  else s

def execAttach (bay : Bay) (s : State) : Host.Outcome State Fault Refusal := .next (attachBay bay s)

/-- R7: the entry of a bay when it detaches; a JOINED path waits for the unjoin. -/
def BayEntry.detached (e : BayEntry) : BayEntry :=
  { e with
    occupancy := .empty, presenceDebounce := none, tag := none, tagRead := none, level := none
    levelAge := none, pollTimer := none, reportWait := none, silence := none, faultTimer := none
    path := if e.path = .joined then .joined else .dark
    joined := if e.path = .joined then e.joined else none }

/-- R8: a detach goes to PSCHED first, then to CUST, CCTL, LDRV (nothing to do, R141) and PALLOC. Which of
CCTL and PALLOC takes it first is free; CUST's part commutes with both (log entry 18). -/
def detachBay (b : Bay) (s : State) : State :=
  if s.bmon[b].occupancy ≠ .empty ∧ due s.bmon[b].presenceDebounce Config.presenceHold s.now = true then
    let t := custDetach b s.bmon[b].tag (pschedDetach b (s.setEntry b s.bmon[b].detached))
    eitherOrder (fun t => cctlChange b t.cctl[b].detached t) (pallocDetach b) t
  else s

def execDetach (bay : Bay) (s : State) : Host.Outcome State Fault Refusal := .next (detachBay bay s)

/-! ## Tag read (R3 to R6, R9) -/

/-- R5: the entry to ANON. -/
def enterAnon (b : Bay) (s : State) : State :=
  custOtherEntry b none (pass (s.setEntry b
    { s.bmon[b] with occupancy := .anon, tag := none, tagRead := none, level := none, path := .dark }))

/-- R3: a failed attempt. -/
def failAttempt (b : Bay) (r : TagRead) (s : State) : State :=
  if r.attempt < 3 then
    s.setEntry b { s.bmon[b] with tagRead := some { attempt := r.attempt + 1, since := s.now } }
  else enterAnon b s

/-- R4: another bay whose occupancy is PRESENT holds the tag. -/
def State.tagHeld (s : State) (b : Bay) (t : Tag) : Bool :=
  (List.finRange 36).any fun x => x != b && s.bmon[x].occupancy == .present && s.bmon[x].tag == some t

/-- R4, R14, R18: the entry of a bay that enters PRESENT. -/
def BayEntry.entersPresent (e : BayEntry) (t : Tag) (atFault : Bool) (now : Nat) : BayEntry :=
  { e with
    occupancy := .present, tag := some t, tagRead := none, level := none, levelAge := none
    pollTimer := some now, reportWait := some now, path := .watch
    faultTimer := restartWhile atFault now }

/-- R4, R9: an attempt has read a tag. -/
def readTag (b : Bay) (tag : Tag) (s : State) : State :=
  if s.tagHeld b tag then
    custOtherEntry b (some tag) (pass (raise .bayFault (s.setEntry b
      { s.bmon[b] with occupancy := .duplicate, tag := some tag, tagRead := none })))
  else
    custTagRead b tag (pschedPresent b (pass (s.setEntry b
      (s.bmon[b].entersPresent tag s.pins[b].atFault s.now))))

/-- R3: a tag frame; one that arrives outside an attempt is discarded. DESIGN CHOICE (log entry 28): a frame
does not name the attempt that it answers, so one that arrives in the wait of a running attempt is taken as that
attempt's frame, also when the tablet sent it for an attempt, or a stay, that has ended. -/
def tagFrameArrives (b : Bay) (tag : Tag) (checkOk : Bool) (s : State) : State :=
  match s.bmon[b].tagRead with
  | some r =>
    if s.bmon[b].occupancy = .settling ∧ within (some r.since) Config.tagWait s.now = true then
      if checkOk = true ∧ tag ≠ noTag then readTag b tag s else failAttempt b r s
    else s
  | none => s

def execTagFrame (bay : Bay) (tag : Tag) (checkOk : Bool) (s : State) :
    Host.Outcome State Fault Refusal :=
  .next (tagFrameArrives bay tag checkOk s)

/-- R3: an attempt's wait ends without a frame. -/
def tagReadExpires (b : Bay) (s : State) : State :=
  match s.bmon[b].tagRead with
  | some r =>
    if s.bmon[b].occupancy = .settling ∧ due (some r.since) Config.tagWait s.now = true then
      failAttempt b r s
    else s
  | none => s

def execTagReadAttemptExpiry (bay : Bay) (s : State) : Host.Outcome State Fault Refusal :=
  .next (tagReadExpires bay s)

/-! ## Doors (R10 to R12) -/

def doorReading (isOpen : Bool) : Door := if isOpen then .opened else .closed

/-- R10: a change of the door sensor. -/
def doorInput (b : Bay) (v : Door) (s : State) : State :=
  if s.pins[b].door = v then s
  else
    (s.setPins b { s.pins[b] with door := v }).setEntry b
      { s.bmon[b] with doorDebounce := restartWhile (v != s.bmon[b].door) s.now }

def execDoorInputChange (bay : Bay) (isOpen : Bool) (s : State) : Host.Outcome State Fault Refusal :=
  .next (doorInput bay (doorReading isOpen) s)

/-- R120: the release window runs while the stage is WINDOW or OPENED. -/
def Cust.windowRuns (c : Cust) (b : Bay) : Bool :=
  match c.releases[b] with
  | some r => r.stage == .window || r.stage == .opened
  | none => false

/-- R11: the class of a door OPEN event. -/
def State.openClass (s : State) (b : Bay) : OpenClass :=
  if s.ldrv.driving b || s.cust.windowRuns b then .released else .forced

/-- A door OPEN event at CCTL: nothing of the charge state changes (R57), and a third high sample that falls
together with it is kept in mind (R46; log entry 25). -/
def cctlDoorOpen (b : Bay) (s : State) : State := s.withCctl (s.cctl.set b (s.cctl[b].noteDoor s.now))

/-- R12: a door OPEN event of a class to its recipients. For a RELEASED opening the order of PALLOC and LDRV
is free; CUST's part commutes with both (log entry 18). -/
def doorOpens (b : Bay) (s : State) : State :=
  let k := s.openClass b
  let t := cctlDoorOpen b
    (s.setEntry b { s.bmon[b] with door := .opened, doorDebounce := none, lastOpen := some k })
  match k with
  | .forced => custForced b (pass (pschedForced b (raise .forcedOpen t)))
  | .released => eitherOrder pass (ldrvDoorOpen b) (custDoorReleased b t)

/-- R12: a door CLOSED event to PALLOC, PSCHED and CUST; whether PALLOC takes it before or after the others
is free. -/
def doorCloses (b : Bay) (s : State) : State :=
  eitherOrder pass (fun t => custDoorClosed b (consider t))
    (s.setEntry b { s.bmon[b] with door := .closed, doorDebounce := none })

/-- R10: a door reading that has held for 20 ms. -/
def doorHeld (b : Bay) (s : State) : State :=
  if due s.bmon[b].doorDebounce Config.senseHold s.now = true ∧ s.pins[b].door ≠ s.bmon[b].door then
    match s.bmon[b].door with
    | .closed => doorOpens b s
    | .opened => doorCloses b s
  else s

def execDoorEvent (bay : Bay) (s : State) : Host.Outcome State Fault Refusal := .next (doorHeld bay s)

/-! ## Latch sense (R13) -/

def latchReading (isReleased : Bool) : LatchSense := if isReleased then .released else .locked

/-- R13: a change of the latch sense input. -/
def latchInput (b : Bay) (v : LatchSense) (s : State) : State :=
  if s.pins[b].latch = v then s
  else
    (s.setPins b { s.pins[b] with latch := v }).setEntry b
      { s.bmon[b] with latchDebounce := restartWhile (v != s.bmon[b].latch) s.now }

def execLatchSenseInputChange (bay : Bay) (isReleased : Bool) (s : State) :
    Host.Outcome State Fault Refusal :=
  .next (latchInput bay (latchReading isReleased) s)

/-- R13: a latch sense change that has held for 20 ms, handed to LDRV and to PSCHED. -/
def latchHeld (b : Bay) (s : State) : State :=
  if due s.bmon[b].latchDebounce Config.senseHold s.now = true ∧ s.pins[b].latch ≠ s.bmon[b].latch then
    consider (ldrvLatchSense b (s.setEntry b
      { s.bmon[b] with latch := s.pins[b].latch, latchDebounce := none }))
  else s

def execLatchSenseChange (bay : Bay) (s : State) : Host.Outcome State Fault Refusal :=
  .next (latchHeld bay s)

/-! ## Charge level (R14 to R16) -/

/-- R16: a level event goes to PALLOC and to PSCHED; which takes it first is free. -/
def levelEvent (b : Bay) (s : State) : State := eitherOrder (pallocLevel b) consider s

/-- R14: a poll falls due; the polls keep their 30 s period. -/
def pollBay (b : Bay) (s : State) : State :=
  if s.bmon[b].occupancy = .present then
    match s.bmon[b].pollTimer with
    | some t =>
      if t + Config.pollPeriod ≤ s.now then
        s.setEntry b { s.bmon[b] with
          pollTimer := some (t + Config.pollPeriod), reportWait := some s.now }
      else s
    | none => s
  else s

def execLevelPoll (bay : Bay) (s : State) : Host.Outcome State Fault Refusal := .next (pollBay bay s)

/-- R14: a report frame; a valid one sets the level and restarts the age. -/
def levelReported (b : Bay) (level : Nat) (checkOk : Bool) (s : State) : State :=
  if s.bmon[b].occupancy = .present ∧ within s.bmon[b].reportWait Config.reportWait s.now = true ∧
      checkOk = true ∧ level ≤ 100 then
    let t := s.setEntry b { s.bmon[b] with level := some level, levelAge := some s.now }
    if s.bmon[b].level = some level then t else levelEvent b t
  else s

def execLevelReport (bay : Bay) (level : Byte) (checkOk : Bool) (s : State) :
    Host.Outcome State Fault Refusal :=
  .next (levelReported bay level.toNat checkOk s)

/-- R14: the wait after a poll ends. -/
def reportWaitEnds (b : Bay) (s : State) : State :=
  if due s.bmon[b].reportWait Config.reportWait s.now then
    s.setEntry b { s.bmon[b] with reportWait := none }
  else s

def execLevelReportWaitExpiry (bay : Bay) (s : State) : Host.Outcome State Fault Refusal :=
  .next (reportWaitEnds bay s)

/-- R15: the level age reaches 90 s. -/
def levelStales (b : Bay) (s : State) : State :=
  if due s.bmon[b].levelAge Config.staleAge s.now then
    let t := s.setEntry b { s.bmon[b] with level := none, levelAge := none }
    if s.bmon[b].level = none then t else levelEvent b t
  else s

def execLevelStale (bay : Bay) (s : State) : Host.Outcome State Fault Refusal :=
  .next (levelStales bay s)

/-! ## The data path (R20, R21) -/

/-- R20: line activity restarts the silence timer of a JOINED path. DESIGN CHOICE (log entry 26): activity
taken while the pair is at the fault level is the traffic of the line that is not, and restarts the timer too. -/
def lineActive (b : Bay) (s : State) : State :=
  if s.bmon[b].path = .joined then
    s.setEntry b { s.bmon[b] with
      silence := s.bmon[b].silence.map fun x => { x with since := s.now } }
  else s

def execLineActivity (bay : Bay) (s : State) : Host.Outcome State Fault Refusal :=
  .next (lineActive bay s)

/-- R20: the silence timer reaches its limit. -/
def silenceReached (b : Bay) (s : State) : State :=
  match s.bmon[b].path, s.bmon[b].silence, s.bmon[b].joined with
  | .joined, some x, some c =>
    if x.since + 1000 * x.limit ≤ s.now then
      pschedLineEvent b c .stalled (s.setEntry b { s.bmon[b] with silence := none })
    else s
  | _, _, _ => s

def execSilenceEvent (bay : Bay) (s : State) : Host.Outcome State Fault Refusal :=
  .next (silenceReached bay s)

/-- The path is watched for the fault level in WATCH and JOINED (Table 1-5). -/
def DataPath.watched : DataPath → Bool
  | .watch | .joined => true
  | .dark | .cut => false

/-- R21: the pair reaches or leaves the fault level. -/
def faultLevel (b : Bay) (v : Bool) (s : State) : State :=
  if s.pins[b].atFault = v then s
  else
    let t := s.setPins b { s.pins[b] with atFault := v }
    if s.bmon[b].path.watched then
      t.setEntry b { s.bmon[b] with faultTimer := restartWhile v s.now }
    else t

def execFaultLevelChange (bay : Bay) (atFault : Bool) (s : State) : Host.Outcome State Fault Refusal :=
  .next (faultLevel bay atFault s)

/-- R21, R22: the fault-level timer reaches 800 ms: the path enters CUT, BAY_FAULT is raised, a stuck-line
event goes to PSCHED if the path was JOINED, and the change of eligibility is handed to PSCHED. -/
def faultReached (b : Bay) (s : State) : State :=
  if s.bmon[b].path.watched = true ∧ due s.bmon[b].faultTimer Config.faultHold s.now = true then
    let t := raise .bayFault (s.setEntry b { s.bmon[b] with path := .cut, faultTimer := none })
    match s.bmon[b].path, s.bmon[b].joined with
    | .joined, some c => consider (pschedLineEvent b c .linkFault t)
    | _, _ => consider t
  else s

def execFaultLevelExpiry (bay : Bay) (s : State) : Host.Outcome State Fault Refusal :=
  .next (faultReached bay s)

end Sys2Proof.Machine
end

