-- ==== Sys2Proof/Machine/PowerCommands.lean ====
section
/-! DEFINITION. The meanings of the Power Allocator's commands: the supply monitor and thermal sampling
(Sections 2.3 and 2.4). -/

namespace Sys2Proof.Machine

/-! ## Supply (R29 to R32) -/

/-- The four timers follow the input (R29): a timer whose condition goes on keeps its count. -/
def PAlloc.followInput (p : PAlloc) (input now : Nat) : PAlloc :=
  { p with
    belowSag := runWhile (decide (input < p.sagSelect.threshold)) p.belowSag now
    belowDeep := runWhile (decide (input < p.deepSelect.threshold)) p.belowDeep now
    aboveSag := runWhile (decide (p.sagSelect.threshold ≤ input)) p.aboveSag now
    aboveDeep := runWhile (decide (p.deepSelect.threshold ≤ input)) p.aboveDeep now }

/-- R29: the input on VSENSE changes. -/
def supplyInput (input : Nat) (s : State) : State :=
  (s.withVsense input).withPalloc (s.palloc.followInput input s.now)

def execSupplyInputCrossing (input : Nat) (s : State) : Host.Outcome State Fault Refusal :=
  .next (supplyInput input s)

/-- R32: a supply event, with PALLOC's state after it: the update of the cart page, SUPPLY, and a pass. -/
def supplyEvent (p : PAlloc) (s : State) : State := pass (raise .supply (s.setPalloc p))

/-- R30: the state a fall leads to, if a below timer that takes effect has reached 40 ms. -/
def PAlloc.fallTo (p : PAlloc) (now : Nat) : Option SupplyState :=
  match p.supply with
  | .nominal =>
    if due p.belowSag Config.fallHold now then
      some (if due p.belowDeep Config.fallHold now then .deepSag else .sag)
    else none
  | .sag => if due p.belowDeep Config.fallHold now then some .deepSag else none
  | .deepSag => none

/-- R30: a fall clears both above timers; one whose condition still holds runs on from zero. -/
def supplyFalls (s : State) : State :=
  match s.palloc.fallTo s.now with
  | some st =>
    supplyEvent { s.palloc with
      supply := st
      aboveSag := restartWhile (decide (s.palloc.sagSelect.threshold ≤ s.vsense)) s.now
      aboveDeep := restartWhile (decide (s.palloc.deepSelect.threshold ≤ s.vsense)) s.now } s
  | none => s

def execSupplyFall (s : State) : Host.Outcome State Fault Refusal := .next (supplyFalls s)

/-- R31: a rise, one step at a time; the above-sag timer is cleared on the entry to SAG. -/
def supplyRises (s : State) : State :=
  match s.palloc.supply with
  | .nominal => s
  | .deepSag =>
    if due s.palloc.aboveDeep Config.riseHold s.now then
      supplyEvent { s.palloc with
        supply := .sag
        aboveSag := restartWhile (decide (s.palloc.sagSelect.threshold ≤ s.vsense)) s.now } s
    else s
  | .sag =>
    if due s.palloc.aboveSag Config.riseHold s.now then
      supplyEvent { s.palloc with supply := .nominal } s
    else s

def execSupplyRise (s : State) : Host.Outcome State Fault Refusal := .next (supplyRises s)

/-! ## Temperature (R33 to R35) -/

/-- R33: the integer temperature of a valid sample, halves rounded up; `none` for an invalid one. -/
def validTemperature : ThermalReading → Option Int
  | .noAnswer => none
  | .badCheck => none
  | .value m => if -40000 ≤ m ∧ m ≤ 125000 then some ((m + 500) / 1000) else none

/-- R34 and Table 2-4: the thermal state after a valid sample. -/
def thermalAfter (st : ThermalState) (t : Int) : ThermalState :=
  if st = .hold ∧ 47 ≤ t then .hold
  else if 50 ≤ t then .hold
  else if t ≤ 35 then .normal
  else .derated

/-- R33: PALLOC's thermal state after a sample. -/
def PAlloc.sampled (p : PAlloc) (r : ThermalReading) : PAlloc :=
  match validTemperature r with
  | some t => { p with temp := some t, invalidSamples := 0, thermal := thermalAfter p.thermal t }
  | none =>
    if p.invalidSamples + 1 < 3 then { p with invalidSamples := p.invalidSamples + 1 }
    else { p with temp := none, invalidSamples := 3, thermal := .sensorLost }

/-- R33, R35: one sample a second; THERMAL on a change of state, a pass on a change of f_t. -/
def thermalSampled (r : ThermalReading) (s : State) : State :=
  if s.palloc.sampleSince + Config.thermalPeriod ≤ s.now then
    let p := { s.palloc.sampled r with sampleSince := s.palloc.sampleSince + Config.thermalPeriod }
    let t := s.setPalloc p
    let t := if p.thermal = s.palloc.thermal then t else raise .thermal t
    if p.thermalFactor = s.palloc.thermalFactor then t else pass t
  else s

def execThermalSample (reading : ThermalReading) (s : State) : Host.Outcome State Fault Refusal :=
  .next (thermalSampled reading s)

end Sys2Proof.Machine
end

