-- ==== Sys2Proof/Machine/ChargeCommands.lean ====
section
/-! DEFINITION. The meanings of Charge Control's commands (Chapter 3) and of the session timer (R77). -/

namespace Sys2Proof.Machine

/-- R54, R56: an amount above 120 qW is taken as 120. -/
def demandOf (amount : Nat) : Nat := min amount Config.maxDemand

/-- R56: a new demand of a DELIVERING bay; the demand already held changes nothing. -/
def newDemand (b : Bay) (amount : Nat) (s : State) : State :=
  if demandOf amount = s.cctl[b].demand then s
  else cctlChange b { s.cctl[b] with demand := demandOf amount } s

/-- R54: an agreement, by the bay's charge state. -/
def agreed (b : Bay) (amount : Nat) (s : State) : State :=
  match s.cctl[b].state with
  | .negotiating => cctlChange b (s.cctl[b].deliver s.now (demandOf amount)) s
  | .delivering => newDemand b amount s
  | .off | .cooldown | .lockedOut => s

def execAgreement (bay : Bay) (amount : Nat) (s : State) : Host.Outcome State Fault Refusal :=
  .next (agreed bay amount s)

/-- R55: the negotiation timer expires. -/
def negotiationExpires (b : Bay) (s : State) : State :=
  if s.cctl[b].state = .negotiating ∧ due s.cctl[b].negotiation Config.negotiation s.now = true then
    cctlChange b (s.cctl[b].deliver s.now Config.basicRate) s
  else s

def execNegotiationExpiry (bay : Bay) (s : State) : Host.Outcome State Fault Refusal :=
  .next (negotiationExpires bay s)

/-- R56: a demand announcement is taken in DELIVERING only. -/
def announced (b : Bay) (amount : Nat) (s : State) : State :=
  if s.cctl[b].state = .delivering then newDemand b amount s else s

def execDemandAnnouncement (bay : Bay) (amount : Nat) (s : State) : Host.Outcome State Fault Refusal :=
  .next (announced bay amount s)

/-- R58: the ramp timer expires; a timer that runs on keeps its phase. -/
def rampExpires (b : Bay) (s : State) : State :=
  match s.cctl[b].state, s.cctl[b].ramp with
  | .delivering, some t =>
    if t + Config.rampPeriod ≤ s.now then
      s.setCharge b (s.cctl[b].rampUp (t + Config.rampPeriod))
    else s
  | _, _ => s

def execRampStep (bay : Bay) (s : State) : Host.Outcome State Fault Refusal :=
  .next (rampExpires bay s)

/-- R61: a trip: CCTL's update, BAY_FAULT, and the change of charge state to PALLOC. -/
def tripBay (b : Bay) (s : State) : State :=
  raise .bayFault (cctlChange b (s.cctl[b].trip s.now) s)

/-- R46: the third sample and a door OPEN fall together, and the door, with its cut to 0, is taken first
(DEDUCED, log entry 25). No other cut to 0 is followed by a sample (R60). -/
def ChargeBay.sampleAfterDoor (ch : ChargeBay) (now : Nat) : Bool :=
  ch.state == .delivering && ch.applied == 0 && ch.thirdDue == some now

/-- R60: a comparator sample in DELIVERING with power applied; R46: the sample that fell together with a door
OPEN. -/
def comparatorSampled (b : Bay) (high : Bool) (s : State) : State :=
  let ch := s.cctl[b]
  if ch.state = .delivering ∧ 0 < ch.applied ∧ ch.sampleDue s.now = true then
    if high = false then s.setCharge b { ch with highSamples := 0, lastSample := some s.now }
    else if ch.highSamples + 1 < 3 then
      s.setCharge b { ch with highSamples := ch.highSamples + 1, lastSample := some s.now }
    else tripBay b s
  else if ch.sampleAfterDoor s.now then
    if high then tripBay b s else s.setCharge b { ch with thirdDue := none }
  else s

def execOverCurrentSample (bay : Bay) (high : Bool) (s : State) : Host.Outcome State Fault Refusal :=
  .next (comparatorSampled bay high s)

/-- R62: the cooldown timer expires. -/
def cooldownExpires (b : Bay) (s : State) : State :=
  if s.cctl[b].state = .cooldown ∧ due s.cctl[b].cooldown Config.cooldown s.now = true then
    cctlChange b (s.cctl[b].negotiate s.now) s
  else s

def execCooldownExpiry (bay : Bay) (s : State) : Host.Outcome State Fault Refusal :=
  .next (cooldownExpires bay s)

/-- R77: the session timer of a BUSY channel reaches the session limit. -/
def sessionTimeExpires (c : Chan) (s : State) : State :=
  match s.psched.channels[c].session with
  | some x =>
    if x.since + 60000 * x.sessionLimit ≤ s.now then pschedEvent (endSessionCore c .expired 0) s else s
  | none => s

def execSessionTimerExpiry (channel : Chan) (s : State) : Host.Outcome State Fault Refusal :=
  .next (sessionTimeExpires channel s)

end Sys2Proof.Machine
end

