-- ==== Sys2Proof/Machine/ReaderCommands.lean ====
section
/-! DEFINITION. The meanings of the reader's and the clock's commands (R100, R108, R181). The bytes of a frame
between its start byte and its end carry no command of their own: TOKEN_ARRIVAL carries all ten, and a frame
that ends otherwise is one of READER_BYTE_GAP and FRAME_DISCARDED (log entry 17). The time of the start byte
bounds the gaps: the first gap of more than 5 ms cannot end sooner than 5 ms after it, and ten bytes without
one are complete within 50 ms of it (R181). -/

namespace Sys2Proof.Machine

/-! ## The reader port (R181) -/

/-- The collection of a frame begins (with the time of its start byte) or ends. -/
def State.withCollecting (s : State) (v : Option Nat) : State := s.withAcc { s.acc with collecting := v }

/-- R181: a start byte while ACC searches for one; inside a frame 0xA5 is frame content. -/
def startByte (s : State) : State :=
  match s.acc.collecting with
  | none => s.withCollecting (some s.now)
  | some _ => s

def execStartByte (s : State) : Host.Outcome State Fault Refusal := .next (startByte s)

/-- R181: the frame being collected is discarded, without a verdict; the search begins again. -/
def discardFrame (s : State) : State := s.withCollecting none

/-- R181: a gap of more than 5 ms between two bytes of a frame; more than 5 ms have then passed since the start
byte. -/
def byteGap (s : State) : State :=
  match s.acc.collecting with
  | some w => if w + Config.byteGap < s.now then discardFrame s else s
  | none => s

def execReaderByteGap (s : State) : Host.Outcome State Fault Refusal := .next (byteGap s)

/-- R181: a wrong type, a missing stop bit or a failed check. -/
def execFrameDiscarded (_cause : FrameFault) (s : State) : Host.Outcome State Fault Refusal :=
  .next (discardFrame s)

/-- R181: none of the ten gaps of a frame that began at `w` and is complete now need have exceeded 5 ms. -/
def inTime (w now : Nat) : Bool := decide (now ≤ w + 10 * Config.byteGap)

/-- R108, R181: the ten bytes of a frame are complete. A frame that passes every test is a token arrival;
any other is discarded without a verdict. -/
def frameComplete (frame : List Byte) (s : State) : State :=
  match s.acc.collecting with
  | some w =>
    match tokenOfFrame frame with
    | some token => if inTime w s.now then tokenArrives token (discardFrame s) else discardFrame s
    | none => discardFrame s
  | none => s

def execTokenArrival (frame : List Byte) (s : State) : Host.Outcome State Fault Refusal :=
  .next (frameComplete frame s)

/-! ## The cart clock (R100) -/

/-- A second of the timebase has passed since the clock's last advance. -/
def CartClock.secondDue (t : CartClock) (now : Nat) : Bool := decide (t.since + Config.second ≤ now)

/-- R100: the advance of the second; at second 59 it is the change of minute (log entry 14). -/
def clockAdvances (s : State) : State :=
  match s.acc.clock with
  | some t =>
    if t.secondDue s.now then
      if t.second < 59 then advanceSecond t s else changeMinute t s
    else s
  | none => s

def execClockSecond (s : State) : Host.Outcome State Fault Refusal := .next (clockAdvances s)

/-- R100: the second wraps from 59. -/
def minuteChanges (s : State) : State :=
  match s.acc.clock with
  | some t => if t.secondDue s.now = true ∧ 59 ≤ t.second then changeMinute t s else s
  | none => s

def execChangeOfMinute (s : State) : Host.Outcome State Fault Refusal := .next (minuteChanges s)

end Sys2Proof.Machine
end

