-- ==== Sys2Proof/Machine/LatchCommands.lean ====
section
/-! DEFINITION. The meanings of the timers of a release and of the latches (R123, R137, R139, R140). -/

namespace Sys2Proof.Machine

/-- R123: the 10 s release window expires in WINDOW. -/
def windowExpires (b : Bay) (s : State) : State :=
  match s.cust.releases[b] with
  | some r =>
    if r.stage = .window ∧ due r.window Config.releaseWindow s.now = true then endUnopened b s else s
  | none => s

def execReleaseWindowExpiry (bay : Bay) (s : State) : Host.Outcome State Fault Refusal :=
  .next (windowExpires bay s)

/-- R137: the wait of the bay's queued request has reached its 2 s limit. -/
def Ldrv.waitOver (l : Ldrv) (b : Bay) (now : Nat) : Bool :=
  l.queue.any fun r => r.bay == b && decide (r.since + Config.latchWait ≤ now)

/-- R137. -/
def latchWaitExpires (b : Bay) (s : State) : State :=
  if s.ldrv.waitOver b s.now then waitExpired b s else s

def execLatchWaitExpiry (bay : Bay) (s : State) : Host.Outcome State Fault Refusal :=
  .next (latchWaitExpires bay s)

/-- R139: the time at which a drive ends by time: its pulse length, or 3 s in HOLD. -/
def Drive.limit (d : Drive) : Nat := if d.mode = .hold then Config.holdLimit else d.pulse

/-- R139, R140: a drive reaches its time. -/
def driveTimeEnds (k : Slot) (s : State) : State :=
  match s.ldrv.slots[k] with
  | some d => if d.since + d.limit ≤ s.now then timeEnd k d s else s
  | none => s

def execDriveTimeEnd (slot : Slot) (s : State) : Host.Outcome State Fault Refusal :=
  .next (driveTimeEnds slot s)

end Sys2Proof.Machine
end

