-- ==== Sys2Proof/Machine/SupervisionCommands.lean ====
section
/-! DEFINITION. The meanings of the heartbeat window's timer (R149, R150). Both lengths are measured from the
start of the window. -/

namespace Sys2Proof.Machine

/-- R149: the window timer reaches the closed phase. -/
def closedPhaseEnds (s : State) : State :=
  if s.smon.phase = .closed ∧
      due s.smon.since (Config.closedUnit * s.smon.closedPhase) s.now = true then
    s.setSmon { s.smon with phase := .opened }
  else s

def execClosedPhaseEnd (s : State) : Host.Outcome State Fault Refusal := .next (closedPhaseEnds s)

/-- R149, R150: the window timer reaches the maximum in OPEN. -/
def windowTimeExpires (s : State) : State :=
  if s.smon.phase = .opened ∧ due s.smon.since (Config.second * s.smon.maximum) s.now = true then
    failure .late s
  else s

def execWindowExpiry (s : State) : Host.Outcome State Fault Refusal := .next (windowTimeExpires s)

end Sys2Proof.Machine
end

