-- ==== Sys2Proof/Machine/PortCommands.lean ====
section
/-! DEFINITION. The meanings of the resets and of the port's commands (R156 to R162, R170). -/

namespace Sys2Proof.Machine

/-- R170: loss and return of supply. -/
def execPowerOn (s : State) : Host.Outcome State Fault Refusal := .next (powerUp s)

/-- R170: a low pulse on RESETn. A write burst it cuts off leaves the bytes written so far (log entry 10). -/
def execResetnPartReset (cut : Option Burst) (s : State) : Host.Outcome State Fault Refusal :=
  .next (partReset .pin (cutBurst cut s))

/-- R158: every block has written its pages, and memory ready is set. -/
def memoryBecomesReady (s : State) : State := s.withSwm { s.swm with ready := true }

def execMemoryReady (s : State) : Host.Outcome State Fault Refusal := .next (memoryBecomesReady s)

def execMemoryRead (offset : BitVec 24) (clocked : Nat) (s : State) : Host.Outcome State Fault Refusal :=
  .next (readBurst offset clocked s)

def execMemoryWrite (burst : Burst) (s : State) : Host.Outcome State Fault Refusal :=
  .next (writeBurst burst s)

def execRegisterRead (number : Byte) (clocked : Nat) (s : State) : Host.Outcome State Fault Refusal :=
  .next (readRegister number clocked s)

/-- R159, R170: the part-reset code written to CONTROL; the bytes after it are ignored (R180). -/
def execControlPartReset (_trailing : List Byte) (s : State) : Host.Outcome State Fault Refusal :=
  .next (partReset .control s)

/-- R159, R180: a register write acts only on CONTROL, whose first data byte may be the part-reset code. -/
def writeRegister (number : Byte) (data : List Byte) (s : State) : State :=
  if number = controlNumber ∧ data.head? = some partResetCode then partReset .control s else s

def execRegisterWrite (number : Byte) (data : List Byte) (s : State) : Host.Outcome State Fault Refusal :=
  .next (writeRegister number data s)

end Sys2Proof.Machine
end

