-- ==== Sys2Proof/Machine/ListCommands.lean ====
section
/-! DEFINITION. The meanings of the walker's own commands (R165 to R167). -/

namespace Sys2Proof.Machine

/-- R167: the stall timer of a STALLED list expires; the fault offset is the stalled record's. -/
def stallExpires (i : ListId) (s : State) : State :=
  if s.owalk[i].state = .stalled ∧ due s.owalk[i].stall Config.stall s.now = true then
    endFault i .notPosted s.owalk[i].next s
  else s

def execStallTimerExpiry (list : ListId) (s : State) : Host.Outcome State Fault Refusal :=
  .next (stallExpires list s)

/-- R166, R167: the walker reaches a record that it does not dispatch. -/
def execRecordNotDispatched (s : State) : Host.Outcome State Fault Refusal := .next (notDispatched s)

/-- R165: the walker follows a link of 0, and the list ends DONE. -/
def chainEnds (s : State) : State :=
  match s.runningList with
  | some i => if s.arrivalOf s.owalk[i] = .linkOf0 then endDone i s else s
  | none => s

def execLinkOf0Followed (s : State) : Host.Outcome State Fault Refusal := .next (chainEnds s)

end Sys2Proof.Machine
end

