-- ==== Sys2Proof/Machine/Orders.lean ====
section
/-! DEFINITION. What the owners of the 17 order kinds decide (Table 9-6). Each takes the offset of the record,
whose body it reads (Table 11-11), and answers the state after the order with the outcome and the detail
that the walker writes (R168). -/

namespace Sys2Proof.Machine

/-- A refused order changes nothing. -/
def refuse (a : Answer) (s : State) : State × Answer := (s, a)

/-- A detail bit. -/
def bitIf (p : Bool) (k : Nat) : Nat := if p then 2 ^ k else 0

/-! ## SET_LIMITS (R50, PALLOC) -/

def SagSelect.ofCode (n : Byte) : Option SagSelect :=
  match n.toNat with
  | 0 => some .pct92
  | 1 => some .pct88
  | 2 => some .pct84
  | _ => none

def DeepSelect.ofCode (n : Byte) : Option DeepSelect :=
  match n.toNat with
  | 0 => some .pct80
  | 1 => some .pct75
  | _ => none

/-- R50: a cart limit in range. -/
def clampLimit (n : Nat) : Nat := clampTo 400 7200 n

/-- R50: a shelf cap in range. -/
def clampCap (n : Nat) : Nat := clampTo 40 960 n

/-- The six caps of the record. -/
def State.capsOf (s : State) (off : Nat) : Vector Nat 6 :=
  Vector.ofFn fun i : Shelf => s.fieldN off (0x0E + 2 * i.val) 2

/-- R50: the clamped detail: bit 0 for L, bit s for C_s. -/
def limitsDetail (l : Nat) (caps : Vector Nat 6) : Nat :=
  bitIf (clampLimit l != l) 0 +
    (List.finRange 6).foldl (fun n i => n + bitIf (clampCap caps[i] != caps[i]) (i.val + 1)) 0

/-- R29, R50: PALLOC with new selects and limits. A change of a select restarts the supply timers. -/
def PAlloc.limited (p : PAlloc) (l : Nat) (caps : Vector Nat 6) (sag : SagSelect) (deep : DeepSelect)
    (input now : Nat) : PAlloc :=
  let q := { p with
    limit := clampLimit l, caps := Vector.ofFn fun i : Shelf => clampCap caps[i]
    sagSelect := sag, deepSelect := deep }
  if sag = p.sagSelect ∧ deep = p.deepSelect then q else q.restartTimers input now

/-- R50: the order's effect when both selects are good: a pass if L or a cap changed. -/
def applyLimits (l : Nat) (caps : Vector Nat 6) (sag : SagSelect) (deep : DeepSelect) (s : State) :
    State :=
  let p := s.palloc.limited l caps sag deep s.vsense s.now
  if p.limit = s.palloc.limit ∧ p.caps = s.palloc.caps then s.setPalloc p else pass (s.setPalloc p)

/-- SET_LIMITS. -/
def orderSetLimits (off : Nat) (s : State) : State × Answer :=
  match SagSelect.ofCode (s.field1 off 0x1A), DeepSelect.ofCode (s.field1 off 0x1B) with
  | none, _ => refuse (.badField 1) s
  | some _, none => refuse (.badField 2) s
  | some sag, some deep =>
    let l := s.fieldN off 0x0C 2
    let d := limitsDetail l (s.capsOf off)
    (applyLimits l (s.capsOf off) sag deep s, .clamped (d != 0) d)

/-! ## SET_THRESHOLDS (R87, PSCHED) -/

/-- R87: the thresholds, each at most 100; a change of the release threshold goes to PALLOC, a change of the
provisioning minimum considers a grant. DESIGN CHOICE (log entry 29): for an order that changes both, the spec
gives no order of the two; PALLOC's repeated test and its pass come first. -/
def applyThresholds (rel mn : Nat) (s : State) : State :=
  let t := s.withPsched { s.psched with releaseThreshold := rel, provMinimum := mn }
  let t := if rel = s.psched.releaseThreshold then t else passIfChanged t
  if mn = s.psched.provMinimum then t else considerCore t

/-- SET_THRESHOLDS. -/
def orderSetThresholds (off : Nat) (s : State) : State × Answer :=
  let rel := (s.field1 off 0x0C).toNat
  let mn := (s.field1 off 0x0D).toNat
  let d := bitIf (decide (100 < rel)) 0 + bitIf (decide (100 < mn)) 1
  (pschedEvent (applyThresholds (min rel 100) (min mn 100)) s, .clamped (d != 0) d)

/-! ## BAY_CONFIG (R17, BMON) -/

/-- R17: a pool group field: 0 to 15, or 255 for UNPOOLED; `none` is out of range. -/
def poolOfField (n : Nat) : Option (Option Nat) :=
  if n ≤ 15 then some (some n) else if n = 255 then some none else none

/-- BAY_CONFIG. -/
def orderBayConfig (off : Nat) (s : State) : State × Answer :=
  match bayOfNumber (s.field1 off 0x0C).toNat with
  | none => refuse (.badField 1) s
  | some b =>
    match poolOfField (s.field1 off 0x0D).toNat with
    | none => refuse (.badField 2) s
    | some g => (s.setEntry b { s.bmon[b] with pool := g }, .done)

/-! ## RESERVE (R102, R103, ACC) -/

/-- R102: a bay's reservation becomes `r`; a change is handed to PALLOC. -/
def changeReservation (b : Bay) (r : Option Reservation) (s : State) : State :=
  if r = s.acc.reservations[b] then s else passIfChanged (s.setReservation b r)

/-- RESERVE. With the deadline absent the token is not read. -/
def orderReserve (off : Nat) (s : State) : State × Answer :=
  match bayOfNumber (s.field1 off 0x0C).toNat with
  | none => refuse (.badField 1) s
  | some b =>
    match s.fieldOpt off 0x0E 2 with
    | none => (changeReservation b none s, .done)
    | some d =>
      if Config.week ≤ d then refuse (.badField 2) s
      else (changeReservation b (some { deadline := d, token := s.fieldToken off 0x10 }) s, .done)

/-! ## PROVISION and CANCEL_PROVISION (R83, R84, PSCHED) -/

/-- The 5-byte bay mask of a record. -/
def State.maskOf (s : State) (off : Nat) : Nat := s.fieldN off 0x10 5

/-- The mask names a bay above 36. -/
def maskAbove (mask : Nat) : Bool := decide (2 ^ 36 ≤ mask)

/-- The bays of a mask in ascending number: bit 0 is bay 1. -/
def maskBays (mask : Nat) : List Bay := (List.finRange 36).filter fun b => mask.testBit b.val

/-- R83: append a bay as WAITING. -/
def provAppend (b : Bay) (r : ProvRecord) (revision : Half) (s : State) : State :=
  (s.setProv b { r with wanted := revision, attempts := 0, state := .waiting }).setQueue
    (s.psched.queue ++ [b])

/-- R69, R83: the bay is CURRENT at the revision; entering CURRENT sets the attempts to 0. -/
def ProvRecord.toCurrent (r : ProvRecord) (revision : Half) : ProvRecord :=
  { r with state := .current, wanted := revision, attempts := 0 }

/-- R83: the wanted revision of an ACTIVE bay, also in its channel's record. -/
def provWanted (b : Bay) (r : ProvRecord) (revision : Half) (s : State) : State :=
  let t := s.setProv b { r with wanted := revision }
  match s.psched.channelOf b with
  | some c =>
    t.setChannel c { t.psched.channels[c] with
      session := t.psched.channels[c].session.map fun x => { x with wanted := revision } }
  | none => t

/-- R83: one PRESENT bay of the mask, by Table 4-5; the count is of the bays appended. -/
def provBay (b : Bay) (revision : Half) (sessionLimit silenceLimit : Nat) (x : State × Nat) :
    State × Nat :=
  let s := x.1
  let r := { s.psched.records[b] with sessionLimit := sessionLimit, silenceLimit := silenceLimit }
  match r.state with
  | .active => (provWanted b r revision s, x.2)
  | .waiting =>
    if r.installed = revision then
      ((s.setQueue (s.psched.queue.filter (· != b))).setProv b (r.toCurrent revision), x.2)
    else (s.setProv b { r with wanted := revision }, x.2)
  | .none | .current | .failed =>
    if r.installed = revision then (s.setProv b (r.toCurrent revision), x.2)
    else (provAppend b r revision s, x.2 + 1)

/-- R83: the visit of one bay of the mask; a bay that is not PRESENT is skipped. -/
def provVisit (revision : Half) (sessionLimit silenceLimit : Nat) (x : State × Nat) (b : Bay) :
    State × Nat :=
  if x.1.bmon[b].occupancy = .present then provBay b revision sessionLimit silenceLimit x else x

/-- R83: the visits of a mask. -/
def provVisits (bays : List Bay) (revision : Half) (sessionLimit silenceLimit : Nat) (s : State) :
    State × Nat :=
  bays.foldl (provVisit revision sessionLimit silenceLimit) (s, 0)

/-- R83: the order's event at PSCHED: the visits, and a consideration if a bay was appended. -/
def provisionEvent (bays : List Bay) (revision : Half) (sessionLimit silenceLimit : Nat) (s : State) :
    State :=
  pschedEvent (fun s =>
    let x := provVisits bays revision sessionLimit silenceLimit s
    if x.2 = 0 then x.1 else considerCore x.1) s

/-- PROVISION (R83).  DESIGN CHOICE (log entry 27): R83 says both that an empty mask ends DONE and that a
clamped limit ends DONE_CLAMPED; with an empty mask and a clamped limit the model answers DONE_CLAMPED with
Detail 0. -/
def orderProvision (off : Nat) (s : State) : State × Answer :=
  if maskAbove (s.maskOf off) then refuse (.badField 1) s
  else if s.fieldN off 0x0C 2 = 0 then refuse (.badField 2) s
  else
    let revision : Half := BitVec.ofNat 16 (s.fieldN off 0x0C 2)
    let n := (s.field1 off 0x0E).toNat
    let m := (s.field1 off 0x0F).toNat
    let bays := maskBays (s.maskOf off)
    (provisionEvent bays revision (clampTo 1 240 n) (clampTo 5 120 m) s,
      .clamped (clampTo 1 240 n != n || clampTo 5 120 m != m)
        (provVisits bays revision (clampTo 1 240 n) (clampTo 5 120 m) s).2)

/-- R84: the visit of one bay, with the count of bays withdrawn or cancelled. -/
def cancelVisit (x : State × Nat) (b : Bay) : State × Nat :=
  match x.1.psched.records[b].state with
  | .waiting => (clearCore b x.1, x.2 + 1)
  | .active => (endBayCore b .cancelled x.1, x.2 + 1)
  | .none | .current | .failed => x

/-- R84: the visits of a mask. -/
def cancelVisits (bays : List Bay) (s : State) : State × Nat := bays.foldl cancelVisit (s, 0)

/-- CANCEL_PROVISION. -/
def orderCancelProvision (off : Nat) (s : State) : State × Answer :=
  if maskAbove (s.maskOf off) then refuse (.badField 1) s
  else
    (pschedEvent (fun s => (cancelVisits (maskBays (s.maskOf off)) s).1) s,
      ⟨.done, (cancelVisits (maskBays (s.maskOf off)) s).2⟩)

/-! ## SESSION_END (R85, R86, PSCHED) -/

/-- The last outcomes that make a report too late (R86). -/
def SessionOutcome.tooLate : SessionOutcome → Bool
  | .expired | .stalled | .linkFault | .removed => true
  | .success | .failedReported | .aborted | .forced | .cancelled | .hostLost => false

/-- R86: the answer to a report for an IDLE channel. -/
def lateAnswer (last : Option EndedSession) (b : Bay) : Answer :=
  match last with
  | some e =>
    if e.bay = b ∧ e.outcome.tooLate = true then ⟨.tooLate, e.outcome.code.toNat⟩ else ⟨.mismatch, 0⟩
  | none => ⟨.mismatch, 0⟩

/-- R85, R86: a report with good fields. -/
def reportSession (c : Chan) (b : Bay) (o : SessionOutcome) (installed : Half) (s : State) :
    State × Answer :=
  match s.psched.channels[c].session with
  | some x =>
    if x.bay = b then (pschedEvent (endSessionCore c o installed) s, .done)
    else refuse ⟨.mismatch, x.bay.val + 1⟩ s
  | none => refuse (lateAnswer s.psched.channels[c].lastEnded b) s

/-- SESSION_END. The result stands in the header's detail field. -/
def orderSessionEnd (off : Nat) (s : State) : State × Answer :=
  match chanOfNumber (s.field1 off 0x0C).toNat with
  | none => refuse (.badField 1) s
  | some c =>
    match bayOfNumber (s.field1 off 0x0D).toNat with
    | none => refuse (.badField 2) s
    | some b =>
      let installed : Half := BitVec.ofNat 16 (s.fieldN off 0x0E 2)
      match s.fieldN off 0x04 2 with
      | 1 =>
        if installed = 0 then refuse (.badField 4) s else reportSession c b .success installed s
      | 2 => reportSession c b .failedReported installed s
      | _ => refuse (.badField 3) s

/-! ## COMMIT_CREDENTIALS (R94, R95, ACC) -/

def Bank.ofCode (n : Byte) : Option Bank :=
  match n.toNat with
  | 1 => some .a
  | 2 => some .b
  | _ => none

/-- R94: the six tests of one entry; `before` is the token of the entry before it. -/
def CredentialEntry.good (e : CredentialEntry) (before : Option Nat) : Bool :=
  e.token != noToken.toNat &&
  (match before with
    | some t => decide (t < e.token)
    | none => true) &&
  (Role.ofCode e.role).isSome && decide (e.group.toNat ≤ 15) && decide (e.homeBay.toNat ≤ 36) &&
  (e.status == 1 || e.status == 2)

/-- The token of the entry before entry `k`. -/
def tokenBefore (m : List Host.Cell) (bank : Bank) (k : Nat) : Option Nat :=
  if k = 0 then none else some (credentialAt m bank (k - 1)).token

/-- R94: the number of the first bad entry among the first `count`. -/
def firstBadEntry (m : List Host.Cell) (bank : Bank) (count : Nat) : Option Nat :=
  (List.range count).find? fun k => !(credentialAt m bank k).good (tokenBefore m bank k)

/-- COMMIT_CREDENTIALS. -/
def orderCommitCredentials (off : Nat) (s : State) : State × Answer :=
  match Bank.ofCode (s.field1 off 0x0C) with
  | none => refuse (.badField 65534) s
  | some bank =>
    let count := s.fieldN off 0x0E 2
    if Config.bankRoom < count then refuse (.badField 65535) s
    else
      match firstBadEntry s.swm.mem bank count with
      | some k => refuse (.badField k) s
      | none => (s.setAcc { s.acc with activeBank := some bank, activeCount := count }, ⟨.done, count⟩)

/-! ## COMMIT_WINDOWS (R98, ACC) -/

/-- Window entry `k` of a record (Table 11-13). -/
def State.windowAt (s : State) (off k : Nat) : WindowEntry where
  days := s.field1 off (0x10 + 8 * k)
  start := s.fieldN off (0x12 + 8 * k) 2
  stop := s.fieldN off (0x14 + 8 * k) 2
  groups := BitVec.ofNat 16 (s.fieldN off (0x16 + 8 * k) 2)

/-- R98: the three tests of a window entry. -/
def WindowEntry.good (w : WindowEntry) : Bool :=
  w.days != 0 && decide (w.days.toNat < 128) && decide (w.start ≤ 1439) &&
    decide (w.start < w.stop) && decide (w.stop ≤ 1440)

/-- The window entries of a record. -/
def State.windowsOf (s : State) (off count : Nat) : List WindowEntry :=
  (List.range count).map fun k => s.windowAt off k

/-- COMMIT_WINDOWS. -/
def orderCommitWindows (off : Nat) (s : State) : State × Answer :=
  let count := (s.field1 off 0x0C).toNat
  if Config.windowRoom < count then refuse (.badField 65535) s
  else
    match (List.range count).find? fun k => !(s.windowAt off k).good with
    | some k => refuse (.badField k) s
    | none => (s.setAcc { s.acc with windows := s.windowsOf off count }, ⟨.done, count⟩)

/-! ## SET_CLOCK (R101, ACC) -/

/-- R101: the clock is set and PALLOC repeats its reservation test; nothing lapses. -/
def setClock (minute second : Nat) (s : State) : State :=
  passIfChanged (s.setAcc { s.acc with
    clock := some { minute := minute, second := second, since := s.now } })

/-- SET_CLOCK. -/
def orderSetClock (off : Nat) (s : State) : State × Answer :=
  let minute := s.fieldN off 0x0C 2
  let second := (s.field1 off 0x0E).toNat
  if Config.week ≤ minute then refuse (.badField 1) s
  else if 60 ≤ second then refuse (.badField 2) s
  else (setClock minute second s, .done)

/-! ## RELEASE_BAY (R129, ACC) -/

/-- R129 check 7: a STUDENT holder who already holds a tablet, for a bay with a record. -/
def State.holderBusy (s : State) (b : Bay) (holder : Option Token) : Bool :=
  (s.cust.slotAt b).isSome &&
    (match holder with
      | some t => s.isStudent t && s.cust.holds t (s.cust.slotAt b)
      | none => false)

/-- R129: checks 2 to 7, in order; `none` passes. -/
def State.releaseCheck (s : State) (b : Bay) (force : Bool) (holder : Option Token) : Option Answer :=
  if s.bmon[b].occupancy.attached = false then some ⟨.badState, 0⟩
  else if (s.cust.releases[b]).isSome then some (.busy 1)
  else if s.psched.records[b].state = .active ∧ force = false then some (.busy 2)
  else if s.cust.freeEntry = none then some ⟨.full, 0⟩
  else if s.ldrv.canTake b = false then some (.busy 3)
  else if s.holderBusy b holder then some (.busy 4)
  else none

/-- R129: the order's event: an abort of an ACTIVE bay, a STAFF release, a latch request. -/
def releaseByStaff (b : Bay) (holder : Option Token) (s : State) : State :=
  let t := if s.psched.records[b].state = .active then pschedAbort b s else s
  requestDrive b (openRelease b .staff holder t)

/-- RELEASE_BAY. The force flag is clear at 0 and set at any other value. -/
def orderReleaseBay (off : Nat) (s : State) : State × Answer :=
  match bayOfNumber (s.field1 off 0x0C).toNat with
  | none => refuse (.badField 1) s
  | some b =>
    match s.releaseCheck b (s.field1 off 0x0D != 0) (s.fieldToken off 0x10) with
    | some a => refuse a s
    | none => (releaseByStaff b (s.fieldToken off 0x10) s, .done)

/-! ## CUSTODY_RESTORE and FORGET_TABLET (R130, R131, CUST) -/

/-- The record of a tag. -/
def Cust.recordOf (c : Cust) (t : Tag) : Option CustodyRecord :=
  (c.slotOf t).bind fun i => c.slots[i].record

/-- IN_CART and PENDING_RELEASE: the record is located at a bay. -/
def CustodyState.located : CustodyState → Bool
  | .inCart | .pendingRelease => true
  | .out | .missing => false

/-- R130 check 2: a PRESENT or DUPLICATE bay holds the tag. -/
def State.bayHoldsTag (s : State) (t : Tag) : Bool :=
  (List.finRange 36).any fun b =>
    (s.bmon[b].occupancy == .present || s.bmon[b].occupancy == .duplicate) && s.bmon[b].tag == some t

/-- R130 check 2. -/
def State.restoreBusy (s : State) (t : Tag) : Bool :=
  (match s.cust.recordOf t with
    | some r => r.state.located
    | none => false) || s.bayHoldsTag t

/-- R130 check 3. -/
def State.restoreHolderBusy (s : State) (t : Tag) (holder : Option Token) : Bool :=
  match holder with
  | some h => s.isStudent h && s.cust.holds h (s.cust.slotOf t)
  | none => false

/-- R130: a record that becomes OUT with the order's holder, keeping its last bay. A record already OUT
does not change its state, so its since stays (log entry 20). -/
def CustodyRecord.restored (r : CustodyRecord) (holder : Option Token) (minute : Option Nat) :
    CustodyRecord :=
  { r with state := .out, holder := holder, since := if r.state = .out then r.since else minute }

/-- R130: an order that passes its checks. -/
def restoreCustody (t : Tag) (holder : Option Token) (s : State) : State × Answer :=
  match s.cust.slotOf t with
  | some i =>
    (custEvent (fun s => s.setSlot i (s.cust.slots[i].record.map fun r => r.restored holder s.minute)) s,
      .done)
  | none =>
    match s.cust.freeSlot with
    | some i =>
      (custEvent (fun s => s.setSlot i (some (CustodyRecord.fresh t .out none holder s.minute))) s,
        .done)
    | none => refuse ⟨.full, 0⟩ s

/-- CUSTODY_RESTORE. -/
def orderCustodyRestore (off : Nat) (s : State) : State × Answer :=
  let t := s.fieldTag off 0x10
  let holder := s.fieldToken off 0x16
  if t = noTag then refuse (.badField 1) s
  else if s.restoreBusy t then refuse (.busy 1) s
  else if s.restoreHolderBusy t holder then refuse (.busy 4) s
  else restoreCustody t holder s

/-- FORGET_TABLET. -/
def orderForgetTablet (off : Nat) (s : State) : State × Answer :=
  let t := s.fieldTag off 0x10
  if t = noTag then refuse (.badField 1) s
  else
    match s.cust.slotOf t, s.cust.recordOf t with
    | some i, some r =>
      if r.state.located then refuse (.busy 1) s
      else (custEvent (fun s => s.setSlot i none) s, .done)
    | _, _ => refuse ⟨.notFound, 0⟩ s

/-! ## SET_LATCH_MODE (R143, LDRV) -/

def LatchMode.ofCode (n : Byte) : Option LatchMode :=
  match n.toNat with
  | 0 => some .pulse
  | 1 => some .hold
  | 2 => some .off
  | _ => none

/-- R143: a pulse length in range and a multiple of 10 ms. -/
def pulseOf (n : Nat) : Nat := clampTo 100 1000 n / 10 * 10

/-- SET_LATCH_MODE. -/
def orderSetLatchMode (off : Nat) (s : State) : State × Answer :=
  match LatchMode.ofCode (s.field1 off 0x0C) with
  | none => refuse (.badField 1) s
  | some .pulse =>
    let n := s.fieldN off 0x0E 2
    (ldrvEvent (fun s => s.withLdrv { s.ldrv with mode := .pulse, pulse := pulseOf n }) s,
      .clamped (pulseOf n != n) 0)
  | some .hold => (ldrvEvent (fun s => s.withLdrv { s.ldrv with mode := .hold }) s, .done)
  | some .off => (latchOff s, ⟨.done, s.ldrv.queue.length⟩)

/-! ## CLEAR_FAULT (R22, R66, CCTL) -/

/-- R66: the clear of a charge lockout. -/
def clearLockout (b : Bay) (s : State) : State :=
  cctlChange b { s.cctl[b].negotiate s.now with trips := 0 } s

/-- R22: the clear of a CUT path; watching starts afresh. -/
def clearCut (b : Bay) (s : State) : State :=
  consider (s.setEntry b { s.bmon[b] with
    path := if s.bmon[b].occupancy = .present then .watch else .dark
    faultTimer :=
      if s.bmon[b].occupancy = .present then restartWhile s.pins[b].atFault s.now else none })

/-- CLEAR_FAULT. -/
def orderClearFault (off : Nat) (s : State) : State × Answer :=
  match bayOfNumber (s.field1 off 0x0C).toNat with
  | none => refuse (.badField 0) s
  | some b =>
    let locked := s.cctl[b].state == .lockedOut
    let cut := s.bmon[b].path == .cut
    if locked || cut then
      let t := if locked then clearLockout b s else s
      let t := if cut then clearCut b t else t
      (t, ⟨.done, bitIf locked 0 + bitIf cut 1⟩)
    else refuse ⟨.badState, 0⟩ s

/-! ## SET_NOTICE (R177, NCTL) -/

/-- R177: an on or off code. -/
def onOff (n : Byte) : Option Bool :=
  match n.toNat with
  | 0 => some false
  | 1 => some true
  | _ => none

/-- A source number from 1 to 16. -/
def sourceOfNumber (n : Nat) : Option (Fin 16) :=
  if h : 1 ≤ n ∧ n ≤ 16 then some ⟨n - 1, by omega⟩ else none

/-- R177: capture off is refused for sources 1 and 2. -/
def captureAllowed (i : Fin 16) (capture : Bool) : Bool := capture || decide (2 ≤ i.val)

/-- R177: the effect of a good order on NCTL. -/
def Nctl.configured (n : Nctl) (i : Fin 16) (level : Nat) (capture : Bool) (threshold : Nat) : Nctl :=
  { n with
    sources := n.sources.set i { n.sources[i] with
      level := level, capture := capture, request := n.sources[i].request && capture }
    threshold := threshold
    pendingCauses :=
      if i = source16 ∧ capture = false then { order := false, guard := false } else n.pendingCauses }

/-- SET_NOTICE. -/
def orderSetNotice (off : Nat) (s : State) : State × Answer :=
  match sourceOfNumber (s.field1 off 0x0C).toNat with
  | none => refuse (.badField 1) s
  | some i =>
    let level := (s.field1 off 0x0D).toNat
    let threshold := (s.field1 off 0x0F).toNat
    if 7 < level then refuse (.badField 2) s
    else
      match onOff (s.field1 off 0x0E) with
      | none => refuse (.badField 3) s
      | some capture =>
        if captureAllowed i capture = false then refuse (.badField 3) s
        else if 7 < threshold then refuse (.badField 4) s
        else (s.withNctl (s.nctl.configured i level capture threshold), .done)

/-! ## SET_SUPERVISION (R147, R148, R153, SMON) -/

/-- R147 step 1. -/
def clampMaximum (n : Nat) : Nat := clampTo 1 60 n

/-- R147 steps 2 and 3: at most 600 units, and shorter than the maximum. -/
def clampClosed (closed maximum : Nat) : Nat := min (min closed 600) (10 * maximum - 1)

/-- R148: the order's effect by the enable it carries and the mode. -/
def applySupervision (closed maximum : Nat) (enable : Bool) (s : State) : State :=
  let m := { s.smon with enable := enable, closedPhase := closed, maximum := maximum }
  match enable, s.smon.mode with
  | true, .attended => s.setSmon (m.begin .opened s.now)
  | true, .standalone => s.setSmon m.stop
  | false, .attended => s.setSmon m.stop
  | false, .standalone => returnAttended m.stop s

/-- SET_SUPERVISION. -/
def orderSetSupervision (off : Nat) (s : State) : State × Answer :=
  match onOff (s.field1 off 0x0F) with
  | none => refuse (.badField 3) s
  | some enable =>
    let closed := s.fieldN off 0x0C 2
    let maximum := (s.field1 off 0x0E).toNat
    let mx := clampMaximum maximum
    let cl := clampClosed closed mx
    let d := bitIf (mx != maximum) 0 + bitIf (cl != closed) 1
    (applySupervision cl mx enable s, .clamped (d != 0) d)

end Sys2Proof.Machine
end

