-- ==== Sys2Proof/Machine/OrderCommands.lean ====
section
/-! DEFINITION. The meanings of the 17 order rows (Table 9-6): the walker of the RUNNING list reaches a record
of that kind and dispatches it to its owner (R166, R168). -/

namespace Sys2Proof.Machine

/-- SET_LIMITS (R50). -/
def execSetLimits (s : State) : Host.Outcome State Fault Refusal :=
  .next (dispatch .setLimits orderSetLimits s)

/-- SET_THRESHOLDS (R87). -/
def execSetThresholds (s : State) : Host.Outcome State Fault Refusal :=
  .next (dispatch .setThresholds orderSetThresholds s)

/-- BAY_CONFIG (R17). -/
def execBayConfig (s : State) : Host.Outcome State Fault Refusal :=
  .next (dispatch .bayConfig orderBayConfig s)

/-- RESERVE (R103). -/
def execReserve (s : State) : Host.Outcome State Fault Refusal :=
  .next (dispatch .reserve orderReserve s)

/-- PROVISION (R83). -/
def execProvision (s : State) : Host.Outcome State Fault Refusal :=
  .next (dispatch .provision orderProvision s)

/-- CANCEL_PROVISION (R84). -/
def execCancelProvision (s : State) : Host.Outcome State Fault Refusal :=
  .next (dispatch .cancelProvision orderCancelProvision s)

/-- SESSION_END (R85). -/
def execSessionEnd (s : State) : Host.Outcome State Fault Refusal :=
  .next (dispatch .sessionEnd orderSessionEnd s)

/-- COMMIT_CREDENTIALS (R94). -/
def execCommitCredentials (s : State) : Host.Outcome State Fault Refusal :=
  .next (dispatch .commitCredentials orderCommitCredentials s)

/-- COMMIT_WINDOWS (R98). -/
def execCommitWindows (s : State) : Host.Outcome State Fault Refusal :=
  .next (dispatch .commitWindows orderCommitWindows s)

/-- SET_CLOCK (R101). -/
def execSetClock (s : State) : Host.Outcome State Fault Refusal :=
  .next (dispatch .setClock orderSetClock s)

/-- RELEASE_BAY (R129). -/
def execReleaseBay (s : State) : Host.Outcome State Fault Refusal :=
  .next (dispatch .releaseBay orderReleaseBay s)

/-- CUSTODY_RESTORE (R130). -/
def execCustodyRestore (s : State) : Host.Outcome State Fault Refusal :=
  .next (dispatch .custodyRestore orderCustodyRestore s)

/-- FORGET_TABLET (R131). -/
def execForgetTablet (s : State) : Host.Outcome State Fault Refusal :=
  .next (dispatch .forgetTablet orderForgetTablet s)

/-- SET_LATCH_MODE (R143). -/
def execSetLatchMode (s : State) : Host.Outcome State Fault Refusal :=
  .next (dispatch .setLatchMode orderSetLatchMode s)

/-- CLEAR_FAULT (R66). -/
def execClearFault (s : State) : Host.Outcome State Fault Refusal :=
  .next (dispatch .clearFault orderClearFault s)

/-- SET_NOTICE (R177). -/
def execSetNotice (s : State) : Host.Outcome State Fault Refusal :=
  .next (dispatch .setNotice orderSetNotice s)

/-- SET_SUPERVISION (R147). -/
def execSetSupervision (s : State) : Host.Outcome State Fault Refusal :=
  .next (dispatch .setSupervision orderSetSupervision s)

end Sys2Proof.Machine
end

