-- ==== Sys2Proof/Machine/Dispatch.lean ====
section
/-! DEFINITION. The dispatch of a command to its meaning: one arm per constructor of Instr. -/

namespace Sys2Proof.Machine

def exec (i : Instr) (s : State) : Host.Outcome State Fault Refusal :=
  match i with
  | .powerOn => Sys2Proof.Machine.execPowerOn s
  | .resetnPartReset cut => Sys2Proof.Machine.execResetnPartReset cut s
  | .memoryReady => Sys2Proof.Machine.execMemoryReady s
  | .memoryRead offset clocked => Sys2Proof.Machine.execMemoryRead offset clocked s
  | .memoryWrite burst => Sys2Proof.Machine.execMemoryWrite burst s
  | .registerRead number clocked => Sys2Proof.Machine.execRegisterRead number clocked s
  | .controlPartReset trailing => Sys2Proof.Machine.execControlPartReset trailing s
  | .registerWrite number data => Sys2Proof.Machine.execRegisterWrite number data s
  | .presenceInputChange bay asserted => Sys2Proof.Machine.execPresenceInputChange bay asserted s
  | .attach bay => Sys2Proof.Machine.execAttach bay s
  | .detach bay => Sys2Proof.Machine.execDetach bay s
  | .tagFrame bay tag checkOk => Sys2Proof.Machine.execTagFrame bay tag checkOk s
  | .tagReadAttemptExpiry bay => Sys2Proof.Machine.execTagReadAttemptExpiry bay s
  | .doorInputChange bay isOpen => Sys2Proof.Machine.execDoorInputChange bay isOpen s
  | .doorEvent bay => Sys2Proof.Machine.execDoorEvent bay s
  | .latchSenseInputChange bay isReleased => Sys2Proof.Machine.execLatchSenseInputChange bay isReleased s
  | .latchSenseChange bay => Sys2Proof.Machine.execLatchSenseChange bay s
  | .levelPoll bay => Sys2Proof.Machine.execLevelPoll bay s
  | .levelReport bay level checkOk => Sys2Proof.Machine.execLevelReport bay level checkOk s
  | .levelReportWaitExpiry bay => Sys2Proof.Machine.execLevelReportWaitExpiry bay s
  | .levelStale bay => Sys2Proof.Machine.execLevelStale bay s
  | .lineActivity bay => Sys2Proof.Machine.execLineActivity bay s
  | .silenceEvent bay => Sys2Proof.Machine.execSilenceEvent bay s
  | .faultLevelChange bay atFault => Sys2Proof.Machine.execFaultLevelChange bay atFault s
  | .faultLevelExpiry bay => Sys2Proof.Machine.execFaultLevelExpiry bay s
  | .supplyInputCrossing input => Sys2Proof.Machine.execSupplyInputCrossing input s
  | .supplyFall => Sys2Proof.Machine.execSupplyFall s
  | .supplyRise => Sys2Proof.Machine.execSupplyRise s
  | .thermalSample reading => Sys2Proof.Machine.execThermalSample reading s
  | .agreement bay amount => Sys2Proof.Machine.execAgreement bay amount s
  | .negotiationExpiry bay => Sys2Proof.Machine.execNegotiationExpiry bay s
  | .demandAnnouncement bay amount => Sys2Proof.Machine.execDemandAnnouncement bay amount s
  | .rampStep bay => Sys2Proof.Machine.execRampStep bay s
  | .overCurrentSample bay high => Sys2Proof.Machine.execOverCurrentSample bay high s
  | .cooldownExpiry bay => Sys2Proof.Machine.execCooldownExpiry bay s
  | .sessionTimerExpiry channel => Sys2Proof.Machine.execSessionTimerExpiry channel s
  | .tokenArrival frame => Sys2Proof.Machine.execTokenArrival frame s
  | .readerByteGap => Sys2Proof.Machine.execReaderByteGap s
  | .clockSecond => Sys2Proof.Machine.execClockSecond s
  | .changeOfMinute => Sys2Proof.Machine.execChangeOfMinute s
  | .releaseWindowExpiry bay => Sys2Proof.Machine.execReleaseWindowExpiry bay s
  | .latchWaitExpiry bay => Sys2Proof.Machine.execLatchWaitExpiry bay s
  | .driveTimeEnd slot => Sys2Proof.Machine.execDriveTimeEnd slot s
  | .closedPhaseEnd => Sys2Proof.Machine.execClosedPhaseEnd s
  | .windowExpiry => Sys2Proof.Machine.execWindowExpiry s
  | .stallTimerExpiry list => Sys2Proof.Machine.execStallTimerExpiry list s
  | .recordNotDispatched => Sys2Proof.Machine.execRecordNotDispatched s
  | .setLimits => Sys2Proof.Machine.execSetLimits s
  | .setThresholds => Sys2Proof.Machine.execSetThresholds s
  | .bayConfig => Sys2Proof.Machine.execBayConfig s
  | .reserve => Sys2Proof.Machine.execReserve s
  | .provision => Sys2Proof.Machine.execProvision s
  | .cancelProvision => Sys2Proof.Machine.execCancelProvision s
  | .sessionEnd => Sys2Proof.Machine.execSessionEnd s
  | .commitCredentials => Sys2Proof.Machine.execCommitCredentials s
  | .commitWindows => Sys2Proof.Machine.execCommitWindows s
  | .setClock => Sys2Proof.Machine.execSetClock s
  | .releaseBay => Sys2Proof.Machine.execReleaseBay s
  | .custodyRestore => Sys2Proof.Machine.execCustodyRestore s
  | .forgetTablet => Sys2Proof.Machine.execForgetTablet s
  | .setLatchMode => Sys2Proof.Machine.execSetLatchMode s
  | .clearFault => Sys2Proof.Machine.execClearFault s
  | .setNotice => Sys2Proof.Machine.execSetNotice s
  | .setSupervision => Sys2Proof.Machine.execSetSupervision s
  | .startByte => Sys2Proof.Machine.execStartByte s
  | .frameDiscarded cause => Sys2Proof.Machine.execFrameDiscarded cause s
  | .linkOf0Followed => Sys2Proof.Machine.execLinkOf0Followed s

end Sys2Proof.Machine
end

