-- ==== Sys2Proof/Safety.lean ====
section
/-! DEFINITION. The terms that statements about the part use: the parts of the state and what it means that
an event changes only some of them, the laws that the spec says the blocks own, and what a walker finds and
leaves at an order record. -/

namespace Sys2Proof.Machine

/-! ## Parts of the state -/

/-- The parts of the state, finer than its fields, that frames name. -/
inductive Part where
  /-- the queue of commands -/
  | pending
  /-- the timebase -/
  | now
  /-- the count of either-order choices -/
  | choices
  /-- the input pins and VSENSE -/
  | pins
  /-- BMON's bay entries but for the data path -/
  | bays
  /-- data path, joined channel, silence and fault-level timers -/
  | paths
  /-- PALLOC's limits, selects, supply, thermal and supervision state, the reserve and the topped marks -/
  | limits
  /-- N and the tiers, wants and grants of the last pass -/
  | grants
  /-- CCTL's charge states, demands, trip counts, negotiation and cooldown timers -/
  | charge
  /-- CCTL's grants, applied powers, ramp timers and over-current samples -/
  | delivery
  /-- provisioning records, queue and channels -/
  | prov
  /-- the mode at PSCHED and the two thresholds -/
  | provSettings
  /-- change counts of bay records, cart page and provisioning page -/
  | counts
  /-- active bank, active count, windows and SERVICE -/
  | access
  | clock
  | reservations
  /-- the reader transaction -/
  | reader
  /-- the collection of a frame on RXD -/
  | collecting
  /-- custody slots -/
  | custody
  /-- journal entries and the next sequence number -/
  | journal
  /-- release slots -/
  | releases
  /-- latch queue, slots, reserve held -/
  | latches
  /-- latch mode and pulse length -/
  | latchMode
  /-- latch-stuck marks -/
  | stuck
  | smon
  /-- every stored byte of shared work memory -/
  | stored
  /-- memory ready and the last reset cause -/
  | status
  /-- the END word and the heartbeat word -/
  | words
  /-- the guard capture and the guard offset -/
  | guard
  /-- the order lists -/
  | lists
  | notices
  /-- the data bytes of the last port read -/
  | portData
  /-- the verdict frames sent -/
  | verdicts
  deriving DecidableEq, Repr

/-- BMON's state of a bay but for the data path. -/
def BayEntry.body (e : BayEntry) : BayEntry :=
  { e with path := .dark, joined := none, silence := none, faultTimer := none }

/-- PALLOC's state but for what a pass decides. -/
def PAlloc.settings (p : PAlloc) : PAlloc :=
  { p with
    net := 0
    bays := Vector.ofFn fun b : Bay =>
      { toppedMark := p.bays[b].toppedMark, tier := .low, want := 0, grant := 0 } }

/-- CCTL's state of a bay but for the delivery of power. -/
def ChargeBay.body (c : ChargeBay) : ChargeBay :=
  { c with grant := 0, applied := 0, ramp := none, highSamples := 0, lastSample := none, thirdDue := none }

/-- A part of the state is the same in two states. -/
def Part.same (x : Part) (s t : State) : Prop :=
  match x with
  | .pending => t.pending = s.pending
  | .now => t.now = s.now
  | .choices => t.choices = s.choices
  | .pins => t.pins = s.pins ∧ t.vsense = s.vsense
  | .bays => ∀ b : Bay, t.bmon[b].body = s.bmon[b].body
  | .paths =>
    ∀ b : Bay, t.bmon[b].path = s.bmon[b].path ∧ t.bmon[b].joined = s.bmon[b].joined ∧
      t.bmon[b].silence = s.bmon[b].silence ∧ t.bmon[b].faultTimer = s.bmon[b].faultTimer
  | .limits => t.palloc.settings = s.palloc.settings
  | .grants =>
    t.palloc.net = s.palloc.net ∧
      ∀ b : Bay, t.palloc.bays[b].tier = s.palloc.bays[b].tier ∧
        t.palloc.bays[b].want = s.palloc.bays[b].want ∧ t.palloc.bays[b].grant = s.palloc.bays[b].grant
  | .charge => ∀ b : Bay, t.cctl[b].body = s.cctl[b].body
  | .delivery =>
    ∀ b : Bay, t.cctl[b].grant = s.cctl[b].grant ∧ t.cctl[b].applied = s.cctl[b].applied ∧
      t.cctl[b].ramp = s.cctl[b].ramp ∧ t.cctl[b].highSamples = s.cctl[b].highSamples ∧
      t.cctl[b].lastSample = s.cctl[b].lastSample ∧ t.cctl[b].thirdDue = s.cctl[b].thirdDue
  | .prov =>
    t.psched.records = s.psched.records ∧ t.psched.queue = s.psched.queue ∧
      t.psched.channels = s.psched.channels
  | .provSettings =>
    t.psched.mode = s.psched.mode ∧ t.psched.releaseThreshold = s.psched.releaseThreshold ∧
      t.psched.provMinimum = s.psched.provMinimum
  | .counts =>
    t.swm.bayCounts = s.swm.bayCounts ∧ t.swm.cartCount = s.swm.cartCount ∧
      t.psched.pageCount = s.psched.pageCount
  | .access =>
    t.acc.activeBank = s.acc.activeBank ∧ t.acc.activeCount = s.acc.activeCount ∧
      t.acc.windows = s.acc.windows ∧ t.acc.service = s.acc.service
  | .clock => t.acc.clock = s.acc.clock
  | .reservations => t.acc.reservations = s.acc.reservations
  | .reader => t.acc.transaction = s.acc.transaction
  | .collecting => t.acc.collecting = s.acc.collecting
  | .custody => t.cust.slots = s.cust.slots
  | .journal => t.cust.journal = s.cust.journal ∧ t.cust.nextSequence = s.cust.nextSequence
  | .releases => t.cust.releases = s.cust.releases
  | .latches =>
    t.ldrv.queue = s.ldrv.queue ∧ t.ldrv.slots = s.ldrv.slots ∧ t.ldrv.reserveHeld = s.ldrv.reserveHeld
  | .latchMode => t.ldrv.mode = s.ldrv.mode ∧ t.ldrv.pulse = s.ldrv.pulse
  | .stuck => t.ldrv.stuck = s.ldrv.stuck
  | .smon => t.smon = s.smon
  | .stored =>
    t.swm.mem = s.swm.mem ∧ ∀ a : Nat, Memory.read t.swm.mem a = Memory.read s.swm.mem a
  | .status => t.swm.ready = s.swm.ready ∧ t.swm.resetCause = s.swm.resetCause
  | .words => t.swm.endWord = s.swm.endWord ∧ t.swm.heartbeatWord = s.swm.heartbeatWord
  | .guard => t.swm.guardArmed = s.swm.guardArmed ∧ t.swm.guardOffset = s.swm.guardOffset
  | .lists => t.owalk = s.owalk
  | .notices => t.nctl = s.nctl
  | .portData => t.out.portData = s.out.portData
  | .verdicts => t.out.txd = s.out.txd

/-- `t` differs from `s` in no part but those listed. -/
def State.changedOnly (s : State) (parts : List Part) (t : State) : Prop :=
  ∀ x : Part, x ∉ parts → x.same s t

/-- What an allocation pass may change (R47). -/
abbrev passParts : List Part := [.grants, .delivery, .counts]

/-- What a consideration of a grant at PSCHED may change (R75, R76). -/
abbrev considerParts : List Part := .prov :: .paths :: passParts

/-- No bay but `b` has its BMON entry changed, but for data paths. -/
def State.otherBays (s : State) (b : Bay) (t : State) : Prop :=
  ∀ x : Bay, x ≠ b → t.bmon[x].body = s.bmon[x].body

/-- No bay but `b` has its charge state, demand or trip count changed. -/
def State.otherCharges (s : State) (b : Bay) (t : State) : Prop :=
  ∀ x : Bay, x ≠ b → t.cctl[x].body = s.cctl[x].body

/-! ## Laws that blocks own -/

/-- Section 9.3: the stored bytes are in canonical form. -/
def State.memGood (s : State) : Prop := Memory.wf s.swm.mem

/-- R57: the applied power of a bay never exceeds its grant, and CCTL holds the grant that PALLOC last
decided; a bay that is not DELIVERING has no power applied, and an EMPTY bay is OFF (R53). -/
def State.powerGood (s : State) : Prop :=
  ∀ b : Bay, s.cctl[b].applied ≤ s.cctl[b].grant ∧ s.cctl[b].grant = s.palloc.bays[b].grant ∧
    (s.cctl[b].state ≠ .delivering → s.cctl[b].applied = 0) ∧
    (s.bmon[b].occupancy = .empty → s.cctl[b].state = .off)

/-- R45, R46: N, the tiers, the wants and the grants in force are those of one pass over the inputs as they
stand. -/
def State.settled (s : State) : Prop :=
  s.palloc.net = s.palloc.netBudget ∧
    ∀ b : Bay, s.palloc.bays[b].tier = s.tierOf b ∧ s.palloc.bays[b].want = s.wantOf b (s.tierOf b) ∧
      s.palloc.bays[b].grant = (allocate s.palloc.netBudget s.palloc.caps s.passInputs).grants[b]

/-- R163: at most one order list is RUNNING or STALLED. -/
def State.listsGood (s : State) : Prop :=
  ¬(s.owalk[(0 : ListId)].walking = true ∧ s.owalk[(1 : ListId)].walking = true)

/-- R72, R73: a bay is in the provisioning queue once if it is WAITING and not at all otherwise; the bays of
the BUSY channels are ACTIVE, no two channels have the same bay, every ACTIVE bay has its channel, an ACTIVE
bay is PRESENT, and a JOINED path belongs to an ACTIVE bay (R19). -/
def State.queueGood (s : State) : Prop :=
  s.psched.queue.Nodup ∧
    (∀ b : Bay, b ∈ s.psched.queue ↔ s.psched.records[b].state = .waiting) ∧
    (∀ (c : Chan) (x : Session), s.psched.channels[c].session = some x →
      s.psched.records[x.bay].state = .active) ∧
    (∀ (c d : Chan) (x y : Session), s.psched.channels[c].session = some x →
      s.psched.channels[d].session = some y → x.bay = y.bay → c = d) ∧
    (∀ b : Bay, s.psched.records[b].state = .active →
      (s.psched.channelOf b).isSome = true ∧ s.bmon[b].occupancy = .present) ∧
    (∀ b : Bay, s.bmon[b].path = .joined → s.psched.records[b].state = .active)

/-- R117: no two custody records have the same tag, and no two are located at the same bay. -/
def State.custodyGood (s : State) : Prop :=
  ∀ (i j : Fin 48) (x y : CustodyRecord), i ≠ j → s.cust.slots[i].record = some x →
    s.cust.slots[j].record = some y →
      x.tag ≠ y.tag ∧ ∀ b : Bay, x.locatedAt b = true → y.locatedAt b = false

/-- R94, R95: the entries in force of the active bank are the entries of a commit that passed: each of them
passes the tests of a commit, and their count is within the bank's room. -/
def State.bankGood (s : State) : Prop :=
  ∀ k : Bank, s.acc.activeBank = some k →
    s.acc.activeCount ≤ 480 ∧ firstBadEntry s.swm.mem k s.acc.activeCount = none

/-! ## The order of the tiers (R38, R43) -/

/-- The place of a tier in the order in which a pass fills them. -/
def Tier.rank : Tier → Nat
  | .session => 0
  | .due => 1
  | .low => 2
  | .normal => 3
  | .topped => 4

/-! ## Reservations that are near (R40) -/

/-- R40: bay `b` has a reservation, the cart clock is set, the deadline is from 0 to 60 minutes ahead, counted
forward modulo 10080, and the charge level is unknown or below the release threshold. -/
def State.reservationNear (s : State) (b : Bay) : Prop :=
  ∃ (r : Reservation) (m : Nat), s.acc.reservations[b] = some r ∧ s.minute = some m ∧
    ((m ≤ r.deadline ∧ r.deadline ≤ m + 60) ∨ (r.deadline < m ∧ r.deadline + 10080 ≤ m + 60)) ∧
    (s.bmon[b].level = none ∨ ∃ l : Nat, s.bmon[b].level = some l ∧ l < s.psched.releaseThreshold)

/-! ## Grants of channels (R74 to R76, R89) -/

/-- R74: bay `b` is eligible for a grant. -/
def State.mayJoin (s : State) (b : Bay) : Prop :=
  s.bmon[b].occupancy = .present ∧ s.bmon[b].door = .closed ∧ s.bmon[b].latch = .locked ∧
  (∀ (k : Slot) (d : Drive), s.ldrv.slots[k] = some d → d.bay ≠ b) ∧
  (∃ (i : Fin 48) (x : CustodyRecord), s.cust.slotAt b = some i ∧ s.cust.slots[i].record = some x ∧
    x.state = .inCart) ∧
  (∃ l : Nat, s.bmon[b].level = some l ∧ s.psched.provMinimum ≤ l) ∧
  s.bmon[b].path = .watch ∧ s.cctl[b].state ≠ .lockedOut

/-- R75: the bays of the queue that `ok` holds for, from the head, each with the next IDLE channel in ascending
number, as long as there are both. -/
def State.grantPairs (s : State) (ok : Bay → Bool) : List (Bay × Chan) :=
  (s.psched.queue.filter ok).zip ((List.finRange 4).filter fun c => s.psched.channels[c].session.isNone)

/-- `t` holds the grant of channel `c` to bay `b` in `s` (R76, R20): the record ACTIVE, the channel BUSY with the
bay, the cart clock's minute, the wanted revision and the limits copied from the record and the session timer
started, the path JOINED to the channel with the silence timer started, and the tier SESSION. -/
def State.grantsChannel (s : State) (b : Bay) (c : Chan) (t : State) : Prop :=
  t.psched.records[b] = { s.psched.records[b] with state := .active } ∧
  t.psched.channels[c] =
    { session := some
        { bay := b, start := s.minute, wanted := s.psched.records[b].wanted
          sessionLimit := s.psched.records[b].sessionLimit
          silenceLimit := s.psched.records[b].silenceLimit, since := s.now }
      lastEnded := s.psched.channels[c].lastEnded } ∧
  t.bmon[b].path = .joined ∧ t.bmon[b].joined = some c ∧
  t.bmon[b].silence = some { since := s.now, limit := s.psched.records[b].silenceLimit } ∧
  t.palloc.bays[b].tier = .session

/-- `t` holds what a consideration leaves of `s` (R75, R76, R89). In STANDALONE nothing is granted. In ATTENDED,
with no bay twice in the queue, the eligible bays from the head are granted the IDLE channels in ascending
number; every other bay and channel keeps what it has, and every other bay its place in the queue. -/
def State.considers (s t : State) : Prop :=
  (s.psched.mode = .standalone → t.psched.records = s.psched.records ∧ t.psched.queue = s.psched.queue ∧
    t.psched.channels = s.psched.channels ∧ Part.paths.same s t) ∧
  (∀ ok : Bay → Bool, s.psched.mode = .attended → s.psched.queue.Nodup →
    (∀ b : Bay, ok b = true ↔ s.mayJoin b) →
    (∀ (b : Bay) (c : Chan), (b, c) ∈ s.grantPairs ok → s.grantsChannel b c t) ∧
    (∀ b : Bay, (∀ c : Chan, (b, c) ∉ s.grantPairs ok) → t.psched.records[b] = s.psched.records[b] ∧
      t.bmon[b].path = s.bmon[b].path ∧ t.bmon[b].joined = s.bmon[b].joined ∧
      t.bmon[b].silence = s.bmon[b].silence) ∧
    (∀ c : Chan, (∀ b : Bay, (b, c) ∉ s.grantPairs ok) → t.psched.channels[c] = s.psched.channels[c]) ∧
    t.psched.queue = s.psched.queue.filter fun b => !((s.grantPairs ok).any fun p => p.1 == b))

/-- A consideration in `s` grants nothing (R75, R89): the mode is STANDALONE, no channel is IDLE, or no bay of the
queue is eligible. -/
def State.grantsNothing (s : State) : Prop :=
  s.psched.mode = .standalone ∨ (∀ c : Chan, s.psched.channels[c].session ≠ none) ∨
    ∀ b : Bay, b ∈ s.psched.queue → ¬s.mayJoin b

/-- `t` holds what the entry to STANDALONE leaves of `s` at PSCHED (R88, R78, Table 4-4): each session has ended
HOST_LOST, its bay is WAITING at the tail of the queue, in channel order, with its attempts, revisions and limits
kept, and its path is no longer JOINED; other records and channels are as they were. PROV_DONE is raised if a
session ended. -/
def State.losesSessions (s t : State) : Prop :=
  t.psched.mode = .standalone ∧
  (∀ (c : Chan) (x : Session), s.psched.channels[c].session = some x →
    t.psched.channels[c] = { session := none, lastEnded := some { bay := x.bay, outcome := .hostLost } } ∧
    t.psched.records[x.bay] =
      { s.psched.records[x.bay] with state := .waiting, lastOutcome := some .hostLost } ∧
    t.bmon[x.bay].joined = none ∧ t.bmon[x.bay].silence = none ∧ t.bmon[x.bay].path ≠ .joined ∧
    (s.bmon[x.bay].occupancy = .present → s.bmon[x.bay].path = .joined → t.bmon[x.bay].path = .watch) ∧
    (s.nctl.sources[(12 : Fin 16)].capture = true → t.nctl.sources[(12 : Fin 16)].request = true)) ∧
  (∀ c : Chan, s.psched.channels[c].session = none →
    t.psched.channels[c] = s.psched.channels[c]) ∧
  (∀ b : Bay, (∀ (c : Chan) (x : Session), s.psched.channels[c].session = some x → x.bay ≠ b) →
    t.psched.records[b] = s.psched.records[b] ∧ t.bmon[b] = s.bmon[b]) ∧
  t.psched.queue = s.psched.queue ++
    (List.finRange 4).filterMap fun c => s.psched.channels[c].session.map Session.bay

/-! ## Resets -/

/-- `t` holds PALLOC as a reset in `s` restarts it (R51, R52, Table 2-14): the supply NOMINAL with its four timers
starting from the input as it stands, the thermal sensor lost with the first sample 1 s away, the factors, the
reserve, no topped mark, and the tiers, wants and grants of the first pass, over N. -/
def State.pallocRestarted (s t : State) : Prop :=
  t.palloc.supply = .nominal ∧
  t.palloc.belowSag = (if s.vsense < t.palloc.sagSelect.threshold then some s.now else none) ∧
  t.palloc.belowDeep = (if s.vsense < t.palloc.deepSelect.threshold then some s.now else none) ∧
  t.palloc.aboveSag = (if t.palloc.sagSelect.threshold ≤ s.vsense then some s.now else none) ∧
  t.palloc.aboveDeep = (if t.palloc.deepSelect.threshold ≤ s.vsense then some s.now else none) ∧
  t.palloc.thermal = .sensorLost ∧ t.palloc.temp = none ∧ t.palloc.invalidSamples = 3 ∧
  t.palloc.thermalFactor = 8 ∧ t.palloc.sampleSince = s.now ∧ t.palloc.supervisionFactor = 4 ∧
  t.palloc.reserve = 28 ∧ t.palloc.net = (t.palloc.limit - 160 - 28) * 4 * 4 * 8 / 256 ∧
  ∀ b : Bay, t.palloc.bays[b].toppedMark = false ∧ t.palloc.bays[b].want = 0 ∧
    t.palloc.bays[b].grant = 0 ∧ (t.reservationNear b → t.palloc.bays[b].tier = .due) ∧
    (¬t.reservationNear b → t.palloc.bays[b].tier = .low)

/-- `t` is what a part reset with cause `k` leaves of `s`: what the reset tables of the chapters keep is kept,
and everything else restarts (R26, R52, R68, R92, R107, R133, R146, R155, R170, R171, R178). -/
def State.partRestarted (s : State) (k : ResetCause) (t : State) : Prop :=
  t.swm = { Swm.reset with mem := s.swm.mem, resetCause := k } ∧
    (∀ b : Bay, t.bmon[b] = BayEntry.sensing s.pins[b] s.bmon[b].pool s.now ∧ t.cctl[b] = ChargeBay.reset) ∧
    (t.palloc.limit = s.palloc.limit ∧ t.palloc.caps = s.palloc.caps ∧
      t.palloc.sagSelect = s.palloc.sagSelect ∧ t.palloc.deepSelect = s.palloc.deepSelect ∧
      s.pallocRestarted t) ∧
    t.psched = { PSched.reset with
      releaseThreshold := s.psched.releaseThreshold, provMinimum := s.psched.provMinimum } ∧
    t.acc = { s.acc with transaction := none, collecting := none } ∧
    (∀ i : Fin 48, t.cust.slots[i].record = s.cust.slots[i].record.map fun r => r.partReset s.minute) ∧
    (∀ j : Fin 48, t.cust.journal[j] = s.cust.journal[j].partReset) ∧
    t.cust.nextSequence = s.cust.nextSequence ∧ (∀ b : Bay, t.cust.releases[b] = none) ∧
    t.ldrv = { Ldrv.reset with mode := s.ldrv.mode, pulse := s.ldrv.pulse } ∧
    t.smon = Smon.reset ∧ (∀ i : ListId, t.owalk[i] = OrderList.reset) ∧ t.nctl = Nctl.reset ∧
    t.pins = s.pins ∧ t.vsense = s.vsense ∧ t.now = s.now ∧ t.pending = s.pending ∧ t.out = s.out

/-! ## Journal fills -/

/-- `t` holds what a fill that needs a FREE entry leaves of `s` (R118): the lowest FREE entry FILLED with the
next sequence number, or nothing with no entry FREE, and the number advanced; at the last number nothing. A
fill that leaves 3 FREE entries raises JOURNAL_LOW. -/
def State.fillsFree (s : State) (kind : JournalKind) (b : Bay) (tag : Option Tag) (holder : Option Token)
    (misplaced : Bool) (t : State) : Prop :=
  (s.cust.nextSequence = 4294967295 →
    t.cust.nextSequence = s.cust.nextSequence ∧ t.cust.journal = s.cust.journal) ∧
  (s.cust.nextSequence ≠ 4294967295 → t.cust.nextSequence = s.cust.nextSequence + 1 ∧
    (s.cust.freeEntry = none → t.cust.journal = s.cust.journal) ∧
    ∀ j : Fin 48, s.cust.freeEntry = some j →
      t.cust.journal = s.cust.journal.set j
        { state := .filled, kind := some kind, bay := some b, misplaced := some misplaced
          sequence := some s.cust.nextSequence, tag := tag, holder := holder, minute := s.minute } ∧
      (s.cust.freeCount = 4 → s.nctl.sources[(9 : Fin 16)].capture = true →
        t.nctl.sources[(9 : Fin 16)].request = true))

/-! ## Takes of the Latch Driver (R134 to R140) -/

/-- `t` holds slot `k`'s take of a request for bay `b` in `s` (R136, R138): the drive record, and for slot 2
the reserve. A HOLD drive on a bay whose door is OPEN has ended in its start event (R139, R140). -/
def State.takes (s : State) (k : Slot) (b : Bay) (t : State) : Prop :=
  (∀ x : Slot, x ≠ k → t.ldrv.slots[x] = s.ldrv.slots[x]) ∧
  (s.ldrv.mode = .hold → s.bmon[b].door = .opened →
    t.ldrv.slots[k] = none ∧ (k = 1 → t.ldrv.reserveHeld = false ∧ t.palloc.reserve = 28)) ∧
  (s.ldrv.mode ≠ .hold ∨ s.bmon[b].door = .closed →
    t.ldrv.slots[k] = some
      { bay := b, mode := s.ldrv.mode, pulse := s.ldrv.pulse, since := s.now
        releasedSeen := decide (s.bmon[b].latch = .released) } ∧
    (k = 1 → t.ldrv.reserveHeld = true ∧ t.palloc.reserve = 56))

/-- A release in LATCH_WAIT after the start of its drive (R121). -/
def Release.started (r : Release) (door : Door) (now : Nat) : Release :=
  { r with
    stage := if door = .opened then .opened else .window
    window := if door = .opened then none else some now }

/-- No queued request could be taken: both slots drive, or the bay of every queued request is driven (R135). -/
def State.queueBlocked (s : State) : Prop :=
  ((∃ d : Drive, s.ldrv.slots[(0 : Slot)] = some d) ∧ ∃ d : Drive, s.ldrv.slots[(1 : Slot)] = some d) ∨
    ∀ q : LatchRequest, q ∈ s.ldrv.queue → s.ldrv.driving q.bay = true

/-- A request for bay `b` in `s` waits: both slots drive, or one of them drives the bay (R135). -/
def State.mustWait (s : State) (b : Bay) : Prop :=
  (s.ldrv.slots[(0 : Slot)] ≠ none ∧ s.ldrv.slots[(1 : Slot)] ≠ none) ∨ s.ldrv.driving b = true

/-- `t` holds what a request for bay `b`, which is not ACTIVE, comes to at LDRV with the queue blocked: it waits
at the tail, merged with the one queued for the bay (R134), or slot 1 takes it, or slot 2 while slot 1
drives. -/
def State.requests (s : State) (b : Bay) (t : State) : Prop :=
  (s.mustWait b → t.ldrv.slots = s.ldrv.slots ∧
    t.ldrv.queue = (if s.ldrv.queued b then s.ldrv.queue
      else s.ldrv.queue ++ [{ bay := b, since := s.now }])) ∧
  (¬s.mustWait b → t.ldrv.queue = s.ldrv.queue ∧
    (s.ldrv.slots[(0 : Slot)] = none → s.takes 0 b t) ∧
    (s.ldrv.slots[(0 : Slot)] ≠ none → s.takes 1 b t))

/-- `t` holds the take of a queued request for bay `b` in `s`, whose slot `k` has gone idle, by slot 1 if it is
idle, else by slot 2, and the report of its start (R135, R138, R121). -/
def State.takesQueued (s : State) (k : Slot) (b : Bay) (t : State) : Prop :=
  (∀ m : Slot, m = (if k = 0 ∨ s.ldrv.slots[(0 : Slot)] = none then 0 else 1) →
    (s.withLdrv { s.ldrv with slots := s.ldrv.slots.set k none }).takes m b t) ∧
  (∀ r : Release, s.cust.releases[b] = some r → r.stage = .latchWait →
    t.cust.releases[b] = some (r.started s.bmon[b].door s.now)) ∧
  (∀ y : Transaction, s.acc.transaction = some y → y.bay = b →
    t.acc.transaction = none ∧ t.out.txd = s.out.txd ++ [⟨0x01, bayByte b, 0⟩]) ∧
  ((∀ y : Transaction, s.acc.transaction = some y → y.bay ≠ b) →
    t.acc.transaction = s.acc.transaction ∧ t.out.txd = s.out.txd)

/-- `t` holds what LDRV makes of the queue of `s` when slot `k` goes idle (R135, R140): with every queued bay
driven by the other slot nothing is taken, and a reserve held is given back while slot 2 is idle; the oldest
request whose bay is not driven is taken, and the others wait on while the other slot drives; a request for an
ACTIVE bay leaves the queue without a drive and without a report. -/
def State.slotFreed (s : State) (k : Slot) (t : State) : Prop :=
  ((∀ q : LatchRequest, q ∈ s.ldrv.queue → s.ldrv.slotDrives (1 - k) q.bay = true) →
    t.ldrv.queue = s.ldrv.queue ∧ t.ldrv.slots[k] = none ∧ t.ldrv.slots[1 - k] = s.ldrv.slots[1 - k] ∧
    (s.ldrv.reserveHeld = true → k = 1 ∨ s.ldrv.slots[(1 : Slot)] = none →
      t.ldrv.reserveHeld = false ∧ t.palloc.reserve = 28) ∧
    t.out.txd = s.out.txd) ∧
  ∀ (pre post : List LatchRequest) (q : LatchRequest), s.ldrv.queue = pre ++ q :: post →
    (∀ y : LatchRequest, y ∈ pre → s.ldrv.slotDrives (1 - k) y.bay = true) →
    s.ldrv.slotDrives (1 - k) q.bay = false →
    ((∀ y : LatchRequest, y ∈ post → s.ldrv.slotDrives (1 - k) y.bay = true) →
      t.ldrv.queue = pre ++ post ∧
      (s.psched.records[q.bay].state = .active →
        t.ldrv.slots[k] = none ∧ t.ldrv.slots[1 - k] = s.ldrv.slots[1 - k] ∧ t.out.txd = s.out.txd ∧
        ∀ r : Release, s.cust.releases[q.bay] = some r → r.stage = .latchWait →
          t.cust.releases[q.bay] = some r) ∧
      (s.psched.records[q.bay].state ≠ .active →
        (s.psched.records[q.bay].state = .waiting → s.cust.inCartAt q.bay = false) →
        s.takesQueued k q.bay t)) ∧
    ((∀ y : LatchRequest, y ∈ post → y.bay ≠ q.bay) → s.ldrv.slots[1 - k] ≠ none →
      s.ldrv.mode ≠ .hold ∨ s.bmon[q.bay].door = .closed → s.psched.records[q.bay].state ≠ .active →
      (s.psched.records[q.bay].state = .waiting → s.cust.inCartAt q.bay = false) →
      t.ldrv.queue = pre ++ post ∧ s.takesQueued k q.bay t)

/-! ## Readiness of a bay for a student (R111, Table 6-2) -/

/-- R111: bay `b` is ready for a token. -/
def State.readyFor (s : State) (b : Bay) (token : Token) : Prop :=
  (s.bmon[b].occupancy = .present ∧ s.bmon[b].door = .closed ∧ s.bmon[b].latch = .locked) ∧
  (∃ (i : Fin 48) (x : CustodyRecord), s.cust.slotAt b = some i ∧ s.cust.slots[i].record = some x ∧
    x.state = .inCart) ∧
  (s.psched.records[b].state ≠ .waiting ∧ s.psched.records[b].state ≠ .active ∧
    s.psched.records[b].state ≠ .failed ∧
    (s.psched.records[b].wanted = 0 ∨ s.psched.records[b].state = .current)) ∧
  (∃ l : Nat, s.bmon[b].level = some l ∧ s.psched.releaseThreshold ≤ l) ∧
  s.cctl[b].state ≠ .lockedOut ∧ s.bmon[b].path ≠ .cut ∧
  (∀ (r : Reservation) (x : Token), s.acc.reservations[b] = some r → r.token = some x → x = token)

/-- Table 6-2, row 2. -/
def State.homeFault (s : State) (b : Bay) : Prop :=
  s.bmon[b].occupancy = .anon ∨ s.bmon[b].occupancy = .duplicate ∨ s.cust.slotAt b = none ∨
    s.bmon[b].door = .opened ∨ s.bmon[b].latch = .released ∨ s.cctl[b].state = .lockedOut ∨
    s.bmon[b].path = .cut

/-- Table 6-2, row 3. -/
def State.homeTaken (s : State) (b : Bay) (token : Token) : Prop :=
  (∃ (i : Fin 48) (x : CustodyRecord), s.cust.slotAt b = some i ∧ s.cust.slots[i].record = some x ∧
    x.state = .pendingRelease) ∨
  ∃ (r : Reservation) (x : Token), s.acc.reservations[b] = some r ∧ r.token = some x ∧ x ≠ token

/-- Table 6-2, row 4. -/
def State.homeProvisioning (s : State) (b : Bay) : Prop :=
  s.psched.records[b].state = .waiting ∨ s.psched.records[b].state = .active ∨
    s.psched.records[b].state = .failed ∨
    (s.psched.records[b].wanted ≠ 0 ∧ s.psched.records[b].state ≠ .current)

/-- Table 6-2: the reason code for the home bay `b` that is not ready, by the first row whose condition holds:
EMPTY 1, FAULT 4, NONE_FREE 5, PROVISIONING 3, and CHARGING 2 for the level. -/
def State.homeReasonIs (s : State) (b : Bay) (token : Token) (r : Byte) : Prop :=
  (s.bmon[b].occupancy = .empty ∨ s.bmon[b].occupancy = .settling → r = 1) ∧
  (s.bmon[b].occupancy ≠ .empty → s.bmon[b].occupancy ≠ .settling →
    (s.homeFault b → r = 4) ∧
    (¬s.homeFault b → s.homeTaken b token → r = 5) ∧
    (¬s.homeFault b → ¬s.homeTaken b token → s.homeProvisioning b → r = 3) ∧
    (¬s.homeFault b → ¬s.homeTaken b token → ¬s.homeProvisioning b → r = 2))

/-! ## A teacher's group release (R115) -/

/-- R115: the tests of a bay at its visit. -/
def State.groupTakes (s : State) (group : Nat) (b : Bay) : Prop :=
  s.bmon[b].pool = some group ∧ s.bmon[b].occupancy = .present ∧
    (∃ (i : Fin 48) (x : CustodyRecord), s.cust.slotAt b = some i ∧ s.cust.slots[i].record = some x ∧
      x.state = .inCart) ∧
    s.cctl[b].state ≠ .lockedOut ∧ s.psched.records[b].state ≠ .active ∧
    (∃ j : Fin 48, s.cust.journal[j].state = .free) ∧
    s.ldrv.mode ≠ .off ∧ (s.ldrv.queue.length < 12 ∨ s.ldrv.queued b = true)

/-- `t` holds what enqueuing bay `b` for a teacher leaves of `s` (R113, R115): the record PENDING_RELEASE with
the teacher's token, the lowest FREE entry held, a release opened, the latch drive asked for, and a WAITING bay
withdrawn from provisioning. -/
def State.groupEnqueues (s : State) (token : Token) (b : Bay) (t : State) : Prop :=
  (∀ (i : Fin 48) (x : CustodyRecord), s.cust.slotAt b = some i → s.cust.slots[i].record = some x →
    t.cust.slots[i].record = some { x with
      state := .pendingRelease, holder := some token, since := s.minute } ∧
    ∀ k : Fin 48, k ≠ i → t.cust.slots[k] = s.cust.slots[k]) ∧
  (∀ j : Fin 48, s.cust.freeEntry = some j →
    t.cust.journal = s.cust.journal.set j (JournalEntry.heldFor b) ∧
    t.cust.nextSequence = s.cust.nextSequence ∧
    ∃ r : Release, t.cust.releases[b] = some r ∧ r.kind = .teacher ∧ r.holder = some token ∧
      r.recorded = true ∧ r.held = some j) ∧
  (s.queueBlocked → s.requests b t) ∧
  (s.psched.records[b].state = .waiting → t.psched.records[b].state = .none ∧
    t.psched.records[b].wanted = 0 ∧ t.psched.records[b].attempts = 0 ∧ b ∉ t.psched.queue) ∧
  (s.psched.records[b].state ≠ .waiting → t.psched.records[b] = s.psched.records[b]) ∧
  s.changedOnly (.latches :: .limits :: .verdicts :: .reader :: .custody :: .releases :: .journal ::
    .notices :: considerParts) t

/-! ## The end of an order list (R165) -/

/-- `t` holds list `i` ended as `l`, and the other list as R165 leaves it: an ARMED one has started, and has
ended DONE at once with LIST_DONE if its first record offset is 0. -/
def State.endsList (s : State) (i : ListId) (l : OrderList) (t : State) : Prop :=
  t.owalk[i] = l ∧
  (s.owalk[otherList i].state ≠ .armed → t.owalk[otherList i] = s.owalk[otherList i]) ∧
  (s.owalk[otherList i].state = .armed → s.owalk[otherList i].first ≠ 0 →
    t.owalk[otherList i] = { s.owalk[otherList i] with
      state := .running, next := s.owalk[otherList i].first, walked := [] }) ∧
  (s.owalk[otherList i].state = .armed → s.owalk[otherList i].first = 0 →
    t.owalk[otherList i] = { s.owalk[otherList i] with
      state := .done, taken := 0, next := 0, walked := [] } ∧
    (s.nctl.sources[(14 : Fin 16)].capture = true → t.nctl.sources[(14 : Fin 16)].request = true))

/-! ## What the pages show (Tables 11-1 to 11-9) -/

/-- The `n` bytes at `a` show `v`, least significant byte first; absent, each of them is 0xFF (R179). -/
def State.shows (s : State) (a n : Nat) (v : Option Nat) : Prop :=
  ∀ i : Nat, i < n → s.byteAt (a + i) =
    (match v with
      | some x => byteOf (x / 256 ^ i)
      | none => 0xFF)

/-- The bytes from `a` to below `z` are pad bytes (R179). -/
def State.padded (s : State) (a z : Nat) : Prop := ∀ i : Nat, a ≤ i → i < z → s.byteAt i = 0

/-- Table 11-1: the codes of the sets that pages show. -/
def codesOfTable : Prop :=
  [Occupancy.empty, .settling, .present, .anon, .duplicate].map Occupancy.code = [0, 1, 2, 3, 4] ∧
  [Door.closed, .opened].map Door.code = [0, 1] ∧ [OpenClass.released, .forced].map OpenClass.code = [1, 2] ∧
  [LatchSense.locked, .released].map LatchSense.code = [0, 1] ∧
  [DataPath.dark, .watch, .joined, .cut].map DataPath.code = [0, 1, 2, 3] ∧
  [Tier.session, .due, .low, .normal, .topped].map Tier.code = [0, 1, 2, 3, 4] ∧
  [ChargeState.off, .negotiating, .delivering, .cooldown, .lockedOut].map ChargeState.code =
    [0, 1, 2, 3, 4] ∧
  [ProvState.none, .waiting, .active, .current, .failed].map ProvState.code = [0, 1, 2, 3, 4] ∧
  [SessionOutcome.success, .failedReported, .expired, .stalled, .linkFault, .removed, .aborted, .forced,
    .cancelled, .hostLost].map SessionOutcome.code = [1, 2, 3, 4, 5, 6, 7, 8, 9, 10] ∧
  [LatchMode.pulse, .hold, .off].map LatchMode.code = [0, 1, 2] ∧
  [CustodyState.inCart, .pendingRelease, .out, .missing].map CustodyState.code = [1, 2, 3, 4] ∧
  [JournalState.free, .held, .filled].map JournalState.code = [0, 1, 2] ∧
  [JournalKind.checkout, .returned, .arrival, .staffRelease, .forcedOpen].map JournalKind.code =
    [1, 2, 3, 4, 5] ∧
  [SupplyState.nominal, .sag, .deepSag].map SupplyState.code = [0, 1, 2] ∧
  [ThermalState.normal, .derated, .hold, .sensorLost].map ThermalState.code = [0, 1, 2, 3] ∧
  [SagSelect.pct92, .pct88, .pct84].map SagSelect.code = [0, 1, 2] ∧
  [DeepSelect.pct80, .pct75].map DeepSelect.code = [0, 1] ∧ [Bank.a, .b].map Bank.code = [1, 2] ∧
  [WindowPhase.stopped, .closed, .opened].map WindowPhase.code = [0, 1, 2] ∧
  [HeartbeatFailure.early, .late].map HeartbeatFailure.code = [1, 2] ∧
  [Mode.attended, .standalone].map Mode.code = [0, 1] ∧
  [ListState.idle, .armed, .running, .stalled, .done, .fault].map ListState.code = [0, 1, 2, 3, 4, 5] ∧
  [ListFault.badLink, .notPosted, .tooLong, .aborted].map ListFault.code = [1, 2, 3, 4]

/-- Table 11-2: the cart page. -/
def State.showsCart (s : State) : Prop :=
  s.byteAt 0x00 = s.swm.cartCount ∧ s.padded 0x01 0x02 ∧ s.shows 0x02 2 (some s.palloc.limit) ∧
  (∀ h : Shelf, s.shows (0x04 + 2 * h.val) 2 (some s.palloc.caps[h])) ∧
  s.byteAt 0x10 = s.palloc.sagSelect.code ∧ s.byteAt 0x11 = s.palloc.deepSelect.code ∧
  s.byteAt 0x12 = s.palloc.supply.code ∧
  s.byteAt 0x13 = (match s.palloc.supply with
    | .nominal => 4
    | .sag => 3
    | .deepSag => 2) ∧
  s.byteAt 0x14 = s.palloc.thermal.code ∧ s.byteAt 0x15 = byteOf s.palloc.thermalFactor ∧
  s.byteAt 0x16 = (match s.palloc.temp with
    | some t => byteOf (t + 64).toNat
    | none => 0xFF) ∧
  s.byteAt 0x17 = byteOf s.palloc.supervisionFactor ∧ s.byteAt 0x18 = byteOf s.palloc.reserve ∧
  s.padded 0x19 0x1A ∧ s.shows 0x1A 2 (some s.palloc.net) ∧
  (∀ n : Nat, n = ((List.finRange 36).map fun b : Bay => s.palloc.bays[b].grant).sum →
    s.shows 0x1C 2 (some n) ∧ s.shows 0x1E 2 (some (s.palloc.net - n))) ∧
  (∀ h : Shelf, s.shows (0x20 + 2 * h.val) 2
    (some ((List.finRange 36).map fun b : Bay => if shelfOf b = h then s.palloc.bays[b].grant else 0).sum)) ∧
  s.byteAt 0x2C = (match s.acc.activeBank with
    | some k => k.code
    | none => 0) ∧
  s.byteAt 0x2D = byteOf s.acc.windows.length ∧ s.shows 0x2E 2 (some s.acc.activeCount) ∧
  s.shows 0x30 2 (s.acc.clock.map CartClock.minute) ∧ s.shows 0x32 1 (s.acc.clock.map CartClock.second) ∧
  s.byteAt 0x33 = (if s.acc.service then 1 else 0) ∧
  s.byteAt 0x34 = byteOf ((List.finRange 48).countP fun i => s.cust.slots[i].record.isSome) ∧
  s.padded 0x35 0x36 ∧ s.shows 0x36 4 (some s.cust.nextSequence) ∧ s.byteAt 0x3A = s.ldrv.mode.code ∧
  s.byteAt 0x3B = byteOf s.ldrv.queue.length ∧ s.shows 0x3C 2 (some s.ldrv.pulse) ∧
  s.byteAt 0x3E = (if s.ldrv.reserveHeld then 1 else 0) ∧ s.byteAt 0x3F = (if s.smon.enable then 1 else 0) ∧
  s.shows 0x40 2 (some s.smon.closedPhase) ∧ s.byteAt 0x42 = byteOf s.smon.maximum ∧
  s.byteAt 0x43 = s.smon.phase.code ∧
  s.byteAt 0x44 = (match s.smon.lastFailure with
    | some f => f.code
    | none => 0) ∧
  s.byteAt 0x45 = s.smon.mode.code ∧ s.shows 0x46 2 s.swm.guardOffset ∧ s.padded 0x48 0x100

/-- Table 11-3: the bay mirror record of bay `b` at `a`. -/
def State.showsBay (s : State) (b : Bay) (a : Nat) : Prop :=
  s.byteAt a = s.swm.bayCounts[b] ∧ s.byteAt (a + 0x01) = s.bmon[b].occupancy.code ∧
  s.shows (a + 0x02) 6 (s.bmon[b].tag.map BitVec.toNat) ∧ s.byteAt (a + 0x08) = s.bmon[b].door.code ∧
  s.shows (a + 0x09) 1 (s.bmon[b].lastOpen.map fun k => k.code.toNat) ∧
  s.byteAt (a + 0x0A) = s.bmon[b].latch.code ∧ s.shows (a + 0x0B) 1 s.bmon[b].level ∧
  s.shows (a + 0x0C) 1 s.bmon[b].pool ∧ s.byteAt (a + 0x0D) = s.bmon[b].path.code ∧
  s.shows (a + 0x0E) 1 (s.bmon[b].joined.map fun c => c.val + 1) ∧ s.padded (a + 0x0F) (a + 0x10) ∧
  s.byteAt (a + 0x10) = s.palloc.bays[b].tier.code ∧ s.byteAt (a + 0x11) = byteOf s.palloc.bays[b].want ∧
  s.byteAt (a + 0x12) = byteOf s.palloc.bays[b].grant ∧ s.byteAt (a + 0x13) = s.cctl[b].state.code ∧
  s.byteAt (a + 0x14) = byteOf s.cctl[b].demand ∧ s.byteAt (a + 0x15) = byteOf s.cctl[b].applied ∧
  s.shows (a + 0x16) 2 (some (s.cctl[b].applied * 4095 / 120)) ∧
  s.byteAt (a + 0x18) = byteOf s.cctl[b].trips ∧ s.byteAt (a + 0x19) = s.psched.records[b].state.code ∧
  s.shows (a + 0x1A) 2 (some s.psched.records[b].wanted.toNat) ∧
  s.shows (a + 0x1C) 2 (some s.psched.records[b].installed.toNat) ∧
  s.byteAt (a + 0x1E) = byteOf s.psched.records[b].attempts ∧
  s.shows (a + 0x1F) 1 (s.psched.records[b].lastOutcome.map fun o => o.code.toNat) ∧
  s.byteAt (a + 0x20) = byteOf s.psched.records[b].sessionLimit ∧
  s.byteAt (a + 0x21) = byteOf s.psched.records[b].silenceLimit ∧
  s.byteAt (a + 0x22) = byteOf ((if s.ldrv.queued b then 1 else 0) + (if s.ldrv.driving b then 2 else 0)) ∧
  s.byteAt (a + 0x23) = (if s.ldrv.stuck[b] then 1 else 0) ∧
  s.shows (a + 0x24) 2 (s.acc.reservations[b].map Reservation.deadline) ∧
  s.shows (a + 0x26) 8 ((s.acc.reservations[b].bind Reservation.token).map BitVec.toNat) ∧
  s.padded (a + 0x2E) (a + 0x40)

/-- Table 11-4: the custody slot `j` at `a`; a free slot holds its change count and 0xFF in every other assigned
byte. -/
def State.showsSlot (s : State) (j : Fin 48) (a : Nat) : Prop :=
  s.byteAt a = s.cust.slots[j].count ∧
  s.shows (a + 0x01) 1 (s.cust.slots[j].record.map fun r => r.state.code.toNat) ∧
  s.shows (a + 0x02) 6 (s.cust.slots[j].record.map fun r => r.tag.toNat) ∧
  s.shows (a + 0x08) 1 (s.cust.slots[j].record.bind fun r => r.bay.map fun b => b.val + 1) ∧
  s.shows (a + 0x09) 1 (s.cust.slots[j].record.bind fun r => r.lastBay.map fun b => b.val + 1) ∧
  s.shows (a + 0x0A) 8 (s.cust.slots[j].record.bind fun r => r.holder.map BitVec.toNat) ∧
  s.shows (a + 0x12) 2 (s.cust.slots[j].record.bind fun r => r.since) ∧ s.padded (a + 0x14) (a + 0x20)

/-- Table 11-5: the journal entry `j` at `a`. -/
def State.showsEntry (s : State) (j : Fin 48) (a : Nat) : Prop :=
  s.byteAt a = s.cust.journal[j].state.code ∧
  s.shows (a + 0x01) 1 (s.cust.journal[j].kind.map fun k => k.code.toNat) ∧
  s.shows (a + 0x02) 1 (s.cust.journal[j].bay.map fun b => b.val + 1) ∧
  s.shows (a + 0x03) 1 (s.cust.journal[j].misplaced.map fun m => if m then 1 else 0) ∧
  s.shows (a + 0x04) 4 s.cust.journal[j].sequence ∧
  s.shows (a + 0x08) 6 (s.cust.journal[j].tag.map BitVec.toNat) ∧
  s.shows (a + 0x0E) 8 (s.cust.journal[j].holder.map BitVec.toNat) ∧
  s.shows (a + 0x16) 2 s.cust.journal[j].minute ∧ s.padded (a + 0x18) (a + 0x20)

/-- Table 11-6: the provisioning page. -/
def State.showsProv (s : State) : Prop :=
  s.byteAt 0x1700 = s.psched.pageCount ∧ s.byteAt 0x1701 = s.psched.mode.code ∧
  s.byteAt 0x1702 = byteOf s.psched.releaseThreshold ∧ s.byteAt 0x1703 = byteOf s.psched.provMinimum ∧
  s.byteAt 0x1704 = byteOf s.psched.queue.length ∧ s.padded 0x1705 0x1710 ∧
  (∀ i : Nat, i < 36 → s.shows (0x1710 + i) 1 (s.psched.queue[i]?.map fun b => b.val + 1)) ∧
  s.padded 0x1734 0x1740 ∧ s.padded 0x17C0 0x1800

/-- Table 11-7: the channel record `c` at `a`. -/
def State.showsChannel (s : State) (c : Chan) (a : Nat) : Prop :=
  s.byteAt a = (if s.psched.channels[c].session.isSome then 1 else 0) ∧
  s.shows (a + 0x01) 1 (s.psched.channels[c].session.map fun x => x.bay.val + 1) ∧
  s.shows (a + 0x02) 2 (s.psched.channels[c].session.bind fun x => x.start) ∧
  s.shows (a + 0x04) 2 (s.psched.channels[c].session.map fun x => x.wanted.toNat) ∧
  s.shows (a + 0x06) 1 (s.psched.channels[c].session.map fun x => x.sessionLimit) ∧
  s.shows (a + 0x07) 1 (s.psched.channels[c].session.map fun x => x.silenceLimit) ∧
  s.shows (a + 0x08) 1 (s.psched.channels[c].lastEnded.map fun e => e.bay.val + 1) ∧
  s.shows (a + 0x09) 1 (s.psched.channels[c].lastEnded.map fun e => e.outcome.code.toNat) ∧
  s.padded (a + 0x0A) (a + 0x20)

/-- Table 11-8: the notice board. -/
def State.showsNotices (s : State) : Prop :=
  s.byteAt 0x0140 = 0xFF ∧ s.byteAt 0x0141 = s.nctl.peek ∧ s.byteAt 0x0142 = s.swm.endWord ∧
  s.byteAt 0x0143 = s.swm.heartbeatWord ∧ s.byteAt 0x0144 = byteOf s.nctl.threshold ∧
  s.byteAt 0x0145 = byteOf ((if s.nctl.pendingCauses.order then 1 else 0) +
    (if s.nctl.pendingCauses.guard then 2 else 0)) ∧
  s.byteAt 0x0146 = byteOf ((if s.nctl.serviceCauses.order then 1 else 0) +
    (if s.nctl.serviceCauses.guard then 2 else 0)) ∧
  s.padded 0x0147 0x0150 ∧
  (∀ i : Fin 16, s.byteAt (0x0150 + 4 * i.val) = byteOf s.nctl.sources[i].level ∧
    s.byteAt (0x0151 + 4 * i.val) = (if s.nctl.sources[i].capture then 1 else 0) ∧
    s.byteAt (0x0152 + 4 * i.val) = (if s.nctl.sources[i].request then 1 else 0) ∧
    s.byteAt (0x0153 + 4 * i.val) = (if s.nctl.sources[i].inService then 1 else 0)) ∧
  s.padded 0x0190 0x0200

/-- Table 11-9: the header of list `i` at `a`. -/
def State.showsHeader (s : State) (i : ListId) (a : Nat) : Prop :=
  s.byteAt a = s.owalk[i].state.code ∧ s.byteAt (a + 0x01) = s.owalk[i].policy ∧
  s.shows (a + 0x02) 2 (some s.owalk[i].first.toNat) ∧ s.byteAt (a + 0x04) = byteOf s.owalk[i].taken ∧
  s.shows (a + 0x05) 1 (s.owalk[i].faultCode.map fun f => f.code.toNat) ∧
  s.shows (a + 0x06) 2 (s.owalk[i].faultOffset.map BitVec.toNat) ∧ s.padded (a + 0x08) (a + 0x20)

/-! ## Order records -/

/-- The command by which the walker dispatches an order kind. -/
def OrderKind.command (k : OrderKind) : Instr :=
  match k with
  | .setLimits => .setLimits
  | .setThresholds => .setThresholds
  | .bayConfig => .bayConfig
  | .reserve => .reserve
  | .provision => .provision
  | .cancelProvision => .cancelProvision
  | .sessionEnd => .sessionEnd
  | .commitCredentials => .commitCredentials
  | .commitWindows => .commitWindows
  | .setClock => .setClock
  | .releaseBay => .releaseBay
  | .custodyRestore => .custodyRestore
  | .forgetTablet => .forgetTablet
  | .setLatchMode => .setLatchMode
  | .clearFault => .clearFault
  | .setNotice => .setNotice
  | .setSupervision => .setSupervision

/-- List `i` is RUNNING and its walker reaches next the record at `off`, of `bytes` bytes, which it
dispatches as an order of kind `k` (R166). -/
def State.reaches (s : State) (i : ListId) (k : OrderKind) (off bytes : Nat) : Prop :=
  s.runningList = some i ∧ s.owalk[i].next.toNat = off ∧ s.arrivalOf s.owalk[i] = .order k bytes

/-- The bytes of a record that an answer writes: state, outcome and detail (R168). -/
def answerBytes (off : Nat) : List Nat := [off, off + 3, off + 4, off + 5]

/-- `t` is `s` with the record at `off` answered (R168): state, outcome and detail in the record and no other
stored byte changed, the taken count raised, the record in the walked set, and the link followed. The detail
is a field of 16 bits. -/
def State.answers (s : State) (i : ListId) (off bytes : Nat) (o : OrderOutcome) (detail : Nat) (t : State) :
    Prop :=
  t.field1 off 0 = o.recordState ∧ t.field1 off 3 = o.code ∧ t.fieldN off 4 2 = detail % 65536 ∧
    (∀ a : Nat, a ∉ answerBytes off → Memory.read t.swm.mem a = Memory.read s.swm.mem a) ∧
    t.owalk = s.owalk.set i { s.owalk[i] with
      taken := s.owalk[i].taken + 1, next := s.linkOf off
      walked := s.owalk[i].walked ++ [{ offset := off, bytes := bytes }] }

/-- A refused order: its answer is written, and nothing else changes. -/
def State.refuses (s : State) (i : ListId) (off bytes : Nat) (o : OrderOutcome) (detail : Nat) (t : State) :
    Prop :=
  s.answers i off bytes o detail t ∧ s.changedOnly [.stored, .lists] t

end Sys2Proof.Machine
end

