-- ==== Sys2Proof/Certificates/Slice0/Obligations.lean ====
section
/-! DEFINITION. The statements about the part, for the provers: first the machine and the laws that blocks own
over every step, then the commands, family by family. A command's statement says that it answers a next state
under conditions on the state and the operands alone, what that state holds, and what it leaves unchanged
(`changedOnly` lists the parts of the state that may change; every other part, every stored byte of shared work
memory among them, stays). Where a clause rests on a choice of the model, its docstring names the log entry. -/

open Sys2Proof Sys2Proof.Machine

/-! ## The machine -/

/-- The command at the front of the queue is run on the state with the queue's rest; with no command waiting,
one millisecond of the timebase passes (log entry 1) and nothing else changes. -/
def Obligations.StepTakesFrontCommand : Prop :=
  (∀ (i : Instr) (rest : List Instr) (s : State),
    step (s.withPending (i :: rest)) = exec i (s.withPending rest)) ∧
  ∀ s : State, s.pending = [] → ∃ t, step s = .next t ∧ t.now = s.now + 1 ∧ s.changedOnly [.now] t

/-- Every command completes in every state, and the queue and the timebase are not its business: the spec
describes no event that stops the part (log entry 24). -/
def Obligations.EveryCommandCompletes : Prop :=
  ∀ (i : Instr) (s : State), ∃ t, exec i s = .next t ∧ t.pending = s.pending ∧ t.now = s.now

/-- The state after power-on meets the laws that the blocks own. -/
def Obligations.ResetMeetsTheLaws : Prop :=
  State.reset.memGood ∧ State.reset.powerGood ∧ State.reset.settled ∧ State.reset.listsGood ∧
    State.reset.queueGood ∧ State.reset.custodyGood ∧ State.reset.bankGood

/-- The stored bytes stay in canonical form, so equal memories are equal data. -/
def Obligations.EveryStepKeepsMemoryCanonical : Prop :=
  ∀ s t : State, s.memGood → step s = .next t → t.memGood

/-- R57: at every bay the applied power stays at or below the grant, which is the grant PALLOC last decided;
no power is applied outside DELIVERING, and an EMPTY bay is OFF. -/
def Obligations.EveryStepKeepsPowerWithinGrant : Prop :=
  ∀ s t : State, s.powerGood → step s = .next t → t.powerGood

/-- R45, R46: after every step the tiers, the wants, N and the grants are those of one pass over the inputs as
they stand, so no change of an input goes without its pass. -/
def Obligations.EveryStepKeepsGrantsSettled : Prop :=
  ∀ s t : State, s.settled → step s = .next t → t.settled

/-- R163: at most one order list is RUNNING or STALLED. -/
def Obligations.EveryStepKeepsOneListWalked : Prop :=
  ∀ s t : State, s.listsGood → step s = .next t → t.listsGood

/-- R72, R73: the queue holds the WAITING bays and each once; the ACTIVE bays are those of the BUSY channels. -/
def Obligations.EveryStepKeepsQueueAndChannels : Prop :=
  ∀ s t : State, s.queueGood → step s = .next t → t.queueGood

/-- R117: no two custody records have the same tag, no two are located at the same bay. -/
def Obligations.EveryStepKeepsCustodyUnique : Prop :=
  ∀ s t : State, s.custodyGood → step s = .next t → t.custodyGood

/-- R94, R95, R160: no step puts an untested entry in force, and the guard keeps every write, of the port and
of the part, away from the entries that are. -/
def Obligations.EveryStepKeepsActiveBankGood : Prop :=
  ∀ s t : State, s.memGood → s.bankGood → step s = .next t → t.bankGood

/-! ## Laws of the blocks -/

/-- R38, R40, R41, R44, R57, where the grants are settled. The tier: SESSION for a bay that a channel is BUSY
with; else DUE with a reservation that is near (`reservationNear`, R40); else TOPPED with the topped mark; else
LOW with the level unknown or below 30, NORMAL from 30. The want: the demand of an attached tablet behind a CLOSED
door in NEGOTIATING or DELIVERING, at most 8 in TOPPED; otherwise 0. A bay whose door is OPEN or that has no
attached tablet has a want, a grant, an applied power and a setpoint code of 0, where CCTL keeps its law. -/
def Obligations.NoPowerBehindOpenDoor : Prop :=
  ∀ (s : State) (b : Bay), s.settled →
    ((∃ (c : Chan) (x : Session), s.psched.channels[c].session = some x ∧ x.bay = b) →
      s.palloc.bays[b].tier = .session) ∧
    ((∀ (c : Chan) (x : Session), s.psched.channels[c].session = some x → x.bay ≠ b) →
      (s.reservationNear b → s.palloc.bays[b].tier = .due) ∧
      (¬s.reservationNear b → s.palloc.bays[b].toppedMark = true → s.palloc.bays[b].tier = .topped) ∧
      (¬s.reservationNear b → s.palloc.bays[b].toppedMark = false →
        (s.bmon[b].level = none → s.palloc.bays[b].tier = .low) ∧
        ∀ l : Nat, s.bmon[b].level = some l →
          (l < 30 → s.palloc.bays[b].tier = .low) ∧ (30 ≤ l → s.palloc.bays[b].tier = .normal))) ∧
    ((s.bmon[b].occupancy = .present ∨ s.bmon[b].occupancy = .anon ∨ s.bmon[b].occupancy = .duplicate) →
      s.bmon[b].door = .closed → (s.cctl[b].state = .negotiating ∨ s.cctl[b].state = .delivering) →
      s.palloc.bays[b].want =
        (if s.palloc.bays[b].tier = .topped then min s.cctl[b].demand 8 else s.cctl[b].demand)) ∧
    (s.bmon[b].occupancy = .empty ∨ s.bmon[b].occupancy = .settling ∨ s.bmon[b].door = .opened ∨
        s.cctl[b].state = .off ∨ s.cctl[b].state = .cooldown ∨ s.cctl[b].state = .lockedOut →
      s.palloc.bays[b].want = 0 ∧ s.palloc.bays[b].grant = 0) ∧
    (s.powerGood → (s.bmon[b].door = .opened ∨ s.bmon[b].occupancy.attached = false) →
      s.palloc.bays[b].want = 0 ∧ s.palloc.bays[b].grant = 0 ∧ s.cctl[b].applied = 0 ∧ s.cctl[b].setpoint = 0)

/-- R43, R44: the grants of a pass sum to at most N and, shelf by shelf, to at most the cap; no grant exceeds
its want; what remains is N less the grants; nothing remains while a bay has room; and a bay of a lower tier
gets power only when every bay of a higher tier has its want or a full shelf. -/
def Obligations.AllocationLaws : Prop :=
  ∀ (n : Nat) (caps : Vector Nat 6) (inp : Vector PassInput 36) (a : Alloc), a = allocate n caps inp →
    (∑ b : Bay, a.grants[b]) ≤ n ∧
    (∀ h : Shelf, (∑ b : Bay, if shelfOf b = h then a.grants[b] else 0) ≤ caps[h]) ∧
    (∀ b : Bay, a.grants[b] ≤ inp[b].want) ∧
    a.remaining = n - (∑ b : Bay, a.grants[b]) ∧
    (0 < a.remaining → ∀ b : Bay, a.grants[b] = inp[b].want ∨
      (∑ x : Bay, if shelfOf x = shelfOf b then a.grants[x] else 0) = caps[shelfOf b]) ∧
    (∀ b x : Bay, inp[b].tier.rank < inp[x].tier.rank → 0 < a.grants[x] → a.grants[b] = inp[b].want ∨
      (∑ y : Bay, if shelfOf y = shelfOf b then a.grants[y] else 0) = caps[shelfOf b])

/-- R174: ATTN is asserted exactly when a source is presentable; the highest presentable source, which PEEK
shows and whose level STATUS shows, is presentable, and every other presentable source has a higher level, or
the same level and a higher number. -/
def Obligations.AttnFollowsPresentableSources : Prop :=
  ∀ s : State,
    (s.attn = true ↔ ∃ i : Fin 16, s.nctl.presentable i = true) ∧
    (∀ i : Fin 16, s.nctl.presentable i = true ↔
      s.nctl.sources[i].request = true ∧ s.nctl.sources[i].inService = false ∧
      s.nctl.sources[i].capture = true ∧ s.nctl.sources[i].level ≤ s.nctl.threshold ∧
      ∀ j : Fin 16, s.nctl.sources[j].inService = true → s.nctl.sources[i].level < s.nctl.sources[j].level) ∧
    (∀ i : Fin 16, s.nctl.highest = some i →
      s.nctl.presentable i = true ∧ s.nctl.peek = byteOf (i.val + 1) ∧
      s.status1 = byteOf s.nctl.sources[i].level ∧
      ∀ j : Fin 16, s.nctl.presentable j = true → s.nctl.sources[i].level < s.nctl.sources[j].level ∨
        (s.nctl.sources[i].level = s.nctl.sources[j].level ∧ i ≤ j)) ∧
    (s.nctl.highest = none → s.nctl.peek = 0xFF ∧ s.status1 = 0xFF)

/-- R97: a lookup finds a token exactly when an entry in force of the active bank carries it, and then that
entry; the all-0xFF pattern is unknown, and so is every token while no bank is active. R99: a group is open
exactly when the clock is set and some window has today's day, the present minute-of-day and the group. -/
def Obligations.LookupAndOpenGroups : Prop :=
  (∀ (s : State) (token : Token), s.bankGood →
    (s.acc.activeBank = none → s.lookup token = none) ∧
    (∀ (k : Bank) (e : CredentialEntry), s.acc.activeBank = some k →
      (s.lookup token = some e ↔ token ≠ noToken ∧
        ∃ n : Nat, n < s.acc.activeCount ∧ credentialAt s.swm.mem k n = e ∧ e.token = token.toNat))) ∧
  (∀ (s : State) (g : Nat),
    (s.minute = none → s.groupOpen g = false) ∧
    (∀ m : Nat, s.minute = some m →
      (s.groupOpen g = true ↔ ∃ w ∈ s.acc.windows, w.days.getLsbD (m / 1440) = true ∧
        w.start ≤ m % 1440 ∧ m % 1440 < w.stop ∧ w.groups.getLsbD g = true)))

/-- R156, R180: the bytes of a well-formed port command are read as that command, with every operand. -/
def Obligations.PortCommandsDecodeWhatIsEncoded : Prop :=
  ∀ (i : Instr) (bytes : List Byte), i.wellFormed = true → encodePort i = some bytes →
    decodePort bytes = some i

/-! ## Resets and the port -/

/-- R25, R51, R67, R91, R106, R132, R145, R155, R170, R171, R178: power-on restarts every block and zeroes the
memory; PALLOC takes its first pass, with the supply timers starting from the input as it stands and the first
thermal sample 1 s away (`pallocRestarted`). Pins, timebase and waiting commands belong to the outside (log entries
1, 4 and 11). That the reader starts in search of a start byte, and the walker's offset of 0, are the model's choice
(log entry 5), and so is the byte 0 for the stall policy WAIT (log entry 30). -/
def Obligations.PowerOnRestartsEveryBlock : Prop :=
  ∀ s : State, ∃ t, exec .powerOn s = .next t ∧
    t.swm = Swm.reset ∧ (∀ a : Nat, Memory.read t.swm.mem a = 0) ∧
    (∀ b : Bay, t.bmon[b] = BayEntry.sensing s.pins[b] none s.now ∧ t.cctl[b] = ChargeBay.reset) ∧
    (t.palloc.limit = 4800 ∧ (∀ h : Shelf, t.palloc.caps[h] = 600) ∧ t.palloc.sagSelect = .pct88 ∧
      t.palloc.deepSelect = .pct75 ∧ s.pallocRestarted t ∧ t.palloc.net = 2306 ∧
      ∀ b : Bay, t.palloc.bays[b].tier = .low) ∧
    t.psched = PSched.reset ∧ t.acc = Acc.reset ∧ t.cust = Cust.reset ∧ t.ldrv = Ldrv.reset ∧
    t.smon = Smon.reset ∧ (∀ i : ListId, t.owalk[i] = OrderList.reset) ∧ t.nctl = Nctl.reset ∧
    t.attn = true ∧ t.nctl.peek = 1 ∧
    t.pins = s.pins ∧ t.vsense = s.vsense ∧ t.now = s.now ∧ t.pending = s.pending

/-- R52, R158, R159, R170: the two part resets keep what the reset tables keep and restart everything else, PALLOC
as at power-on over the kept limits and selects (`pallocRestarted`). A write burst that RESETn cuts off leaves its
bytes as the guard allows, and none of its events (log entry 10). That the record of what was sent is kept, and the
walker's offset of 0, are the model's choice (log entry 5), and so is the byte 0 for the stall policy WAIT (log
entry 30). -/
def Obligations.PartResetsKeepAndRestart : Prop :=
  ∀ s : State,
    (∃ t, exec (.resetnPartReset none) s = .next t ∧ s.partRestarted .pin t) ∧
    (∀ w : Burst, s.swm.ready = true → ∃ t, exec (.resetnPartReset (some w)) s = .next t ∧
      (landBytes (burstBytes w) s).partRestarted .pin t) ∧
    (∀ w : Burst, s.swm.ready = false →
      ∃ t, exec (.resetnPartReset (some w)) s = .next t ∧ s.partRestarted .pin t) ∧
    (∀ rest : List Byte, ∃ t, exec (.controlPartReset rest) s = .next t ∧ s.partRestarted .control t)

/-- R158, R159, R180: memory ready is set in STATUS; a register read returns the register's bytes, low byte
first, and 0 beyond them; a register write that is not the part-reset code to CONTROL changes nothing. -/
def Obligations.StatusAndRegisterAccess : Prop :=
  ∀ s : State,
    (∃ t, exec .memoryReady s = .next t ∧ t.swm.ready = true ∧ t.swm.resetCause = s.swm.resetCause ∧
      s.changedOnly [.status] t) ∧
    (∀ (number : Byte) (n : Nat), 1 ≤ n → ∃ t, exec (.registerRead number n) s = .next t ∧
      t.out.portData.length = n ∧ s.changedOnly [.portData] t ∧
      (number = 0 → t.out.portData[0]? = some 0x36 ∧ (2 ≤ n → t.out.portData[1]? = some 0x01)) ∧
      (number = 1 → t.out.portData[0]? = some s.status0 ∧ (2 ≤ n → t.out.portData[1]? = some s.status1)) ∧
      (∀ k : Nat, k < n → (2 ≤ k ∨ 2 ≤ number.toNat) → t.out.portData[k]? = some 0)) ∧
    (∀ k : Nat, s.status0.getLsbD k = true ↔ (k = 0 ∧ s.swm.ready = true) ∨
      (k = 1 ∧ s.smon.mode = .standalone) ∨ (k = 2 ∧ s.acc.service = true) ∨
      (k = 4 ∧ s.swm.resetCause = .pin) ∨ (k = 5 ∧ s.swm.resetCause = .control)) ∧
    (∀ (number : Byte) (data : List Byte), (Instr.registerWrite number data).wellFormed = true →
      exec (.registerWrite number data) s = .next s)

/-- Tables 11-1 to 11-9, R179: every field of the part-written pages shows the state that its owner holds (log entry
6), with the codes of Table 11-1. Fields of several bytes lie little-endian, an absent field has every byte at 0xFF,
and pad bytes read 0. The pages: the cart page (Table 11-2), the bay records (11-3), the custody slots (11-4), the
journal (11-5), the provisioning page (11-6) with its channels (11-7), the notice board (11-8) and the list headers
(11-9). From 0x1800 on, the stored bytes. -/
def Obligations.PagesShowTheState : Prop :=
  codesOfTable ∧
  ∀ s : State, s.showsCart ∧
    (∀ b : Bay, s.showsBay b (0x0200 + 0x40 * b.val)) ∧
    (∀ j : Fin 48, s.showsSlot j (0x0B00 + 0x20 * j.val)) ∧
    (∀ j : Fin 48, s.showsEntry j (0x1100 + 0x20 * j.val)) ∧
    s.showsProv ∧ (∀ c : Chan, s.showsChannel c (0x1740 + 0x20 * c.val)) ∧
    s.showsNotices ∧ (∀ i : ListId, s.showsHeader i (0x0100 + 0x20 * i.val)) ∧
    (∀ a : Nat, 0x1800 ≤ a → s.byteAt a = Memory.read s.swm.mem a)

/-- R156, R158, R162, R175: a read burst returns the bytes at consecutive offsets modulo 0x8000 and 0xFF after
the 256th. Covering the TAKE word while memory ready is set, it is one TAKE: the word's place holds the number
of the highest presentable source, whose request is cleared and which enters service; source 16 moves its
causes and arms the guard capture. Otherwise a read changes nothing. -/
def Obligations.MemoryReadAndTake : Prop :=
  ∀ (s : State) (off : BitVec 24) (n : Nat), 1 ≤ n → ∃ t, exec (.memoryRead off n) s = .next t ∧
    t.out.portData.length = n ∧
    (∀ i : Nat, i < n → 256 ≤ i → t.out.portData[i]? = some 0xFF) ∧
    (∀ i : Nat, i < n → i < 256 → (off.toNat + i) % 0x8000 ≠ 0x0140 →
      t.out.portData[i]? = some (s.byteAt ((off.toNat + i) % 0x8000))) ∧
    (∀ i : Nat, i < n → i < 256 → (off.toNat + i) % 0x8000 = 0x0140 →
      t.out.portData[i]? = some (if s.swm.ready then s.nctl.peek else 0xFF)) ∧
    ((s.swm.ready = false ∨ s.nctl.highest = none ∨
        ∀ i : Nat, i < n → i < 256 → (off.toNat + i) % 0x8000 ≠ 0x0140) →
      s.changedOnly [.portData] t) ∧
    (∀ k : Fin 16, s.swm.ready = true → s.nctl.highest = some k →
      (∃ i : Nat, i < n ∧ i < 256 ∧ (off.toNat + i) % 0x8000 = 0x0140) →
      t.nctl.sources[k] = { s.nctl.sources[k] with request := false, inService := true } ∧
      (∀ j : Fin 16, j ≠ k → t.nctl.sources[j] = s.nctl.sources[j]) ∧
      t.nctl.threshold = s.nctl.threshold ∧
      (k ≠ 15 → t.nctl.pendingCauses = s.nctl.pendingCauses ∧ t.nctl.serviceCauses = s.nctl.serviceCauses ∧
        s.changedOnly [.portData, .notices] t) ∧
      (k = 15 → t.nctl.pendingCauses = { order := false, guard := false } ∧
        t.nctl.serviceCauses =
          { order := s.nctl.serviceCauses.order || s.nctl.pendingCauses.order
            guard := s.nctl.serviceCauses.guard || s.nctl.pendingCauses.guard } ∧
        t.swm.guardArmed = true ∧ t.swm.guardOffset = s.swm.guardOffset ∧
        s.changedOnly [.portData, .notices, .guard] t))

/-- R156, R158, R160, R161: a write burst lands byte by byte as the guard allows, at consecutive offsets modulo
0x8000, up to 256 bytes; while memory ready is clear it is discarded whole. The first discarded byte is captured
while the capture is armed, with GUARD_HIT. A burst that covers no watched byte gives no other event. The stall
policy and the first record offset of a list header take the bytes that land there, and FREE written into a
FILLED journal entry makes it FREE and keeps its other bytes (R119). What the guard allows is given region by
region (Table 9-2). -/
def Obligations.MemoryWriteLandsAsGuardAllows : Prop :=
  (∀ (s : State) (w : Burst), s.memGood → w.data ≠ [] →
    (s.swm.ready = false → exec (.memoryWrite w) s = .next s) ∧
    (s.swm.ready = true → ∃ t, exec (.memoryWrite w) s = .next t ∧
      (∀ (l : ListId) (i : Nat) (v : Byte), i < 256 → w.data[i]? = some v →
        ((w.offset.toNat + i) % 0x8000 = 0x0101 + 0x20 * l.val →
          s.mayWrite (0x0101 + 0x20 * l.val) v = true → t.owalk[l].policy = v) ∧
        ((w.offset.toNat + i) % 0x8000 = 0x0102 + 0x20 * l.val →
          s.mayWrite (0x0102 + 0x20 * l.val) v = true → t.owalk[l].first.toNat % 256 = v.toNat) ∧
        ((w.offset.toNat + i) % 0x8000 = 0x0103 + 0x20 * l.val →
          s.mayWrite (0x0103 + 0x20 * l.val) v = true → t.owalk[l].first.toNat / 256 = v.toNat)) ∧
      (∀ l : ListId,
        ((∀ (i : Nat) (v : Byte), i < 256 → w.data[i]? = some v →
            (w.offset.toNat + i) % 0x8000 = 0x0101 + 0x20 * l.val →
            s.mayWrite (0x0101 + 0x20 * l.val) v = false) → t.owalk[l].policy = s.owalk[l].policy) ∧
        ((∀ (i : Nat) (v : Byte), i < 256 → w.data[i]? = some v →
            (w.offset.toNat + i) % 0x8000 = 0x0102 + 0x20 * l.val →
            s.mayWrite (0x0102 + 0x20 * l.val) v = false) →
          t.owalk[l].first.toNat % 256 = s.owalk[l].first.toNat % 256) ∧
        ((∀ (i : Nat) (v : Byte), i < 256 → w.data[i]? = some v →
            (w.offset.toNat + i) % 0x8000 = 0x0103 + 0x20 * l.val →
            s.mayWrite (0x0103 + 0x20 * l.val) v = false) →
          t.owalk[l].first.toNat / 256 = s.owalk[l].first.toNat / 256)) ∧
      (∀ j : Fin 48,
        ((∃ i : Nat, i < 256 ∧ w.data[i]? = some 0 ∧
            (w.offset.toNat + i) % 0x8000 = 0x1100 + 0x20 * j.val) →
          s.cust.journal[j].state ≠ .held →
          t.cust.journal[j] = { s.cust.journal[j] with state := .free }) ∧
        ((∀ i : Nat, i < 256 → w.data[i]? = some 0 →
            (w.offset.toNat + i) % 0x8000 ≠ 0x1100 + 0x20 * j.val) ∨ s.cust.journal[j].state = .held →
          t.cust.journal[j] = s.cust.journal[j])) ∧
      t.cust.nextSequence = s.cust.nextSequence ∧
      (∀ (i : Nat) (v : Byte), i < 256 → w.data[i]? = some v → 0x1800 ≤ (w.offset.toNat + i) % 0x8000 →
        s.mayWrite ((w.offset.toNat + i) % 0x8000) v = true →
        Memory.read t.swm.mem ((w.offset.toNat + i) % 0x8000) = v) ∧
      (∀ a : Nat, (∀ (i : Nat) (v : Byte), i < 256 → w.data[i]? = some v →
          (w.offset.toNat + i) % 0x8000 = a → a < 0x1800 ∨ s.mayWrite a v = false) →
        Memory.read t.swm.mem a = Memory.read s.swm.mem a) ∧
      ((∀ i : Nat, i < 256 → i < w.data.length →
          (w.offset.toNat + i) % 0x8000 ∉ [0x0100, 0x0120, 0x0142, 0x0143]) →
        s.changedOnly [.stored, .lists, .journal, .guard, .notices, .counts] t ∧
        (∀ i : ListId, t.owalk[i] = { s.owalk[i] with
          policy := t.owalk[i].policy, first := t.owalk[i].first }) ∧
        (s.firstHit (burstBytes w) = none → s.changedOnly [.stored, .lists, .journal] t) ∧
        (∀ a : Nat, s.firstHit (burstBytes w) = some a → s.swm.guardArmed = true →
          t.swm.guardOffset = some a ∧ t.swm.guardArmed = false ∧
          (s.nctl.sources[(15 : Fin 16)].capture = true →
            t.nctl.sources[(15 : Fin 16)].request = true ∧ t.nctl.pendingCauses.guard = true) ∧
          (s.nctl.sources[(15 : Fin 16)].capture = false → t.nctl = s.nctl)) ∧
        (s.swm.guardArmed = false → s.changedOnly [.stored, .lists, .journal] t)))) ∧
  (∀ (s : State) (a : Nat) (v : Byte), a < 0x8000 →
    (0x7800 ≤ a → s.mayWrite a v = true) ∧
    (0x1800 ≤ a → a < 0x3800 → (s.mayWrite a v = true ↔
      ∀ (i : ListId) (w : WalkedRecord), (s.owalk[i].state = .running ∨ s.owalk[i].state = .stalled) →
        w ∈ s.owalk[i].walked → ¬(w.offset ≤ a ∧ a < w.offset + w.bytes))) ∧
    (0x3800 ≤ a → a < 0x5800 → (s.mayWrite a v = true ↔ s.acc.activeBank ≠ some .a)) ∧
    (0x5800 ≤ a → a < 0x7800 → (s.mayWrite a v = true ↔ s.acc.activeBank ≠ some .b)) ∧
    (∀ j : Fin 48, 0x1100 + 0x20 * j.val ≤ a → a < 0x1120 + 0x20 * j.val → (s.mayWrite a v = true ↔
      a = 0x1100 + 0x20 * j.val ∧ v = 0 ∧ s.cust.journal[j].state ≠ .held)) ∧
    (∀ i : ListId, 0x0100 + 0x20 * i.val ≤ a → a < 0x0120 + 0x20 * i.val → (s.mayWrite a v = true ↔
      a = 0x0100 + 0x20 * i.val ∨ ((s.owalk[i].state = .idle ∨ s.owalk[i].state = .done ∨
        s.owalk[i].state = .fault) ∧ a ≤ 0x0103 + 0x20 * i.val))) ∧
    (0x0140 ≤ a → a < 0x0200 → (s.mayWrite a v = true ↔ a = 0x0142 ∨ a = 0x0143)) ∧
    (a < 0x0100 ∨ (0x0200 ≤ a ∧ a < 0x1100) ∨ (0x1700 ≤ a ∧ a < 0x1800) → s.mayWrite a v = false))

/-- R162, R176: a write of the END word is one END: the source it names, or with 0xFF the source in service of
lowest level (lowest number among equals), leaves service; source 16 empties its causes in service; any other
value, and a source not in service, changes no source. The word keeps the value. -/
def Obligations.EndWordEndsService : Prop :=
  ∀ (s : State) (v : Byte), s.swm.ready = true →
    ∃ t, exec (.memoryWrite { offset := 0x000142, data := [v] }) s = .next t ∧
      t.swm.endWord = v ∧ t.swm.heartbeatWord = s.swm.heartbeatWord ∧ s.changedOnly [.words, .notices] t ∧
      t.nctl.threshold = s.nctl.threshold ∧ t.nctl.pendingCauses = s.nctl.pendingCauses ∧
      (∀ i : Fin 16, v.toNat = i.val + 1 →
        t.nctl.sources[i] = { s.nctl.sources[i] with inService := false } ∧
        (∀ j : Fin 16, j ≠ i → t.nctl.sources[j] = s.nctl.sources[j]) ∧
        (i = 15 → s.nctl.sources[i].inService = true →
          t.nctl.serviceCauses = { order := false, guard := false })) ∧
      (v = 0xFF → (∀ i : Fin 16, s.nctl.sources[i].inService = false) → s.changedOnly [.words] t) ∧
      (v = 0xFF → ∀ i : Fin 16, s.nctl.sources[i].inService = true →
        (∀ j : Fin 16, s.nctl.sources[j].inService = true →
          s.nctl.sources[i].level < s.nctl.sources[j].level ∨
          (s.nctl.sources[i].level = s.nctl.sources[j].level ∧ i ≤ j)) →
        t.nctl.sources[i] = { s.nctl.sources[i] with inService := false } ∧
        (∀ j : Fin 16, j ≠ i → t.nctl.sources[j] = s.nctl.sources[j]) ∧
        (i = 15 → t.nctl.serviceCauses = { order := false, guard := false })) ∧
      (v ≠ 0xFF → v = 0 ∨ 16 < v.toNat → s.changedOnly [.words] t)

/-- R149, R150, R151, R153: a write of the heartbeat word is one heartbeat, ruled by the window's phase. R88: an
EARLY failure with HOST_LATE outstanding enters STANDALONE and ends every session HOST_LOST (`losesSessions`). R89:
the return to ATTENDED considers a grant (`considers`). -/
def Obligations.HeartbeatIsRuledByWindow : Prop :=
  ∀ (s : State) (v : Byte), s.swm.ready = true →
    ∃ t, exec (.memoryWrite { offset := 0x000143, data := [v] }) s = .next t ∧ t.swm.heartbeatWord = v ∧
      (s.smon.phase = .stopped → s.smon.mode = .attended → s.changedOnly [.words] t) ∧
      (s.smon.phase = .opened → s.changedOnly [.words, .smon, .counts] t ∧
        t.smon = { s.smon with
          phase := if s.smon.closedPhase = 0 then .opened else .closed, since := some s.now }) ∧
      (s.smon.phase = .closed → s.nctl.sources[(2 : Fin 16)].request = false →
        s.nctl.sources[(2 : Fin 16)].inService = false →
        s.changedOnly [.words, .smon, .counts, .notices] t ∧
        t.smon = { s.smon with
          lastFailure := some .early
          phase := if s.smon.closedPhase = 0 then .opened else .closed, since := some s.now } ∧
        (s.nctl.sources[(2 : Fin 16)].capture = true → t.nctl.sources[(2 : Fin 16)].request = true)) ∧
      (s.smon.phase = .closed → (s.nctl.sources[(2 : Fin 16)].request = true ∨
        s.nctl.sources[(2 : Fin 16)].inService = true) →
        t.smon = { s.smon with
          lastFailure := some .early, mode := .standalone, phase := .stopped, since := none } ∧
        t.psched.mode = .standalone ∧ t.palloc.supervisionFactor = 3 ∧ t.settled ∧
        (∀ c : Chan, t.psched.channels[c].session = none) ∧ s.losesSessions t ∧
        s.changedOnly (.words :: .smon :: .choices :: .limits :: .provSettings :: .notices ::
          considerParts) t) ∧
      (s.smon.phase = .stopped → s.smon.mode = .standalone →
        t.smon = { s.smon with
          mode := .attended, phase := if s.smon.closedPhase = 0 then .opened else .closed
          since := some s.now } ∧
        t.psched.mode = .attended ∧ t.palloc.supervisionFactor = 4 ∧ t.settled ∧
        (s.withPsched { s.psched with mode := .attended }).considers t ∧
        (s.nctl.sources[(3 : Fin 16)].capture = true → t.nctl.sources[(3 : Fin 16)].request = true) ∧
        s.changedOnly (.words :: .smon :: .choices :: .limits :: .provSettings :: .notices ::
          considerParts) t)

/-- R163, R164, R165: ARM and ABORT written into a list's state byte, by the list's state; any other value
changes nothing. An ABORT lets an ARMED other list start (`endsList`); that one with a first record offset of 0
raises LIST_DONE is the model's reading (log entry 16). -/
def Obligations.ArmAndAbortRuleAList : Prop :=
  ∀ (s : State) (i : ListId) (v : Byte), s.swm.ready = true → s.listsGood →
    ∃ t, exec (.memoryWrite { offset := BitVec.ofNat 24 (0x0100 + 0x20 * i.val), data := [v] }) s = .next t ∧
      s.changedOnly [.lists, .notices] t ∧
      (v ≠ 0xA1 → v ≠ 0xA2 → s.changedOnly [] t) ∧
      (v = 0xA1 → (s.owalk[i].state = .idle ∨ s.owalk[i].state = .done ∨ s.owalk[i].state = .fault) →
        t.owalk[i].taken = 0 ∧ t.owalk[i].faultCode = none ∧ t.owalk[i].faultOffset = none ∧
        (s.owalk[otherList i].state = .running ∨ s.owalk[otherList i].state = .stalled →
          t.owalk[i].state = .armed ∧ t.nctl = s.nctl) ∧
        (s.owalk[otherList i].state ≠ .running → s.owalk[otherList i].state ≠ .stalled →
          (s.owalk[i].first ≠ 0 → t.owalk[i].state = .running ∧ t.owalk[i].next = s.owalk[i].first ∧
            t.owalk[i].walked = [] ∧ t.owalk[otherList i] = s.owalk[otherList i]) ∧
          (s.owalk[i].first = 0 → t.owalk[i].state = .done))) ∧
      (v = 0xA1 → s.owalk[i].state = .stalled →
        t.owalk = s.owalk.set i { s.owalk[i] with state := .running, stall := none, faultOffset := none } ∧
        t.nctl = s.nctl) ∧
      (v = 0xA1 → (s.owalk[i].state = .armed ∨ s.owalk[i].state = .running) → s.changedOnly [] t) ∧
      (v = 0xA2 → (s.owalk[i].state = .running ∨ s.owalk[i].state = .stalled) →
        s.endsList i { s.owalk[i] with
          state := .fault, faultCode := some .aborted, faultOffset := some s.owalk[i].next, stall := none
          walked := [] } t ∧
        (s.nctl.sources[(15 : Fin 16)].capture = true →
          t.nctl.sources[(15 : Fin 16)].request = true ∧ t.nctl.pendingCauses.order = true)) ∧
      (v = 0xA2 → s.owalk[i].state = .armed →
        t.owalk = s.owalk.set i { s.owalk[i] with state := .idle } ∧ t.nctl = s.nctl) ∧
      (v = 0xA2 → (s.owalk[i].state = .idle ∨ s.owalk[i].state = .done ∨ s.owalk[i].state = .fault) →
        s.changedOnly [] t)

/-! ## Bays -/

/-- R1, R10, R13, R21: a change of a bay's input pin starts, stops or restarts its count at that bay and changes
nothing else; a reassertion of presence abandons the loss debounce, and ends a release in OPENED behind a CLOSED
door unopened (R122, R123). -/
def Obligations.InputPinsStartTheirCounts : Prop :=
  ∀ (s : State) (b : Bay),
    (∀ v : Bool, s.pins[b].door ≠ doorReading v →
      ∃ t, exec (.doorInputChange b v) s = .next t ∧ s.changedOnly [.pins, .bays] t ∧
        t.pins = s.pins.set b { s.pins[b] with door := doorReading v } ∧ t.vsense = s.vsense ∧
        t.bmon = s.bmon.set b { s.bmon[b] with
          doorDebounce := if doorReading v = s.bmon[b].door then none else some s.now }) ∧
    (∀ v : Bool, s.pins[b].latch ≠ latchReading v →
      ∃ t, exec (.latchSenseInputChange b v) s = .next t ∧ s.changedOnly [.pins, .bays] t ∧
        t.pins = s.pins.set b { s.pins[b] with latch := latchReading v } ∧ t.vsense = s.vsense ∧
        t.bmon = s.bmon.set b { s.bmon[b] with
          latchDebounce := if latchReading v = s.bmon[b].latch then none else some s.now }) ∧
    (∀ v : Bool, s.pins[b].atFault ≠ v →
      ∃ t, exec (.faultLevelChange b v) s = .next t ∧ s.changedOnly [.pins, .paths] t ∧
        t.pins = s.pins.set b { s.pins[b] with atFault := v } ∧ t.vsense = s.vsense ∧
        ((s.bmon[b].path = .watch ∨ s.bmon[b].path = .joined) →
          t.bmon = s.bmon.set b { s.bmon[b] with faultTimer := if v then some s.now else none }) ∧
        ((s.bmon[b].path = .dark ∨ s.bmon[b].path = .cut) → t.bmon = s.bmon)) ∧
    (∀ v : Bool, s.pins[b].presence ≠ v →
      ∃ t, exec (.presenceInputChange b v) s = .next t ∧
        t.pins = s.pins.set b { s.pins[b] with presence := v } ∧ t.vsense = s.vsense ∧
        t.bmon[b].occupancy = s.bmon[b].occupancy ∧
        t.bmon[b].presenceDebounce =
          (if v = true ↔ s.bmon[b].occupancy = .empty then some s.now else none) ∧
        (v = false ∨ s.bmon[b].occupancy = .empty ∨ s.bmon[b].presenceDebounce = none ∨
            s.bmon[b].door = .opened ∨
            (∀ r : Release, s.cust.releases[b] = some r → r.stage ≠ .opened) →
          s.changedOnly [.pins, .bays] t ∧
          t.bmon = s.bmon.set b { s.bmon[b] with presenceDebounce := t.bmon[b].presenceDebounce }) ∧
        (∀ r : Release, v = true → s.bmon[b].occupancy ≠ .empty → s.bmon[b].presenceDebounce ≠ none →
          s.bmon[b].door = .closed → s.cust.releases[b] = some r → r.stage = .opened →
          t.cust.releases[b] = none ∧
          (∀ (i : Fin 48) (x : CustodyRecord), r.recorded = true → s.cust.slotAt b = some i →
            s.cust.slots[i].record = some x →
            t.cust.slots[i].record = some { x with
              state := .inCart, bay := some b, lastBay := none, holder := none, since := s.minute } ∧
            ∀ k : Fin 48, k ≠ i → t.cust.slots[k] = s.cust.slots[k]) ∧
          (∀ j : Fin 48, r.recorded = true → r.held = some j →
            t.cust.journal = s.cust.journal.set j { s.cust.journal[j] with state := .free }) ∧
          s.otherBays b t ∧
          t.bmon[b].body = { s.bmon[b].body with presenceDebounce := none } ∧
          s.changedOnly (.pins :: .bays :: .custody :: .releases :: .journal :: considerParts) t))

/-- R2, R53: presence held for 50 ms in EMPTY: SETTLING, tag-read attempt 1, negotiation, a pass. -/
def Obligations.AttachStartsTheTagRead : Prop :=
  ∀ (s : State) (b : Bay) (since : Nat), s.bmon[b].occupancy = .empty →
    s.bmon[b].presenceDebounce = some since → since + 50 ≤ s.now →
    ∃ t, exec (.attach b) s = .next t ∧
      t.bmon = s.bmon.set b { s.bmon[b] with
        occupancy := .settling, presenceDebounce := none, tag := none, level := none, path := .dark
        tagRead := some { attempt := 1, since := s.now } } ∧
      t.cctl[b].state = .negotiating ∧ t.cctl[b].demand = 0 ∧ t.cctl[b].negotiation = some s.now ∧
      t.cctl[b].trips = s.cctl[b].trips ∧ s.otherCharges b t ∧ t.settled ∧
      s.changedOnly (.bays :: .paths :: .charge :: passParts) t

/-- R7, R8, R64, R71: a detach: EMPTY with no tag and level; a session on the bay ended and its path DARK; CCTL
OFF; the topped mark clear; no grant; the door, latch and pool kept. R124, R126: in OPENED the release is
completed, the record OUT with the release's holder and CHECKOUT raised; with no release, an OPEN door makes the
record MISSING, and a CLOSED door keeps it. R114, R123: in LATCH_WAIT or WINDOW the release first ends unopened,
and a student deciding on the bay is answered DENY_NOT_READY with EMPTY. R124: a release without a record fills a
FREE entry with the tag that BMON held. -/
def Obligations.DetachEmptiesTheBay : Prop :=
  (∀ (s : State) (b : Bay) (since : Nat), s.queueGood → s.powerGood → s.bmon[b].occupancy ≠ .empty →
    s.bmon[b].presenceDebounce = some since → since + 50 ≤ s.now →
    ∃ t, exec (.detach b) s = .next t ∧
      t.bmon[b].body = { s.bmon[b].body with
        occupancy := .empty, presenceDebounce := none, tag := none, tagRead := none, level := none
        levelAge := none, pollTimer := none, reportWait := none } ∧
      s.otherBays b t ∧ t.bmon[b].joined = none ∧ t.bmon[b].silence = none ∧ t.bmon[b].faultTimer = none ∧
      t.bmon[b].path = .dark ∧
      t.cctl[b] = ChargeBay.reset ∧ s.otherCharges b t ∧
      t.palloc.bays[b].toppedMark = false ∧ t.palloc.bays[b].want = 0 ∧ t.palloc.bays[b].grant = 0 ∧
      t.psched.records[b].state = .none ∧ t.psched.records[b].installed = 0 ∧ b ∉ t.psched.queue ∧
      (s.psched.records[b].state = .active → t.psched.records[b].lastOutcome = some .removed) ∧
      t.cust.releases[b] = none ∧
      s.changedOnly (.choices :: .limits :: .charge :: .bays :: .verdicts :: .reader :: .custody :: .releases ::
        .journal :: .notices :: considerParts) t) ∧
  (∀ (s : State) (b : Bay) (i : Fin 48) (x : CustodyRecord) (since : Nat), s.bmon[b].occupancy ≠ .empty →
    s.bmon[b].presenceDebounce = some since → since + 50 ≤ s.now →
    s.cust.slotAt b = some i → s.cust.slots[i].record = some x →
    ∃ t, exec (.detach b) s = .next t ∧ (∀ j : Fin 48, j ≠ i → t.cust.slots[j] = s.cust.slots[j]) ∧
      (∀ r : Release, s.cust.releases[b] = some r → r.stage = .opened → r.recorded = true →
        t.cust.slots[i].record = some { x with
          state := .out, bay := none, lastBay := some b, holder := r.holder, since := s.minute } ∧
        t.cust.releases[b] = none ∧
        (s.nctl.sources[(8 : Fin 16)].capture = true → t.nctl.sources[(8 : Fin 16)].request = true) ∧
        (∀ j : Fin 48, r.held = some j → s.cust.nextSequence < 4294967295 →
          t.cust.nextSequence = s.cust.nextSequence + 1 ∧
          t.cust.journal = s.cust.journal.set j
            { state := .filled
              kind := some (match r.kind with
                | .student => .checkout
                | .teacher => .checkout
                | .staff => .staffRelease)
              bay := some b, misplaced := some false, sequence := some s.cust.nextSequence
              tag := some x.tag, holder := r.holder, minute := s.minute })) ∧
      (s.cust.releases[b] = none → s.bmon[b].door = .opened →
        t.cust.slots[i].record = some { x with
          state := .missing, bay := none, lastBay := some b, holder := none, since := s.minute } ∧
        t.cust.journal = s.cust.journal) ∧
      (s.cust.releases[b] = none → s.bmon[b].door = .closed →
        t.cust.slots[i] = s.cust.slots[i] ∧ t.cust.journal = s.cust.journal)) ∧
  (∀ (s : State) (b : Bay) (r : Release) (since : Nat), s.bmon[b].occupancy ≠ .empty →
    s.bmon[b].presenceDebounce = some since → since + 50 ≤ s.now → s.cust.releases[b] = some r →
    ∃ t, exec (.detach b) s = .next t ∧ t.cust.releases[b] = none ∧ t.ldrv = s.ldrv ∧
      (r.stage = .latchWait ∨ r.stage = .window →
        (∀ x : Transaction, s.acc.transaction = some x → x.bay = b →
          t.acc.transaction = none ∧ t.out.txd = s.out.txd ++ [⟨0x16, bayByte b, 1⟩]) ∧
        ((∀ x : Transaction, s.acc.transaction = some x → x.bay ≠ b) →
          t.acc.transaction = s.acc.transaction ∧ t.out.txd = s.out.txd) ∧
        (∀ (i : Fin 48) (x : CustodyRecord), r.recorded = true → s.cust.slotAt b = some i →
          s.cust.slots[i].record = some x →
          (∀ k : Fin 48, k ≠ i → t.cust.slots[k] = s.cust.slots[k]) ∧
          (s.bmon[b].door = .closed → t.cust.slots[i].record = some { x with
            state := .inCart, bay := some b, lastBay := none, holder := none, since := s.minute }) ∧
          (s.bmon[b].door = .opened → t.cust.slots[i].record = some { x with
            state := .missing, bay := none, lastBay := some b, holder := none, since := s.minute })) ∧
        (∀ j : Fin 48, r.recorded = true → r.held = some j →
          t.cust.journal = s.cust.journal.set j { s.cust.journal[j] with state := .free }) ∧
        t.cust.nextSequence = s.cust.nextSequence) ∧
      (r.stage = .opened → r.recorded = false → t.cust.slots = s.cust.slots ∧
        t.acc.transaction = s.acc.transaction ∧ t.out.txd = s.out.txd ∧
        s.fillsFree .staffRelease b s.bmon[b].tag r.holder false t ∧
        (s.nctl.sources[(8 : Fin 16)].capture = true → t.nctl.sources[(8 : Fin 16)].request = true)))

/-- R3, R4, R9, R70, R127: a tag frame in an attempt reads its tag. With no other PRESENT bay holding it the bay
enters PRESENT, its path WATCH, the first poll is sent, the provisioning record is cleared, and custody places
the tag (Table 6-8): a new record (ARRIVAL), or CUSTODY_FULL; the return of a record that was OUT or MISSING; the
move of a record that is IN_CART at another bay, whose entry has no holder (log entry 21). Otherwise DUPLICATE.
Either way a record of another tag located at the bay becomes MISSING (R127, R128). -/
def Obligations.TagReadPlacesTheTablet : Prop :=
  ∀ (s : State) (b : Bay) (tag : Tag) (r : TagRead), s.bmon[b].occupancy = .settling →
    s.bmon[b].tagRead = some r → s.now ≤ r.since + 250 → tag ≠ BitVec.allOnes 48 →
    ∃ t, exec (.tagFrame b tag true) s = .next t ∧ s.otherBays b t ∧
      s.changedOnly (.bays :: .custody :: .releases :: .journal :: .notices :: considerParts) t ∧
      t.cust.releases = s.cust.releases ∧
      ((∃ x : Bay, x ≠ b ∧ s.bmon[x].occupancy = .present ∧ s.bmon[x].tag = some tag) →
        t.bmon[b].body = { s.bmon[b].body with occupancy := .duplicate, tag := some tag, tagRead := none } ∧
        t.bmon[b].path = s.bmon[b].path ∧
        t.cust.journal = s.cust.journal ∧ t.cust.nextSequence = s.cust.nextSequence ∧
        (s.nctl.sources[(4 : Fin 16)].capture = true → t.nctl.sources[(4 : Fin 16)].request = true)) ∧
      (∀ (i : Fin 48) (x : CustodyRecord), s.cust.slotAt b = some i → s.cust.slots[i].record = some x →
        x.tag ≠ tag → t.cust.slots[i].record = some { x with
          state := .missing, bay := none, lastBay := some b, holder := none, since := s.minute }) ∧
      ((∀ x : Bay, x ≠ b → s.bmon[x].occupancy = .present → s.bmon[x].tag ≠ some tag) →
        t.bmon[b].body = { s.bmon[b].body with
          occupancy := .present, tag := some tag, tagRead := none, level := none, levelAge := none
          pollTimer := some s.now, reportWait := some s.now } ∧
        t.bmon[b].path = .watch ∧
        t.bmon[b].faultTimer = (if s.pins[b].atFault then some s.now else none) ∧
        t.psched.records[b].state = .none ∧ t.psched.records[b].installed = 0 ∧
        (∀ i : Fin 48, s.cust.slotOf tag = none → s.cust.freeSlot = some i →
          t.cust.slots[i].record = some
            { tag := tag, state := .inCart, bay := some b, lastBay := none, holder := none
              since := s.minute } ∧
          s.fillsFree .arrival b (some tag) none false t) ∧
        (s.cust.slotOf tag = none → s.cust.freeSlot = none →
          t.cust.journal = s.cust.journal ∧ t.cust.nextSequence = s.cust.nextSequence ∧
          (s.nctl.sources[(11 : Fin 16)].capture = true → t.nctl.sources[(11 : Fin 16)].request = true)) ∧
        (∀ (i : Fin 48) (x : CustodyRecord), s.cust.slotOf tag = some i → s.cust.slots[i].record = some x →
          (x.state = .out ∨ x.state = .missing →
            t.cust.slots[i].record = some { x with
              state := .inCart, bay := some b, lastBay := none, holder := none, since := s.minute } ∧
            s.fillsFree .returned b (some tag) x.holder (decide (x.lastBay ≠ none ∧ x.lastBay ≠ some b)) t ∧
            (x.lastBay ≠ none → x.lastBay ≠ some b → s.nctl.sources[(10 : Fin 16)].capture = true →
              t.nctl.sources[(10 : Fin 16)].request = true)) ∧
          (x.state = .inCart → x.bay ≠ some b →
            t.cust.slots[i].record = some { x with
              state := .inCart, bay := some b, lastBay := none, holder := none, since := s.minute } ∧
            s.fillsFree .returned b (some tag) none true t ∧
            (s.nctl.sources[(10 : Fin 16)].capture = true →
              t.nctl.sources[(10 : Fin 16)].request = true)) ∧
          (x.state = .inCart → x.bay = some b →
            t.cust.slots[i] = s.cust.slots[i] ∧ t.cust.journal = s.cust.journal ∧
            t.cust.nextSequence = s.cust.nextSequence)))

/-- R3, R5: an attempt fails on a bad check, on the absent tag or at its 250 ms: the next attempt begins, and
after the third the bay enters ANON, and a record located at it becomes MISSING (R128). -/
def Obligations.FailedTagReadsEndInAnon : Prop :=
  ∀ (s : State) (b : Bay) (r : TagRead) (i : Instr), s.bmon[b].occupancy = .settling →
    s.bmon[b].tagRead = some r →
    ((∃ tag : Tag, i = .tagFrame b tag false ∧ s.now ≤ r.since + 250) ∨
      (∃ ok : Bool, i = .tagFrame b (BitVec.allOnes 48) ok ∧ s.now ≤ r.since + 250) ∨
      (i = .tagReadAttemptExpiry b ∧ r.since + 250 ≤ s.now)) →
    ∃ t, exec i s = .next t ∧
      (r.attempt < 3 → t.bmon = s.bmon.set b { s.bmon[b] with
          tagRead := some { attempt := r.attempt + 1, since := s.now } } ∧ s.changedOnly [.bays] t) ∧
      (3 ≤ r.attempt → s.otherBays b t ∧ t.bmon[b].path = .dark ∧
        t.bmon[b].body = { s.bmon[b].body with
          occupancy := .anon, tag := none, tagRead := none, level := none } ∧
        (∀ (k : Fin 48) (x : CustodyRecord), s.cust.slotAt b = some k → s.cust.slots[k].record = some x →
          t.cust.slots[k].record = some { x with
            state := .missing, bay := none, lastBay := some b, holder := none, since := s.minute } ∧
          ∀ y : Fin 48, y ≠ k → t.cust.slots[y] = s.cust.slots[y]) ∧
        t.cust.journal = s.cust.journal ∧ t.cust.nextSequence = s.cust.nextSequence ∧
        s.changedOnly (.bays :: .custody :: .releases :: .journal :: .notices :: considerParts) t)

/-- R10, R11, R12, R81, R125: a door that opens with no drive and no release window is FORCED: FORCED_OPEN is
raised, a session on the bay ends FORCED, the bay's want, grant and applied power are 0, and a FORCED_OPEN
entry is filled. A release in LATCH_WAIT is first cancelled (R123): its record is IN_CART, its held entry FREE,
and a student deciding on the bay is answered DENY_NOT_READY with FAULT (R114). -/
def Obligations.ForcedOpeningIsReported : Prop :=
  ∀ (s : State) (b : Bay) (since : Nat), s.powerGood → s.queueGood → s.bmon[b].door = .closed →
    s.pins[b].door = .opened → s.bmon[b].doorDebounce = some since → since + 20 ≤ s.now →
    s.ldrv.driving b = false → (∀ r : Release, s.cust.releases[b] = some r → r.stage = .latchWait) →
    ∃ t, exec (.doorEvent b) s = .next t ∧
      t.bmon[b].body = { s.bmon[b].body with
        door := .opened, doorDebounce := none, lastOpen := some .forced } ∧ s.otherBays b t ∧
      t.palloc.bays[b].want = 0 ∧ t.palloc.bays[b].grant = 0 ∧ t.cctl[b].applied = 0 ∧
      (s.nctl.sources[(1 : Fin 16)].capture = true → t.nctl.sources[(1 : Fin 16)].request = true) ∧
      (s.psched.records[b].state = .active →
        t.psched.records[b].state = .none ∧ t.psched.records[b].lastOutcome = some .forced) ∧
      t.cust.releases[b] = none ∧
      (s.cust.releases[b] = none → t.cust.slots = s.cust.slots ∧
        s.fillsFree .forcedOpen b s.bmon[b].tag none false t ∧
        s.changedOnly (.bays :: .journal :: .notices :: considerParts) t) ∧
      (∀ r : Release, s.cust.releases[b] = some r →
        (∀ x : Transaction, s.acc.transaction = some x → x.bay = b →
          t.acc.transaction = none ∧ t.out.txd = s.out.txd ++ [⟨0x16, bayByte b, 4⟩]) ∧
        ((∀ x : Transaction, s.acc.transaction = some x → x.bay ≠ b) →
          t.acc.transaction = s.acc.transaction ∧ t.out.txd = s.out.txd) ∧
        (∀ (i : Fin 48) (x : CustodyRecord), r.recorded = true → s.cust.slotAt b = some i →
          s.cust.slots[i].record = some x →
          t.cust.slots[i].record = some { x with
            state := .inCart, bay := some b, lastBay := none, holder := none, since := s.minute } ∧
          ∀ k : Fin 48, k ≠ i → t.cust.slots[k] = s.cust.slots[k]) ∧
        (∀ j : Fin 48, r.recorded = true → r.held = some j →
          (s.setJournal j { s.cust.journal[j] with state := .free }).fillsFree .forcedOpen b s.bmon[b].tag
            none false t) ∧
        (r.recorded = false → s.fillsFree .forcedOpen b s.bmon[b].tag none false t)) ∧
      s.changedOnly (.bays :: .verdicts :: .reader :: .custody :: .releases :: .journal :: .notices ::
        considerParts) t

/-- R11, R12, R122: a door that opens under a drive or in a release window is RELEASED, and the release in WINDOW
moves to OPENED without a time limit; a door that closes hands its event on, and ends a release in OPENED
unopened, its record back IN_CART, unless the loss debounce runs. R139, R140: the opening ends a HOLD drive of the
bay, without a judgement of the latch, and its slot is offered the queue, with the provisioning queue good as every
step keeps it (`State.queueGood`); a PULSE drive runs on. -/
def Obligations.DoorsOfAReleaseOpenAndClose : Prop :=
  ∀ (s : State) (b : Bay) (since : Nat), s.powerGood → s.bmon[b].doorDebounce = some since →
    since + 20 ≤ s.now →
    (s.bmon[b].door = .closed → s.pins[b].door = .opened →
      (s.ldrv.driving b = true ∨
        ∃ r : Release, s.cust.releases[b] = some r ∧ (r.stage = .window ∨ r.stage = .opened)) →
      ∃ t, exec (.doorEvent b) s = .next t ∧
        t.bmon[b].body = { s.bmon[b].body with
          door := .opened, doorDebounce := none, lastOpen := some .released } ∧ s.otherBays b t ∧
        t.palloc.bays[b].want = 0 ∧ t.palloc.bays[b].grant = 0 ∧ t.cctl[b].applied = 0 ∧
        (∀ r : Release, s.cust.releases[b] = some r → r.stage = .window →
          t.cust.releases[b] = some { r with stage := .opened, window := none }) ∧
        (∀ (k : Slot) (d : Drive), s.ldrv.slots[k] = some d → d.bay = b →
          s.ldrv.slotDrives (1 - k) b = false →
          (d.mode = .hold → s.queueGood →
            (s.setEntry b { s.bmon[b] with door := .opened }).slotFreed k t) ∧
          (d.mode ≠ .hold → t.ldrv = s.ldrv ∧ t.palloc.reserve = s.palloc.reserve)) ∧
        (s.ldrv.driving b = false → t.ldrv = s.ldrv ∧ t.palloc.reserve = s.palloc.reserve) ∧
        s.changedOnly (.choices :: .bays :: .latches :: .limits :: .verdicts :: .reader :: .releases ::
          considerParts) t) ∧
    (s.bmon[b].door = .opened → s.pins[b].door = .closed →
      ∃ t, exec (.doorEvent b) s = .next t ∧
        t.bmon[b].body = { s.bmon[b].body with door := .closed, doorDebounce := none } ∧ s.otherBays b t ∧
        t.settled ∧
        (∀ (r : Release) (i : Fin 48) (x : CustodyRecord), s.cust.releases[b] = some r →
          r.stage = .opened → r.recorded = true → s.bmon[b].presenceDebounce = none →
          s.cust.slotAt b = some i → s.cust.slots[i].record = some x →
          t.cust.releases[b] = none ∧
          t.cust.slots[i].record = some { x with
            state := .inCart, bay := some b, lastBay := none, holder := none, since := s.minute } ∧
          ∀ j : Fin 48, r.held = some j → t.cust.journal[j] = { s.cust.journal[j] with state := .free }) ∧
        ((∀ r : Release, s.cust.releases[b] = some r → r.stage ≠ .opened) →
          s.changedOnly (.choices :: .bays :: considerParts) t) ∧
        s.changedOnly (.choices :: .bays :: .custody :: .releases :: .journal :: .notices :: considerParts) t)

/-- R13, R141: a latch sense reading held for 20 ms; RELEASED during a drive of the bay is recorded in the
drive. R74 to R76, R89: the change is handed to PSCHED, which considers a grant with the new reading: in ATTENDED the
eligible bays from the head of the queue are joined to the IDLE channels in ascending number, in STANDALONE none
(`considers`). -/
def Obligations.LatchSenseChangesAfterItsHold : Prop :=
  ∀ (s : State) (b : Bay) (since : Nat), s.bmon[b].latchDebounce = some since → since + 20 ≤ s.now →
    s.pins[b].latch ≠ s.bmon[b].latch →
    ∃ t, exec (.latchSenseChange b) s = .next t ∧
      t.bmon[b].body = { s.bmon[b].body with latch := s.pins[b].latch, latchDebounce := none } ∧
      s.otherBays b t ∧
      (∀ (k : Slot) (d : Drive), s.ldrv.slots[k] = some d →
        t.ldrv.slots[k] = some { d with
          releasedSeen := d.releasedSeen || decide (d.bay = b ∧ s.pins[b].latch = .released) }) ∧
      t.ldrv.queue = s.ldrv.queue ∧ t.ldrv.reserveHeld = s.ldrv.reserveHeld ∧
      (s.setEntry b { s.bmon[b] with latch := s.pins[b].latch, latchDebounce := none }).considers t ∧
      s.changedOnly (.bays :: .latches :: considerParts) t

/-- R14, R15, R16, R39: polls keep their 30 s period and open a wait of 250 ms; a valid report within it sets
the level and restarts the age; at 90 s without one the level is unknown; a changed level is a level event, with
the topped mark set at 95 and cleared below 90. That a report does not end the wait it came in is the model's
reading (log entry 15). -/
def Obligations.LevelsAreReportedAndGoStale : Prop :=
  ∀ (s : State) (b : Bay),
    (∀ p : Nat, s.bmon[b].occupancy = .present → s.bmon[b].pollTimer = some p → p + 30000 ≤ s.now →
      ∃ t, exec (.levelPoll b) s = .next t ∧ s.changedOnly [.bays] t ∧
        t.bmon = s.bmon.set b { s.bmon[b] with
          pollTimer := some (p + 30000), reportWait := some s.now }) ∧
    (∀ w : Nat, s.bmon[b].reportWait = some w → w + 250 ≤ s.now →
      ∃ t, exec (.levelReportWaitExpiry b) s = .next t ∧ s.changedOnly [.bays] t ∧
        t.bmon = s.bmon.set b { s.bmon[b] with reportWait := none }) ∧
    (∀ (w : Nat) (l : Byte), s.settled → s.bmon[b].occupancy = .present → s.bmon[b].reportWait = some w →
      s.now ≤ w + 250 → l.toNat ≤ 100 →
      ∃ t, exec (.levelReport b l true) s = .next t ∧ s.otherBays b t ∧ t.settled ∧
        t.bmon[b].body = { s.bmon[b].body with level := some l.toNat, levelAge := some s.now } ∧
        (s.bmon[b].level = some l.toNat → s.changedOnly [.bays] t) ∧
        (s.bmon[b].level ≠ some l.toNat →
          t.palloc.bays[b].toppedMark = (decide (95 ≤ l.toNat) ||
            (decide (90 ≤ l.toNat) && s.palloc.bays[b].toppedMark)) ∧
          s.changedOnly (.choices :: .bays :: .limits :: considerParts) t)) ∧
    (∀ (l : Byte) (ok : Bool), s.bmon[b].occupancy ≠ .present ∨ ok = false ∨ 100 < l.toNat ∨
        s.bmon[b].reportWait = none →
      exec (.levelReport b l ok) s = .next s) ∧
    (∀ a : Nat, s.settled → s.bmon[b].levelAge = some a → a + 90000 ≤ s.now →
      ∃ t, exec (.levelStale b) s = .next t ∧ s.otherBays b t ∧ t.settled ∧
        t.bmon[b].body = { s.bmon[b].body with level := none, levelAge := none } ∧
        (s.bmon[b].level ≠ none → t.palloc.bays[b].toppedMark = false) ∧
        s.changedOnly (.choices :: .bays :: .limits :: considerParts) t)

/-- R20, R77, R78: activity restarts the silence timer of a JOINED path, also while the pair is at the fault level
(the model's choice, log entry 26); at its limit the session of the bay's
channel ends STALLED; at a channel's session limit its session ends EXPIRED. -/
def Obligations.SilentAndLongSessionsEnd : Prop :=
  ∀ (s : State) (b : Bay) (c : Chan) (x : Session), s.queueGood → s.psched.channels[c].session = some x →
    x.bay = b →
    (∀ y : SilenceTimer, s.bmon[b].path = .joined → s.bmon[b].silence = some y →
      ∃ t, exec (.lineActivity b) s = .next t ∧ s.changedOnly [.paths] t ∧
        t.bmon = s.bmon.set b { s.bmon[b] with silence := some { y with since := s.now } }) ∧
    (∀ y : SilenceTimer, s.bmon[b].path = .joined → s.bmon[b].joined = some c →
      s.bmon[b].silence = some y → y.since + 1000 * y.limit ≤ s.now →
      ∃ t, exec (.silenceEvent b) s = .next t ∧ t.psched.records[b].lastOutcome = some .stalled ∧
        t.psched.records[b].attempts = s.psched.records[b].attempts + 1 ∧
        (s.nctl.sources[(12 : Fin 16)].capture = true → t.nctl.sources[(12 : Fin 16)].request = true) ∧
        s.changedOnly (.notices :: considerParts) t) ∧
    (x.since + 60000 * x.sessionLimit ≤ s.now →
      ∃ t, exec (.sessionTimerExpiry c) s = .next t ∧ t.psched.records[b].lastOutcome = some .expired ∧
        t.psched.records[b].attempts = s.psched.records[b].attempts + 1 ∧
        t.psched.records[b].wanted = s.psched.records[b].wanted ∧
        (2 ≤ s.psched.records[b].attempts → t.psched.records[b].state = .failed ∧
          t.bmon[b].path ≠ .joined ∧ t.bmon[b].joined = none ∧
          (s.nctl.sources[(13 : Fin 16)].capture = true → t.nctl.sources[(13 : Fin 16)].request = true)) ∧
        (s.psched.records[b].attempts < 2 →
          t.psched.records[b].state = .waiting ∨ t.psched.records[b].state = .active) ∧
        (s.nctl.sources[(12 : Fin 16)].capture = true → t.nctl.sources[(12 : Fin 16)].request = true) ∧
        s.changedOnly (.notices :: considerParts) t)

/-- R21, R81: 800 ms at the fault level in WATCH or JOINED cuts the path, raises BAY_FAULT, and ends the session
of a JOINED path LINK_FAULT. -/
def Obligations.FaultLevelCutsThePath : Prop :=
  ∀ (s : State) (b : Bay) (since : Nat), s.bmon[b].faultTimer = some since → since + 800 ≤ s.now →
    (s.bmon[b].path = .watch ∨ s.bmon[b].path = .joined) →
    ∃ t, exec (.faultLevelExpiry b) s = .next t ∧ t.bmon[b].path = .cut ∧ t.bmon[b].faultTimer = none ∧
      (s.nctl.sources[(4 : Fin 16)].capture = true → t.nctl.sources[(4 : Fin 16)].request = true) ∧
      (s.bmon[b].path = .watch → s.changedOnly (.notices :: considerParts) t) ∧
      (∀ (c : Chan) (x : Session), s.bmon[b].path = .joined → s.bmon[b].joined = some c →
        s.psched.channels[c].session = some x → x.bay = b →
        t.bmon[b].joined = none ∧ t.psched.records[b].lastOutcome = some .linkFault ∧
        t.psched.records[b].attempts = s.psched.records[b].attempts + 1) ∧
      s.changedOnly (.notices :: considerParts) t

/-! ## Power -/

/-- R29, R30, R31, R32: the four supply timers follow the input; 40 ms below a threshold is a fall, 2 s above one
a rise by one step; each change is a supply event with SUPPLY and a pass. The input stands in hundredths of a
percent of nominal (log entry 12). -/
def Obligations.SupplyFallsAndRises : Prop :=
  ([SagSelect.pct92, .pct88, .pct84].map SagSelect.threshold = [9200, 8800, 8400] ∧
    [DeepSelect.pct80, .pct75].map DeepSelect.threshold = [8000, 7500]) ∧
  ∀ s : State,
    (∀ v : Nat, ∃ t, exec (.supplyInputCrossing v) s = .next t ∧ t.vsense = v ∧ t.pins = s.pins ∧
      s.changedOnly [.pins, .limits] t ∧ t.palloc.supply = s.palloc.supply ∧
      t.palloc.belowSag = (if v < s.palloc.sagSelect.threshold then
        some (s.palloc.belowSag.getD s.now) else none) ∧
      t.palloc.belowDeep = (if v < s.palloc.deepSelect.threshold then
        some (s.palloc.belowDeep.getD s.now) else none) ∧
      t.palloc.aboveSag = (if s.palloc.sagSelect.threshold ≤ v then
        some (s.palloc.aboveSag.getD s.now) else none) ∧
      t.palloc.aboveDeep = (if s.palloc.deepSelect.threshold ≤ v then
        some (s.palloc.aboveDeep.getD s.now) else none)) ∧
    (∀ (x : SupplyState), (s.palloc.supply = .nominal ∧ due s.palloc.belowSag 40 s.now = true ∧
          x = (if due s.palloc.belowDeep 40 s.now then .deepSag else .sag)) ∨
        (s.palloc.supply = .sag ∧ due s.palloc.belowDeep 40 s.now = true ∧ x = .deepSag) →
      ∃ t, exec .supplyFall s = .next t ∧ t.palloc.supply = x ∧ t.settled ∧
        t.palloc.net = netBudget s.palloc.limit s.palloc.reserve (if x = .sag then 3 else 2)
          s.palloc.supervisionFactor s.palloc.thermalFactor ∧
        t.palloc.aboveSag = (if s.palloc.sagSelect.threshold ≤ s.vsense then some s.now else none) ∧
        t.palloc.aboveDeep = (if s.palloc.deepSelect.threshold ≤ s.vsense then some s.now else none) ∧
        (s.nctl.sources[(7 : Fin 16)].capture = true → t.nctl.sources[(7 : Fin 16)].request = true) ∧
        s.changedOnly (.limits :: .notices :: passParts) t) ∧
    ((s.palloc.supply = .deepSag ∧ due s.palloc.aboveDeep 2000 s.now = true) ∨
        (s.palloc.supply = .sag ∧ due s.palloc.aboveSag 2000 s.now = true) →
      ∃ t, exec .supplyRise s = .next t ∧
        t.palloc.supply = (if s.palloc.supply = .deepSag then .sag else .nominal) ∧ t.settled ∧
        (s.palloc.supply = .deepSag → t.palloc.aboveSag =
          (if s.palloc.sagSelect.threshold ≤ s.vsense then some s.now else none)) ∧
        (s.nctl.sources[(7 : Fin 16)].capture = true → t.nctl.sources[(7 : Fin 16)].request = true) ∧
        s.changedOnly (.limits :: .notices :: passParts) t)

/-- R33, R34, R35: one sample a second. A valid one (from −40 to 125 °C) sets T, halves rounded up, and by
Table 2-4 the thermal state; the third invalid one in a row loses the sensor. A change of state raises THERMAL,
and the grants stay settled. Readings are in thousandths of a degree (log entry 12). -/
def Obligations.ThermalSamplesDecideTheState : Prop :=
  ∀ (s : State) (r : ThermalReading), s.settled → s.palloc.sampleSince + 1000 ≤ s.now →
    ∃ t, exec (.thermalSample r) s = .next t ∧ t.settled ∧
      t.palloc.sampleSince = s.palloc.sampleSince + 1000 ∧
      (∀ m : Int, r = .value m → -40000 ≤ m → m ≤ 125000 →
        t.palloc.temp = some ((m + 500) / 1000) ∧ t.palloc.invalidSamples = 0 ∧
        (m < 35500 → t.palloc.thermal = .normal ∧ t.palloc.thermalFactor = 16) ∧
        (35500 ≤ m → m < 46500 → t.palloc.thermal = .derated) ∧
        (46500 ≤ m → m < 49500 → t.palloc.thermal =
          (if s.palloc.thermal = .hold then .hold else .derated)) ∧
        (49500 ≤ m → t.palloc.thermal = .hold ∧ t.palloc.thermalFactor = 0) ∧
        (t.palloc.thermal = .derated → t.palloc.thermalFactor =
          (if m < 43500 then (51 - (m + 500) / 1000).toNat else 8))) ∧
      ((r = .noAnswer ∨ r = .badCheck ∨ ∃ m : Int, r = .value m ∧ (m < -40000 ∨ 125000 < m)) →
        (s.palloc.invalidSamples < 2 → t.palloc.invalidSamples = s.palloc.invalidSamples + 1 ∧
          t.palloc.temp = s.palloc.temp ∧ t.palloc.thermal = s.palloc.thermal) ∧
        (2 ≤ s.palloc.invalidSamples → t.palloc.invalidSamples = 3 ∧ t.palloc.temp = none ∧
          t.palloc.thermal = .sensorLost ∧ t.palloc.thermalFactor = 8)) ∧
      (t.palloc.thermal = s.palloc.thermal → t.nctl = s.nctl) ∧
      (t.palloc.thermal ≠ s.palloc.thermal → s.nctl.sources[(6 : Fin 16)].capture = true →
        t.nctl.sources[(6 : Fin 16)].request = true) ∧
      (t.palloc.thermalFactor = s.palloc.thermalFactor → s.changedOnly [.limits, .notices, .counts] t) ∧
      s.changedOnly (.limits :: .notices :: passParts) t

/-- R54, R55, R56, R62: how a demand is agreed: an agreement or the 400 ms expiry enters DELIVERING, an
announcement counts in DELIVERING only, 120 qW bounds it, and a cooldown of 30 s ends in a new negotiation. -/
def Obligations.DemandsAreAgreed : Prop :=
  ∀ (s : State) (b : Bay), s.settled →
    (∀ d : Nat, s.cctl[b].state = .negotiating →
      ∃ t, exec (.agreement b d) s = .next t ∧ t.settled ∧ t.cctl[b].state = .delivering ∧
        t.cctl[b].demand = min d 120 ∧ t.cctl[b].negotiation = none ∧ t.cctl[b].trips = s.cctl[b].trips ∧
        s.otherCharges b t ∧ s.changedOnly (.charge :: passParts) t) ∧
    (∀ n : Nat, s.cctl[b].state = .negotiating → s.cctl[b].negotiation = some n → n + 400 ≤ s.now →
      ∃ t, exec (.negotiationExpiry b) s = .next t ∧ t.settled ∧ t.cctl[b].state = .delivering ∧
        t.cctl[b].demand = 20 ∧ t.cctl[b].negotiation = none ∧ t.cctl[b].trips = s.cctl[b].trips ∧
        s.otherCharges b t ∧ s.changedOnly (.charge :: passParts) t) ∧
    (∀ (d : Nat) (i : Instr), i = .agreement b d ∨ i = .demandAnnouncement b d →
      s.cctl[b].state = .delivering →
      ∃ t, exec i s = .next t ∧ t.settled ∧ t.cctl[b].body = { s.cctl[b].body with demand := min d 120 } ∧
        (s.cctl[b].demand = min d 120 → t = s) ∧
        s.otherCharges b t ∧ s.changedOnly (.charge :: passParts) t) ∧
    (∀ d : Nat, s.cctl[b].state ≠ .delivering → exec (.demandAnnouncement b d) s = .next s ∧
      (s.cctl[b].state ≠ .negotiating → exec (.agreement b d) s = .next s)) ∧
    (∀ n : Nat, s.cctl[b].state = .cooldown → s.cctl[b].cooldown = some n → n + 30000 ≤ s.now →
      ∃ t, exec (.cooldownExpiry b) s = .next t ∧ t.settled ∧ t.cctl[b].state = .negotiating ∧
        t.cctl[b].demand = 0 ∧ t.cctl[b].negotiation = some s.now ∧ t.cctl[b].cooldown = none ∧
        t.cctl[b].trips = s.cctl[b].trips ∧
        s.otherCharges b t ∧ s.changedOnly (.charge :: passParts) t)

/-- R58, R59: at each expiry of a bay's ramp timer the smaller of 16 qW and the gap is added to the applied
power, the setpoint code follows as floor(P × 4095 / 120), the timer stops at the grant and else keeps its
phase, and one update of the bay record is made. R60, R61, R63: a comparator sample in DELIVERING with power
applied: low clears the count, high adds 1, and the third high one in a row trips the bay: no power, COOLDOWN
for 30 s or, on the third trip, LOCKED_OUT, with BAY_FAULT and a pass. Samples are 1 ms apart (log entry 13).
R46: when a door OPEN and the third high sample fall together, the trip follows the door's cut and changes no
grant, on the lockout of the third trip where the consideration that follows it grants nothing
(`State.grantsNothing`; log entry 25). After a supply fall or a thermal sample that leaves no power applied, no
sample is taken. -/
def Obligations.RampAndTripOfAppliedPower : Prop :=
  (∀ (s : State) (b : Bay) (p : Nat), s.cctl[b].state = .delivering → s.cctl[b].ramp = some p →
    p + 100 ≤ s.now → s.cctl[b].applied < s.cctl[b].grant → s.cctl[b].grant ≤ 120 →
    ∃ t, exec (.rampStep b) s = .next t ∧
      t.cctl[b].applied = s.cctl[b].applied + min 16 (s.cctl[b].grant - s.cctl[b].applied) ∧
      t.cctl[b].setpoint = t.cctl[b].applied * 4095 / 120 ∧ t.cctl[b].grant = s.cctl[b].grant ∧
      t.cctl[b].ramp = (if t.cctl[b].applied < t.cctl[b].grant then some (p + 100) else none) ∧
      t.cctl[b].highSamples = 0 ∧
      (∀ x : Bay, x ≠ b → t.cctl[x] = s.cctl[x] ∧ t.swm.bayCounts[x] = s.swm.bayCounts[x]) ∧
      t.swm.bayCounts[b] = s.swm.bayCounts[b] + 1 ∧ t.swm.cartCount = s.swm.cartCount ∧
      s.changedOnly [.delivery, .counts] t) ∧
  (∀ (s : State) (b : Bay) (high : Bool), s.cctl[b].state = .delivering → 0 < s.cctl[b].applied →
    (∀ p : Nat, s.cctl[b].lastSample = some p → p + 1 ≤ s.now) →
    ∃ t, exec (.overCurrentSample b high) s = .next t ∧
      (high = false → t.cctl = s.cctl.set b { s.cctl[b] with highSamples := 0, lastSample := some s.now } ∧
        s.changedOnly [.delivery] t) ∧
      (high = true → s.cctl[b].highSamples < 2 →
        t.cctl = s.cctl.set b { s.cctl[b] with
          highSamples := s.cctl[b].highSamples + 1, lastSample := some s.now } ∧
        s.changedOnly [.delivery] t) ∧
      (high = true → 2 ≤ s.cctl[b].highSamples →
        t.cctl[b].applied = 0 ∧ t.cctl[b].setpoint = 0 ∧ t.cctl[b].highSamples = 0 ∧
        t.cctl[b].trips = s.cctl[b].trips + 1 ∧ t.cctl[b].demand = s.cctl[b].demand ∧
        t.cctl[b].state = (if s.cctl[b].trips < 2 then .cooldown else .lockedOut) ∧
        t.cctl[b].cooldown = (if s.cctl[b].trips < 2 then some s.now else none) ∧ s.otherCharges b t ∧
        (s.settled → t.settled ∧ t.palloc.bays[b].want = 0 ∧ t.palloc.bays[b].grant = 0) ∧
        (s.nctl.sources[(4 : Fin 16)].capture = true → t.nctl.sources[(4 : Fin 16)].request = true) ∧
        s.changedOnly (.charge :: .notices :: considerParts) t)) ∧
  (∀ (s : State) (b : Bay) (since : Nat), s.powerGood → s.settled → s.bmon[b].door = .closed →
    s.pins[b].door = .opened → s.bmon[b].doorDebounce = some since → since + 20 ≤ s.now →
    s.cctl[b].state = .delivering → 0 < s.cctl[b].applied → s.cctl[b].highSamples = 2 →
    (∀ p : Nat, s.cctl[b].lastSample = some p → p + 1 ≤ s.now) →
    ∃ t, exec (.doorEvent b) s = .next t ∧ t.cctl[b].applied = 0 ∧ t.cctl[b].state = .delivering ∧
      ∃ u, exec (.overCurrentSample b true) t = .next u ∧ u.cctl[b].applied = 0 ∧
        u.cctl[b].trips = s.cctl[b].trips + 1 ∧
        u.cctl[b].state = (if s.cctl[b].trips < 2 then .cooldown else .lockedOut) ∧
        u.palloc.bays[b].grant = 0 ∧ u.settled ∧
        (s.cctl[b].trips < 2 ∨ t.grantsNothing →
          ∀ x : Bay, x ≠ b → u.palloc.bays[x].grant = t.palloc.bays[x].grant)) ∧
  (∀ (s : State) (b : Bay) (r : ThermalReading) (i : Instr), i = .supplyFall ∨ i = .thermalSample r →
    s.cctl[b].thirdDue ≠ some s.now →
    ∃ t, exec i s = .next t ∧ (t.cctl[b].applied = 0 →
      ∀ high : Bool, exec (.overCurrentSample b high) t = .next t))

/-! ## The reader and the clock -/

/-- R108, R181: a start byte begins a frame, and inside a frame it is content; a gap, a bad type, stop bit or
check ends it without a verdict, and so does a complete frame of another type or with a bad check. A gap of more
than 5 ms cannot end within 5 ms of the start byte, and ten bytes that take more than 50 ms hold one (the bytes
between carry no command, log entry 17). The check byte makes the 8-bit sum of a frame's bytes after the start
byte 0, on RXD and on TXD, and a good frame carries its token. -/
def Obligations.ReaderFramesAreChecked : Prop :=
  (∀ s : State,
    (s.acc.collecting = none →
      (∃ t, exec .startByte s = .next t ∧ t.acc.collecting = some s.now ∧ s.changedOnly [.collecting] t) ∧
      exec .readerByteGap s = .next s ∧ ∀ frame : List Byte, exec (.tokenArrival frame) s = .next s) ∧
    (∀ w : Nat, s.acc.collecting = some w →
      exec .startByte s = .next s ∧ (s.now ≤ w + 5 → exec .readerByteGap s = .next s) ∧
      (w + 5 < s.now →
        ∃ t, exec .readerByteGap s = .next t ∧ t.acc.collecting = none ∧ s.changedOnly [.collecting] t) ∧
      (∀ frame : List Byte, tokenOfFrame frame = none ∨ w + 50 < s.now →
        ∃ t, exec (.tokenArrival frame) s = .next t ∧ t.acc.collecting = none ∧
          s.changedOnly [.collecting] t)) ∧
    (∀ k : FrameFault,
      ∃ t, exec (.frameDiscarded k) s = .next t ∧ t.acc.collecting = none ∧ s.changedOnly [.collecting] t)) ∧
  (∀ t : Token, tokenOfFrame (frameOfToken t) = some t) ∧
  (∀ frame : List Byte, frame.length ≠ 10 ∨ frame.head? ≠ some 0x01 ∨ byteSum frame ≠ 0 →
    tokenOfFrame frame = none) ∧
  (∀ v : VerdictFrame, v.bytes.length = 6 ∧ v.bytes.head? = some 0xA5 ∧ byteSum v.bytes.tail = 0)

/-- R108, R109, R110, R115, R116: the verdicts that end within the arrival, what a technician changes, and a
teacher's group release: the bays are visited in ascending number, each is tested as it stands at its visit and
enqueued if it passes, and GROUP carries the count. -/
def Obligations.TokensGetTheirVerdicts : Prop :=
  ∀ (s : State) (token : Token) (w : Nat), s.acc.collecting = some w → s.now ≤ w + 50 →
    ∃ t, exec (.tokenArrival (frameOfToken token)) s = .next t ∧ t.acc.collecting = none ∧
      (∀ x : Transaction, s.acc.transaction = some x →
        t.out.txd = s.out.txd ++ [⟨0x05, 0, 0⟩] ∧ s.changedOnly [.collecting, .verdicts] t) ∧
      (s.acc.transaction = none → s.lookup token = none →
        t.out.txd = s.out.txd ++ [⟨0x10, 0, 0⟩] ∧ s.changedOnly [.collecting, .verdicts] t) ∧
      (∀ e : CredentialEntry, s.acc.transaction = none → s.lookup token = some e → e.status = 2 →
        t.out.txd = s.out.txd ++ [⟨0x11, 0, 0⟩] ∧ s.changedOnly [.collecting, .verdicts] t) ∧
      (∀ e : CredentialEntry, s.acc.transaction = none → s.lookup token = some e → e.status = 1 →
        (e.role = 1 → s.groupOpen e.group.toNat = false →
          t.out.txd = s.out.txd ++ [⟨0x12, 0, 0⟩] ∧ s.changedOnly [.collecting, .verdicts] t) ∧
        (e.role = 1 → s.groupOpen e.group.toNat = true → s.acc.service = true →
          t.out.txd = s.out.txd ++ [⟨0x13, 0, 0⟩] ∧ s.changedOnly [.collecting, .verdicts] t) ∧
        (e.role = 1 → s.groupOpen e.group.toNat = true → s.acc.service = false →
          (∃ (i : Fin 48) (r : CustodyRecord), s.cust.slots[i].record = some r ∧
            (r.state = .pendingRelease ∨ r.state = .out) ∧ r.holder = some token) →
          t.out.txd = s.out.txd ++ [⟨0x14, 0, 0⟩] ∧ s.changedOnly [.collecting, .verdicts] t) ∧
        (e.role = 1 → s.groupOpen e.group.toNat = true → s.acc.service = false →
          (∀ (i : Fin 48) (r : CustodyRecord), s.cust.slots[i].record = some r →
            (r.state = .pendingRelease ∨ r.state = .out) → r.holder ≠ some token) →
          (∀ j : Fin 48, s.cust.journal[j].state ≠ .free) →
          t.out.txd = s.out.txd ++ [⟨0x15, 0, 0⟩] ∧ s.changedOnly [.collecting, .verdicts] t) ∧
        (e.role = 2 → s.acc.service = true →
          t.out.txd = s.out.txd ++ [⟨0x13, 0, 0⟩] ∧ s.changedOnly [.collecting, .verdicts] t) ∧
        (e.role = 2 → s.acc.service = false → ∃ (u : Nat → State) (n : Nat → Nat),
          s.changedOnly [.collecting] (u 0) ∧ (u 0).acc.collecting = none ∧ n 0 = 0 ∧
          (∀ b : Bay,
            ((u b.val).groupTakes e.group.toNat b →
              (u b.val).groupEnqueues token b (u (b.val + 1)) ∧ n (b.val + 1) = n b.val + 1) ∧
            (¬(u b.val).groupTakes e.group.toNat b →
              u (b.val + 1) = u b.val ∧ n (b.val + 1) = n b.val)) ∧
          (u 36).changedOnly [.verdicts] t ∧ t.acc.transaction = none ∧
          t.out.txd = s.out.txd ++ [⟨0x02, byteOf (n 36), 0⟩]) ∧
        (e.role = 3 → t.acc.service = !s.acc.service ∧ t.acc.activeBank = s.acc.activeBank ∧
          t.acc.activeCount = s.acc.activeCount ∧ t.acc.windows = s.acc.windows ∧
          t.out.txd = s.out.txd ++ [⟨if s.acc.service then 0x04 else 0x03, 0, 0⟩] ∧
          s.changedOnly [.collecting, .verdicts, .access, .counts] t))

/-- R110 to R114, R118, R134 to R138: a student is offered the home bay, or with home bay 0 the bay of the group that
is ready (`readyFor`, R111) with the highest level (the lowest number among equals). A home bay that is not ready is
denied with the reason of the first row of Table 6-2 that holds (`homeReasonIs`). An accepted checkout makes the
record PENDING_RELEASE with the token as holder and holds the lowest FREE journal entry for the bay. When the first
slot, or the second with the reserve in force, takes the request within the event, RELEASE is sent and the release is
in WINDOW; else the request waits and the transaction is DECIDING. With no bay the verdict is DENY_NOT_READY, and with
a full queue DENY_LATCH. -/
def Obligations.StudentChecksOutTheHomeBay : Prop :=
  ∀ (s : State) (token : Token) (e : CredentialEntry) (w : Nat), s.acc.collecting = some w →
    s.now ≤ w + 50 → s.acc.transaction = none → s.lookup token = some e → e.status = 1 → e.role = 1 →
    s.groupOpen e.group.toNat = true → s.acc.service = false → s.cust.holds token none = false →
    ∀ j : Fin 48, s.cust.freeEntry = some j →
    (∀ (b : Bay) (r : Byte), e.homeBay.toNat = b.val + 1 → ¬s.readyFor b token → s.homeReasonIs b token r →
      ∃ t, exec (.tokenArrival (frameOfToken token)) s = .next t ∧
        s.changedOnly [.collecting, .verdicts] t ∧ t.out.txd = s.out.txd ++ [⟨0x16, bayByte b, r⟩]) ∧
    (e.homeBay = 0 →
      (∀ x : Bay, s.bmon[x].pool = some e.group.toNat → ¬s.readyFor x token) →
      ∃ t, exec (.tokenArrival (frameOfToken token)) s = .next t ∧
        s.changedOnly [.collecting, .verdicts] t ∧ t.out.txd = s.out.txd ++ [⟨0x16, 0, 5⟩]) ∧
    (∀ b : Bay, s.readyFor b token →
      (e.homeBay.toNat = b.val + 1 ∨ (e.homeBay = 0 ∧ s.bmon[b].pool = some e.group.toNat ∧
        ∀ (x : Bay) (l m : Nat), s.bmon[x].pool = some e.group.toNat → s.readyFor x token →
          s.bmon[x].level = some l → s.bmon[b].level = some m → l < m ∨ (l = m ∧ b ≤ x))) →
      (s.ldrv.canTake b = false →
        ∃ t, exec (.tokenArrival (frameOfToken token)) s = .next t ∧
          s.changedOnly [.collecting, .verdicts] t ∧ t.out.txd = s.out.txd ++ [⟨0x17, 0, 0⟩]) ∧
      (s.ldrv.canTake b = true →
        ∃ t, exec (.tokenArrival (frameOfToken token)) s = .next t ∧
          (∀ (i : Fin 48) (r : CustodyRecord), s.cust.slotAt b = some i → s.cust.slots[i].record = some r →
            t.cust.slots[i].record = some { r with
              state := .pendingRelease, holder := some token, since := s.minute }) ∧
          t.cust.journal = s.cust.journal.set j (JournalEntry.heldFor b) ∧
          t.cust.nextSequence = s.cust.nextSequence ∧
          (s.queueBlocked → s.requests b t ∧
            (¬s.mustWait b →
              t.out.txd = s.out.txd ++ [⟨0x01, bayByte b, 0⟩] ∧ t.acc.transaction = none ∧
              t.cust.releases[b] = some
                { stage := .window, kind := .student, holder := some token, recorded := true
                  held := some j, window := some s.now }) ∧
            (s.mustWait b →
              t.out.txd = s.out.txd ∧ t.acc.transaction = some { token := token, bay := b } ∧
              t.cust.releases[b] = some
                { stage := .latchWait, kind := .student, holder := some token, recorded := true
                  held := some j, window := none })) ∧
          s.changedOnly (.collecting :: .verdicts :: .reader :: .latches :: .limits :: .custody :: .releases ::
            .journal :: .notices :: considerParts) t))

/-- R100, R105: the clock's second advances each second of the timebase; at 59 it is the change of minute, which
lapses the reservations whose deadline is the minute just left and repeats the reservation test. At second 59
the two commands are one event (log entry 14). -/
def Obligations.ClockAdvancesAndLapses : Prop :=
  ∀ (s : State) (c : CartClock), s.acc.clock = some c → c.since + 1000 ≤ s.now →
    (c.second < 59 →
      ∃ t, exec .clockSecond s = .next t ∧
        t.acc.clock = some { c with second := c.second + 1, since := c.since + 1000 } ∧
        s.changedOnly [.clock, .counts] t ∧ exec .changeOfMinute s = .next s) ∧
    (59 ≤ c.second → ∀ i : Instr, i = .clockSecond ∨ i = .changeOfMinute →
      ∃ t, exec i s = .next t ∧
        t.acc.clock = some
          { minute := if c.minute < 10079 then c.minute + 1 else 0, second := 0
            since := c.since + 1000 } ∧
        (∀ b : Bay, t.acc.reservations[b] =
          (match s.acc.reservations[b] with
            | some r => if r.deadline = c.minute then none else some r
            | none => none)) ∧
        (s.settled → t.settled) ∧ s.changedOnly (.clock :: .reservations :: passParts) t)

/-! ## Latches -/

/-- R114, R123, R137: the 10 s of a release window and the 2 s of a queued request: the release ends unopened,
its record IN_CART and its held entry FREE; a dropped request leaves the queue and a student deciding on the bay
is answered DENY_LATCH_TIMEOUT. -/
def Obligations.UnopenedReleasesRevert : Prop :=
  ∀ (s : State) (b : Bay) (r : Release) (i : Fin 48) (x : CustodyRecord) (j : Fin 48),
    s.cust.releases[b] = some r → r.recorded = true → r.held = some j → s.cust.slotAt b = some i →
    s.cust.slots[i].record = some x →
    (∀ w : Nat, r.stage = .window → r.window = some w → w + 10000 ≤ s.now →
      ∃ t, exec (.releaseWindowExpiry b) s = .next t ∧ t.cust.releases[b] = none ∧
        t.cust.slots[i].record = some { x with
          state := .inCart, bay := some b, lastBay := none, holder := none, since := s.minute } ∧
        t.cust.journal = s.cust.journal.set j { s.cust.journal[j] with state := .free } ∧
        s.changedOnly (.custody :: .releases :: .journal :: .notices :: considerParts) t) ∧
    (∀ q : LatchRequest, r.stage = .latchWait → q ∈ s.ldrv.queue → q.bay = b → q.since + 2000 ≤ s.now →
      ∃ t, exec (.latchWaitExpiry b) s = .next t ∧ t.cust.releases[b] = none ∧
        t.ldrv.queue = s.ldrv.queue.filter (fun y => y.bay != b) ∧ t.ldrv.slots = s.ldrv.slots ∧
        t.cust.slots[i].record = some { x with
          state := .inCart, bay := some b, lastBay := none, holder := none, since := s.minute } ∧
        t.cust.journal = s.cust.journal.set j { s.cust.journal[j] with state := .free } ∧
        (∀ y : Transaction, s.acc.transaction = some y → y.bay = b →
          t.acc.transaction = none ∧ t.out.txd = s.out.txd ++ [⟨0x18, bayByte b, 0⟩]) ∧
        (s.acc.transaction = none → t.out.txd = s.out.txd) ∧
        s.changedOnly (.latches :: .verdicts :: .reader :: .custody :: .releases :: .journal :: .notices ::
          considerParts) t)

/-- R139, R140, R142, R49: a drive ends at its pulse length, or at 3 s in HOLD; the latch is judged: stuck with
LATCH_FAULT when it was never seen RELEASED, else not stuck. The slot goes idle and the queue is offered (R135):
the oldest request whose bay is not driven is taken, a request for an ACTIVE bay is discarded, and the reserve is
given back when the second slot stays idle. What the queue comes to is said with the provisioning queue good as
every step keeps it (`State.queueGood`), since the grants of the drive's end come before the offer. -/
def Obligations.DriveEndsByTime : Prop :=
  ∀ (s : State) (k : Slot) (d : Drive), s.ldrv.slots[k] = some d →
    d.since + (if d.mode = .hold then 3000 else d.pulse) ≤ s.now →
    ∃ t, exec (.driveTimeEnd k) s = .next t ∧
      (∀ b : Bay, t.ldrv.stuck[b] = (if b = d.bay then !d.releasedSeen else s.ldrv.stuck[b])) ∧
      (d.releasedSeen = false → s.nctl.sources[(5 : Fin 16)].capture = true →
        t.nctl.sources[(5 : Fin 16)].request = true) ∧
      (d.releasedSeen = true → t.nctl = s.nctl) ∧
      (s.queueGood → s.slotFreed k t) ∧ (s.ldrv.queue = [] → t.cust.releases = s.cust.releases) ∧
      s.changedOnly (.stuck :: .notices :: .latches :: .limits :: .verdicts :: .reader :: .releases ::
        considerParts) t

/-! ## Supervision -/

/-- R149, R150, R151, R152: the closed phase ends in OPEN; at the maximum the window expires LATE: a first
failure raises HOST_LATE and begins a window in OPEN, a second one enters STANDALONE, where PALLOC's factor is 3
and no channel has a session. R88, Table 4-4: each session has ended HOST_LOST, its bay WAITING at the tail of the
queue in channel order with its attempts kept, with PROV_DONE (`losesSessions`). -/
def Obligations.HeartbeatWindowExpires : Prop :=
  ∀ (s : State) (w : Nat), s.smon.since = some w →
    (s.smon.phase = .closed → w + 100 * s.smon.closedPhase ≤ s.now →
      ∃ t, exec .closedPhaseEnd s = .next t ∧ t.smon = { s.smon with phase := .opened } ∧
        s.changedOnly [.smon, .counts] t) ∧
    (s.smon.phase = .opened → w + 1000 * s.smon.maximum ≤ s.now →
      s.nctl.sources[(2 : Fin 16)].request = false → s.nctl.sources[(2 : Fin 16)].inService = false →
      ∃ t, exec .windowExpiry s = .next t ∧
        t.smon = { s.smon with lastFailure := some .late, phase := .opened, since := some s.now } ∧
        (s.nctl.sources[(2 : Fin 16)].capture = true → t.nctl.sources[(2 : Fin 16)].request = true) ∧
        s.changedOnly [.smon, .counts, .notices] t) ∧
    (s.smon.phase = .opened → w + 1000 * s.smon.maximum ≤ s.now →
      (s.nctl.sources[(2 : Fin 16)].request = true ∨ s.nctl.sources[(2 : Fin 16)].inService = true) →
      ∃ t, exec .windowExpiry s = .next t ∧
        t.smon = { s.smon with
          lastFailure := some .late, mode := .standalone, phase := .stopped, since := none } ∧
        t.psched.mode = .standalone ∧ t.palloc.supervisionFactor = 3 ∧ t.settled ∧
        (∀ c : Chan, t.psched.channels[c].session = none) ∧ s.losesSessions t ∧
        s.changedOnly (.smon :: .choices :: .limits :: .provSettings :: .notices :: considerParts) t)

/-! ## The walker -/

/-- R165, R166, R167: what ends or stalls a walk, and a record the walker refuses: a bad link, a record that is
not POSTED under WAIT and under FAIL, the stall's 500 ms, the 256th record, an unknown kind, a bad length, a record
that ends above 0x37FF, and the link of 0. With the other list ARMED every end starts that list, and one with an
empty chain ends DONE at once (`endsList`; its LIST_DONE: log entry 16). -/
def Obligations.WalksEndAndStall : Prop :=
  ∀ (s : State) (i : ListId) (l : OrderList), s.memGood → s.owalk[i] = l →
    (s.runningList = some i → l.next = 0 →
      ∃ t, exec .linkOf0Followed s = .next t ∧ s.changedOnly [.lists, .notices] t ∧
        s.endsList i { l with state := .done, stall := none, walked := [] } t ∧
        (s.nctl.sources[(14 : Fin 16)].capture = true → t.nctl.sources[(14 : Fin 16)].request = true)) ∧
    (s.runningList = some i → l.next ≠ 0 →
      (l.next.toNat < 0x1800 ∨ 0x37FF < l.next.toNat ∨ l.next.toNat % 16 ≠ 0) →
      ∃ t, exec .recordNotDispatched s = .next t ∧ s.changedOnly [.lists, .notices] t ∧
        s.endsList i { l with
          state := .fault, faultCode := some .badLink, faultOffset := some l.next, stall := none
          walked := [] } t ∧
        (s.nctl.sources[(15 : Fin 16)].capture = true → t.nctl.sources[(15 : Fin 16)].request = true ∧
          t.nctl.pendingCauses.order = true)) ∧
    (∀ off : Nat, l.next.toNat = off → 0x1800 ≤ off → off ≤ 0x37FF → off % 16 = 0 →
      (s.runningList = some i → s.field1 off 0 ≠ 1 → l.policy ≠ 1 →
        ∃ t, exec .recordNotDispatched s = .next t ∧ s.changedOnly [.lists] t ∧
          t.owalk = s.owalk.set i { l with
            state := .stalled, faultOffset := some l.next, stall := some s.now }) ∧
      (s.runningList = some i → s.field1 off 0 ≠ 1 → l.policy = 1 →
        ∃ t, exec .recordNotDispatched s = .next t ∧ s.changedOnly [.lists, .notices] t ∧
          s.endsList i { l with
            state := .fault, faultCode := some .notPosted, faultOffset := some l.next, stall := none
            walked := [] } t) ∧
      (s.runningList = some i → s.field1 off 0 = 1 → l.taken = 255 →
        ∃ t, exec .recordNotDispatched s = .next t ∧ s.changedOnly [.lists, .notices] t ∧
          s.endsList i { l with
            state := .fault, faultCode := some .tooLong, faultOffset := some l.next, stall := none
            walked := [] } t) ∧
      (s.runningList = some i → s.field1 off 0 = 1 → l.taken ≠ 255 →
        ((s.field1 off 2).toNat = 0 ∨ 16 < (s.field1 off 2).toNat →
          ∃ t, exec .recordNotDispatched s = .next t ∧ s.refuses i off 16 .badLength 0 t) ∧
        (1 ≤ (s.field1 off 2).toNat → (s.field1 off 2).toNat ≤ 16 →
          off + 16 * (s.field1 off 2).toNat ≤ 0x3800 → OrderKind.ofCode (s.field1 off 1) = none →
          ∃ t, exec .recordNotDispatched s = .next t ∧
            s.refuses i off (16 * (s.field1 off 2).toNat) .unknownKind 0 t) ∧
        (1 ≤ (s.field1 off 2).toNat → (s.field1 off 2).toNat ≤ 16 →
          0x3800 < off + 16 * (s.field1 off 2).toNat →
          ∃ t, exec .recordNotDispatched s = .next t ∧ s.changedOnly [.lists, .notices] t ∧
            s.endsList i { l with
              state := .fault, faultCode := some .badLink, faultOffset := some l.next, stall := none
              walked := [] } t ∧
            (s.nctl.sources[(15 : Fin 16)].capture = true → t.nctl.sources[(15 : Fin 16)].request = true ∧
              t.nctl.pendingCauses.order = true)) ∧
        (∀ k : OrderKind, 1 ≤ (s.field1 off 2).toNat → (s.field1 off 2).toNat ≤ 16 →
          off + 16 * (s.field1 off 2).toNat ≤ 0x3800 → OrderKind.ofCode (s.field1 off 1) = some k →
          (s.field1 off 2).toNat < k.units (s.field1 off 0x0C).toNat →
          ∃ t, exec .recordNotDispatched s = .next t ∧
            s.refuses i off (16 * (s.field1 off 2).toNat) .badLength (k.units (s.field1 off 0x0C).toNat)
              t))) ∧
    (∀ w : Nat, l.state = .stalled → l.stall = some w → w + 500 ≤ s.now →
      ∃ t, exec (.stallTimerExpiry i) s = .next t ∧ s.changedOnly [.lists, .notices] t ∧
        s.endsList i { l with
          state := .fault, faultCode := some .notPosted, faultOffset := some l.next, stall := none
          walked := [] } t ∧
        (s.nctl.sources[(15 : Fin 16)].capture = true → t.nctl.sources[(15 : Fin 16)].request = true ∧
          t.nctl.pendingCauses.order = true))

/-! ## Orders

Each statement supposes that the walker of a RUNNING list `i` reaches, at `off`, a record of `n` bytes of the
order's kind (`reaches`, R166), with the stored bytes in canonical form. `answers` and `refuses` say what R168
writes: outcome, detail and state into the record, the taken count and the walked set, and no other byte. -/

/-- R29, R50: bad selects refuse SET_LIMITS; otherwise L and the caps are clamped and taken with the selects, the
clamped values named in the detail, the four supply timers restarted by a change of select and kept by none; the
grants stay settled, and an order that changes nothing takes no pass. R87: SET_THRESHOLDS takes both thresholds as 100
above 100 with the detail naming the clamped ones; the grants stay settled, a change of the provisioning minimum
considers a grant (R75, `considers`), and with none no grant is considered. -/
def Obligations.LimitsAndThresholdsAreClamped : Prop :=
  (∀ (s : State) (i : ListId) (off n : Nat), s.memGood → s.settled → s.reaches i .setLimits off n →
    (2 < (s.field1 off 0x1A).toNat →
      ∃ t, exec .setLimits s = .next t ∧ s.refuses i off n .badField 1 t) ∧
    ((s.field1 off 0x1A).toNat ≤ 2 → 1 < (s.field1 off 0x1B).toNat →
      ∃ t, exec .setLimits s = .next t ∧ s.refuses i off n .badField 2 t) ∧
    ((s.field1 off 0x1A).toNat ≤ 2 → (s.field1 off 0x1B).toNat ≤ 1 →
      ∃ t, exec .setLimits s = .next t ∧ t.settled ∧
        t.palloc.limit = max 400 (min 7200 (s.fieldN off 0x0C 2)) ∧
        (∀ h : Shelf, t.palloc.caps[h] = max 40 (min 960 (s.fieldN off (0x0E + 2 * h.val) 2))) ∧
        t.palloc.sagSelect.code = s.field1 off 0x1A ∧ t.palloc.deepSelect.code = s.field1 off 0x1B ∧
        t.palloc.supply = s.palloc.supply ∧ t.palloc.thermal = s.palloc.thermal ∧
        t.palloc.reserve = s.palloc.reserve ∧
        (t.palloc.sagSelect = s.palloc.sagSelect → t.palloc.deepSelect = s.palloc.deepSelect →
          t.palloc.belowSag = s.palloc.belowSag ∧ t.palloc.belowDeep = s.palloc.belowDeep ∧
          t.palloc.aboveSag = s.palloc.aboveSag ∧ t.palloc.aboveDeep = s.palloc.aboveDeep) ∧
        (t.palloc.sagSelect ≠ s.palloc.sagSelect ∨ t.palloc.deepSelect ≠ s.palloc.deepSelect →
          t.palloc.belowSag =
            (if s.vsense < t.palloc.sagSelect.threshold then some s.now else none) ∧
          t.palloc.belowDeep =
            (if s.vsense < t.palloc.deepSelect.threshold then some s.now else none) ∧
          t.palloc.aboveSag =
            (if t.palloc.sagSelect.threshold ≤ s.vsense then some s.now else none) ∧
          t.palloc.aboveDeep =
            (if t.palloc.deepSelect.threshold ≤ s.vsense then some s.now else none)) ∧
        (t.palloc.limit = s.palloc.limit → t.palloc.caps = s.palloc.caps →
          s.changedOnly [.limits, .counts, .stored, .lists] t) ∧
        (∃ d : Nat, s.answers i off n (if d = 0 then .done else .doneClamped) d t ∧ d < 128 ∧
          (d.testBit 0 = true ↔ t.palloc.limit ≠ s.fieldN off 0x0C 2) ∧
          ∀ h : Shelf, d.testBit (h.val + 1) = true ↔
            t.palloc.caps[h] ≠ s.fieldN off (0x0E + 2 * h.val) 2) ∧
        s.changedOnly (.limits :: .stored :: .lists :: passParts) t)) ∧
  (∀ (s : State) (i : ListId) (off n : Nat), s.memGood → s.settled → s.reaches i .setThresholds off n →
    ∃ t, exec .setThresholds s = .next t ∧ t.settled ∧
      t.psched.releaseThreshold = min (s.field1 off 0x0C).toNat 100 ∧
      t.psched.provMinimum = min (s.field1 off 0x0D).toNat 100 ∧ t.psched.mode = s.psched.mode ∧
      s.answers i off n
        (if (s.field1 off 0x0C).toNat ≤ 100 ∧ (s.field1 off 0x0D).toNat ≤ 100 then .done else .doneClamped)
        ((if 100 < (s.field1 off 0x0C).toNat then 1 else 0) +
          (if 100 < (s.field1 off 0x0D).toNat then 2 else 0)) t ∧
      (t.psched.provMinimum = s.psched.provMinimum →
        s.changedOnly (.provSettings :: .stored :: .lists :: passParts) t) ∧
      (t.psched.provMinimum ≠ s.psched.provMinimum →
        (s.withPsched { s.psched with
          releaseThreshold := t.psched.releaseThreshold
          provMinimum := t.psched.provMinimum }).considers t) ∧
      s.changedOnly (.provSettings :: .stored :: .lists :: considerParts) t)

/-- R17: BAY_CONFIG refuses a bad bay and a bad pool group; otherwise it sets the bay's group, with one update of the
bay mirror if the group it shows changes, and no pass. -/
def Obligations.BayConfigSetsThePoolGroup : Prop :=
  ∀ (s : State) (i : ListId) (off n : Nat), s.memGood → s.reaches i .bayConfig off n →
    ((s.field1 off 0x0C).toNat = 0 ∨ 36 < (s.field1 off 0x0C).toNat →
      ∃ t, exec .bayConfig s = .next t ∧ s.refuses i off n .badField 1 t) ∧
    (∀ b : Bay, (s.field1 off 0x0C).toNat = b.val + 1 → 16 ≤ (s.field1 off 0x0D).toNat →
      (s.field1 off 0x0D).toNat ≤ 254 →
      ∃ t, exec .bayConfig s = .next t ∧ s.refuses i off n .badField 2 t) ∧
    (∀ (b : Bay) (g : Option Nat), (s.field1 off 0x0C).toNat = b.val + 1 →
      ((s.field1 off 0x0D).toNat ≤ 15 ∧ g = some (s.field1 off 0x0D).toNat ∨
        (s.field1 off 0x0D).toNat = 255 ∧ g = none) →
      ∃ t, exec .bayConfig s = .next t ∧ s.answers i off n .done 0 t ∧
        t.bmon = s.bmon.set b { s.bmon[b] with pool := g } ∧
        (s.bmon[b].pool = g → s.changedOnly [.stored, .lists] t) ∧
        t.byteAt (0x020C + 0x40 * b.val) = s.field1 off 0x0D ∧
        t.swm.bayCounts = (if s.byteAt (0x020C + 0x40 * b.val) = s.field1 off 0x0D then s.swm.bayCounts
          else s.swm.bayCounts.set b (s.swm.bayCounts[b] + 1)) ∧
        t.swm.cartCount = s.swm.cartCount ∧ t.psched = s.psched ∧
        s.changedOnly [.bays, .counts, .stored, .lists] t)

/-- R103: RESERVE refuses a bad bay and a bad deadline; otherwise it sets or clears the bay's reservation, and an
order that sets what the bay already holds changes nothing. -/
def Obligations.ReserveSetsOrClears : Prop :=
  ∀ (s : State) (i : ListId) (off n : Nat), s.memGood → s.reaches i .reserve off n →
    ((s.field1 off 0x0C).toNat = 0 ∨ 36 < (s.field1 off 0x0C).toNat →
      ∃ t, exec .reserve s = .next t ∧ s.refuses i off n .badField 1 t) ∧
    (∀ b : Bay, (s.field1 off 0x0C).toNat = b.val + 1 → s.fieldN off 0x0E 2 ≠ 65535 →
      10080 ≤ s.fieldN off 0x0E 2 →
      ∃ t, exec .reserve s = .next t ∧ s.refuses i off n .badField 2 t) ∧
    (∀ (b : Bay) (r : Option Reservation), (s.field1 off 0x0C).toNat = b.val + 1 →
      (s.fieldN off 0x0E 2 = 65535 ∧ r = none ∨
        s.fieldN off 0x0E 2 < 10080 ∧ r = some
          { deadline := s.fieldN off 0x0E 2
            token := if s.fieldN off 0x10 8 = 2 ^ 64 - 1 then none
              else some (BitVec.ofNat 64 (s.fieldN off 0x10 8)) }) →
      ∃ t, exec .reserve s = .next t ∧ s.answers i off n .done 0 t ∧
        t.acc.reservations = s.acc.reservations.set b r ∧ (s.settled → t.settled) ∧
        (s.acc.reservations[b] = r → s.changedOnly [.stored, .lists] t) ∧
        s.changedOnly (.reservations :: .stored :: .lists :: passParts) t)

/-- R69, R72, R83, Table 4-5: PROVISION visits the PRESENT bays of the mask. R74 to R76, R89: if it appended a bay,
a grant is considered with the queue as the visits leave it: in ATTENDED the eligible bays from the head are joined to
the IDLE channels in ascending number, in STANDALONE none (`considers`). R69, R84: CANCEL_PROVISION takes the
WAITING and the ACTIVE bays of the mask to NONE, the detail counts them, and other bays of the mask keep their
records. That PROVISION with an empty mask and a limit out of range answers DONE_CLAMPED is the model's choice (log
entry 27). -/
def Obligations.ProvisionAndCancelVisitTheMask : Prop :=
  (∀ (s : State) (i : ListId) (off n : Nat), s.memGood → s.queueGood → s.reaches i .provision off n →
    (2 ^ 36 ≤ s.fieldN off 0x10 5 →
      ∃ t, exec .provision s = .next t ∧ s.refuses i off n .badField 1 t) ∧
    (s.fieldN off 0x10 5 < 2 ^ 36 → s.fieldN off 0x0C 2 = 0 →
      ∃ t, exec .provision s = .next t ∧ s.refuses i off n .badField 2 t) ∧
    (∀ v : Half, s.fieldN off 0x10 5 < 2 ^ 36 → v.toNat = s.fieldN off 0x0C 2 → v ≠ 0 →
      ∃ t, exec .provision s = .next t ∧
        s.answers i off n
          (if 1 ≤ (s.field1 off 0x0E).toNat ∧ (s.field1 off 0x0E).toNat ≤ 240 ∧
              5 ≤ (s.field1 off 0x0F).toNat ∧ (s.field1 off 0x0F).toNat ≤ 120 then .done
            else .doneClamped)
          ((List.finRange 36).countP fun b =>
            (s.fieldN off 0x10 5).testBit b.val && s.bmon[b].occupancy == .present &&
              s.psched.records[b].state != .active && s.psched.records[b].state != .waiting &&
              s.psched.records[b].installed != v) t ∧
        (∀ b : Bay, (s.fieldN off 0x10 5).testBit b.val = true → s.bmon[b].occupancy = .present →
          t.psched.records[b].wanted = v ∧ t.psched.records[b].installed = s.psched.records[b].installed ∧
          t.psched.records[b].sessionLimit = max 1 (min 240 (s.field1 off 0x0E).toNat) ∧
          t.psched.records[b].silenceLimit = max 5 (min 120 (s.field1 off 0x0F).toNat) ∧
          (s.psched.records[b].state = .active → t.psched.records[b].state = .active) ∧
          (s.psched.records[b].state ≠ .active → s.psched.records[b].installed = v →
            t.psched.records[b].state = .current ∧ b ∉ t.psched.queue ∧
            t.psched.records[b].attempts = 0) ∧
          (s.psched.records[b].state ≠ .active → s.psched.records[b].installed ≠ v →
            (t.psched.records[b].state = .waiting ∨ t.psched.records[b].state = .active) ∧
            (s.psched.records[b].state = .waiting →
              t.psched.records[b].attempts = s.psched.records[b].attempts) ∧
            (s.psched.records[b].state ≠ .waiting → t.psched.records[b].attempts = 0))) ∧
        (∀ b : Bay, (s.fieldN off 0x10 5).testBit b.val = false ∨ s.bmon[b].occupancy ≠ .present →
          t.psched.records[b] = s.psched.records[b] ∨
            (s.psched.records[b].state = .waiting ∧
              t.psched.records[b] = { s.psched.records[b] with state := .active })) ∧
        (∃ u : State, s.changedOnly [.prov] u ∧
          (∀ b : Bay, ((s.fieldN off 0x10 5).testBit b.val = true → s.bmon[b].occupancy = .present →
              u.psched.records[b].wanted = v ∧
              u.psched.records[b].sessionLimit = max 1 (min 240 (s.field1 off 0x0E).toNat) ∧
              u.psched.records[b].silenceLimit = max 5 (min 120 (s.field1 off 0x0F).toNat)) ∧
            ((s.fieldN off 0x10 5).testBit b.val = false ∨ s.bmon[b].occupancy ≠ .present →
              u.psched.records[b] = s.psched.records[b])) ∧
          (∀ c : Chan, u.psched.channels[c].lastEnded = s.psched.channels[c].lastEnded ∧
            u.psched.channels[c].session = s.psched.channels[c].session.map fun x =>
              if (s.fieldN off 0x10 5).testBit x.bay.val && s.bmon[x.bay].occupancy == .present then
                { x with wanted := v } else x) ∧
          ∀ added : List Bay,
            (added = (List.finRange 36).filter fun b =>
              (s.fieldN off 0x10 5).testBit b.val && s.bmon[b].occupancy == .present &&
                s.psched.records[b].state != .active && s.psched.records[b].state != .waiting &&
                s.psched.records[b].installed != v) →
            u.psched.queue = (s.psched.queue.filter fun b =>
              !((s.fieldN off 0x10 5).testBit b.val && s.bmon[b].occupancy == .present &&
                s.psched.records[b].installed == v)) ++ added ∧
            (added ≠ [] → u.considers t) ∧
            (added = [] → t.psched.queue = u.psched.queue ∧ t.psched.channels = u.psched.channels ∧
              t.psched.records = u.psched.records)) ∧
        s.changedOnly (.stored :: .lists :: considerParts) t)) ∧
  (∀ (s : State) (i : ListId) (off n : Nat), s.memGood → s.queueGood → s.reaches i .cancelProvision off n →
    (2 ^ 36 ≤ s.fieldN off 0x10 5 →
      ∃ t, exec .cancelProvision s = .next t ∧ s.refuses i off n .badField 1 t) ∧
    (s.fieldN off 0x10 5 < 2 ^ 36 →
      ∃ t, exec .cancelProvision s = .next t ∧
        s.answers i off n .done ((List.finRange 36).countP fun b =>
          (s.fieldN off 0x10 5).testBit b.val &&
            (s.psched.records[b].state == .waiting || s.psched.records[b].state == .active)) t ∧
        (∀ b : Bay, (s.fieldN off 0x10 5).testBit b.val = true →
          (s.psched.records[b].state = .waiting ∨ s.psched.records[b].state = .active →
            t.psched.records[b].state = .none ∧ t.psched.records[b].wanted = 0 ∧
            t.psched.records[b].attempts = 0 ∧ b ∉ t.psched.queue ∧
            (s.psched.records[b].state = .active →
              t.psched.records[b].lastOutcome = some .cancelled)) ∧
          (s.psched.records[b].state ≠ .waiting → s.psched.records[b].state ≠ .active →
            t.psched.records[b] = s.psched.records[b])) ∧
        s.changedOnly (.stored :: .lists :: .notices :: considerParts) t))

/-- R78, R79, R85, R86, Tables 4-4: SESSION_END. Its result stands in the header's detail field. -/
def Obligations.SessionEndIsRuled : Prop :=
  ∀ (s : State) (i : ListId) (off n : Nat), s.memGood → s.queueGood → s.reaches i .sessionEnd off n →
    ((s.field1 off 0x0C).toNat = 0 ∨ 4 < (s.field1 off 0x0C).toNat →
      ∃ t, exec .sessionEnd s = .next t ∧ s.refuses i off n .badField 1 t) ∧
    (∀ c : Chan, (s.field1 off 0x0C).toNat = c.val + 1 →
      ((s.field1 off 0x0D).toNat = 0 ∨ 36 < (s.field1 off 0x0D).toNat →
        ∃ t, exec .sessionEnd s = .next t ∧ s.refuses i off n .badField 2 t) ∧
      (∀ b : Bay, (s.field1 off 0x0D).toNat = b.val + 1 →
        (s.fieldN off 4 2 ≠ 1 → s.fieldN off 4 2 ≠ 2 →
          ∃ t, exec .sessionEnd s = .next t ∧ s.refuses i off n .badField 3 t) ∧
        (s.fieldN off 4 2 = 1 → s.fieldN off 0x0E 2 = 0 →
          ∃ t, exec .sessionEnd s = .next t ∧ s.refuses i off n .badField 4 t) ∧
        (s.fieldN off 4 2 = 1 ∧ s.fieldN off 0x0E 2 ≠ 0 ∨ s.fieldN off 4 2 = 2 →
          (∀ x : Session, s.psched.channels[c].session = some x → x.bay ≠ b →
            ∃ t, exec .sessionEnd s = .next t ∧ s.refuses i off n .mismatch (x.bay.val + 1) t) ∧
          (∀ e : EndedSession, s.psched.channels[c].session = none →
            s.psched.channels[c].lastEnded = some e → e.bay = b →
            (e.outcome = .expired ∨ e.outcome = .stalled ∨ e.outcome = .linkFault ∨
              e.outcome = .removed) →
            ∃ t, exec .sessionEnd s = .next t ∧
              s.refuses i off n .tooLate e.outcome.code.toNat t) ∧
          (s.psched.channels[c].session = none → (∀ e : EndedSession,
              s.psched.channels[c].lastEnded = some e → e.bay ≠ b ∨
                (e.outcome ≠ .expired ∧ e.outcome ≠ .stalled ∧ e.outcome ≠ .linkFault ∧
                  e.outcome ≠ .removed)) →
            ∃ t, exec .sessionEnd s = .next t ∧ s.refuses i off n .mismatch 0 t)) ∧
        (∀ (x : Session) (v : Half), s.psched.channels[c].session = some x → x.bay = b →
          v.toNat = s.fieldN off 0x0E 2 →
          (s.fieldN off 4 2 = 1 → v ≠ 0 →
            ∃ t, exec .sessionEnd s = .next t ∧ s.answers i off n .done 0 t ∧
              t.psched.records[b].lastOutcome = some .success ∧ t.psched.records[b].installed = v ∧
              (v = s.psched.records[b].wanted → t.psched.records[b].state = .current ∧
                t.psched.records[b].attempts = 0) ∧
              (v ≠ s.psched.records[b].wanted → t.psched.records[b].state = .waiting ∨
                t.psched.records[b].state = .active) ∧
              (s.nctl.sources[(12 : Fin 16)].capture = true →
                t.nctl.sources[(12 : Fin 16)].request = true) ∧
              s.changedOnly (.stored :: .lists :: .notices :: considerParts) t) ∧
          (s.fieldN off 4 2 = 2 →
            ∃ t, exec .sessionEnd s = .next t ∧ s.answers i off n .done 0 t ∧
              t.psched.records[b].lastOutcome = some .failedReported ∧
              t.psched.records[b].installed = (if v = 0 then s.psched.records[b].installed else v) ∧
              t.psched.records[b].attempts = s.psched.records[b].attempts + 1 ∧
              (2 ≤ s.psched.records[b].attempts → t.psched.records[b].state = .failed) ∧
              s.changedOnly (.stored :: .lists :: .notices :: considerParts) t))))

/-- R94, R95: COMMIT_CREDENTIALS refuses a bad bank, a count above 480, or the first entry that fails a test;
otherwise the bank is active with the count. R98: COMMIT_WINDOWS refuses a count above 12 or the first bad
entry; otherwise the table becomes the order's entries. -/
def Obligations.CommitsTestEveryEntry : Prop :=
  (∀ (s : State) (i : ListId) (off n : Nat) (ok : Bank → Nat → Prop), s.memGood →
    s.reaches i .commitCredentials off n →
    (∀ (k : Bank) (m : Nat), ok k m ↔
      (credentialAt s.swm.mem k m).token ≠ 2 ^ 64 - 1 ∧
      (m ≠ 0 → (credentialAt s.swm.mem k (m - 1)).token < (credentialAt s.swm.mem k m).token) ∧
      ((credentialAt s.swm.mem k m).role = 1 ∨ (credentialAt s.swm.mem k m).role = 2 ∨
        (credentialAt s.swm.mem k m).role = 3) ∧
      (credentialAt s.swm.mem k m).group.toNat ≤ 15 ∧ (credentialAt s.swm.mem k m).homeBay.toNat ≤ 36 ∧
      ((credentialAt s.swm.mem k m).status = 1 ∨ (credentialAt s.swm.mem k m).status = 2)) →
    (s.field1 off 0x0C ≠ 1 → s.field1 off 0x0C ≠ 2 →
      ∃ t, exec .commitCredentials s = .next t ∧ s.refuses i off n .badField 65534 t) ∧
    (∀ k : Bank, k.code = s.field1 off 0x0C →
      (480 < s.fieldN off 0x0E 2 →
        ∃ t, exec .commitCredentials s = .next t ∧ s.refuses i off n .badField 65535 t) ∧
      (∀ m : Nat, s.fieldN off 0x0E 2 ≤ 480 → m < s.fieldN off 0x0E 2 → (∀ x : Nat, x < m → ok k x) →
        ¬ok k m →
        ∃ t, exec .commitCredentials s = .next t ∧ s.refuses i off n .badField m t) ∧
      (s.fieldN off 0x0E 2 ≤ 480 → (∀ x : Nat, x < s.fieldN off 0x0E 2 → ok k x) →
        ∃ t, exec .commitCredentials s = .next t ∧
          s.answers i off n .done (s.fieldN off 0x0E 2) t ∧ t.acc.activeBank = some k ∧
          t.acc.activeCount = s.fieldN off 0x0E 2 ∧ t.acc.windows = s.acc.windows ∧
          t.acc.service = s.acc.service ∧ s.changedOnly [.access, .counts, .stored, .lists] t))) ∧
  (∀ (s : State) (i : ListId) (off n : Nat) (ok : Nat → Prop), s.memGood →
    s.reaches i .commitWindows off n →
    (∀ k : Nat, ok k ↔ s.field1 off (0x10 + 8 * k) ≠ 0 ∧ (s.field1 off (0x10 + 8 * k)).toNat < 128 ∧
      s.fieldN off (0x12 + 8 * k) 2 ≤ 1439 ∧
      s.fieldN off (0x12 + 8 * k) 2 < s.fieldN off (0x14 + 8 * k) 2 ∧
      s.fieldN off (0x14 + 8 * k) 2 ≤ 1440) →
    (12 < (s.field1 off 0x0C).toNat →
      ∃ t, exec .commitWindows s = .next t ∧ s.refuses i off n .badField 65535 t) ∧
    (∀ k : Nat, (s.field1 off 0x0C).toNat ≤ 12 → k < (s.field1 off 0x0C).toNat →
      (∀ x : Nat, x < k → ok x) → ¬ok k →
      ∃ t, exec .commitWindows s = .next t ∧ s.refuses i off n .badField k t) ∧
    ((s.field1 off 0x0C).toNat ≤ 12 → (∀ x : Nat, x < (s.field1 off 0x0C).toNat → ok x) →
      ∃ t, exec .commitWindows s = .next t ∧ s.answers i off n .done (s.field1 off 0x0C).toNat t ∧
        t.acc.windows.length = (s.field1 off 0x0C).toNat ∧
        (∀ k : Nat, k < (s.field1 off 0x0C).toNat → t.acc.windows[k]? = some
          { days := s.field1 off (0x10 + 8 * k), start := s.fieldN off (0x12 + 8 * k) 2
            stop := s.fieldN off (0x14 + 8 * k) 2
            groups := BitVec.ofNat 16 (s.fieldN off (0x16 + 8 * k) 2) }) ∧
        t.acc.activeBank = s.acc.activeBank ∧ t.acc.activeCount = s.acc.activeCount ∧
        t.acc.service = s.acc.service ∧ s.changedOnly [.access, .counts, .stored, .lists] t))

/-- R101: SET_CLOCK refuses a bad minute and a bad second; otherwise the clock and the cart page show the order's
time, and PALLOC repeats its reservation test. The timebase phase restarts: no change of minute and no advance of
the second falls before 1 s has passed (log entries 1 and 2), and the next advance falls 1 s after the order. -/
def Obligations.SetClockSetsAndRestarts : Prop :=
  ∀ (s : State) (i : ListId) (off n : Nat), s.memGood → s.reaches i .setClock off n →
    (10080 ≤ s.fieldN off 0x0C 2 →
      ∃ t, exec .setClock s = .next t ∧ s.refuses i off n .badField 1 t) ∧
    (s.fieldN off 0x0C 2 < 10080 → 60 ≤ (s.field1 off 0x0E).toNat →
      ∃ t, exec .setClock s = .next t ∧ s.refuses i off n .badField 2 t) ∧
    (s.fieldN off 0x0C 2 < 10080 → (s.field1 off 0x0E).toNat < 60 →
      ∃ t, exec .setClock s = .next t ∧ s.answers i off n .done 0 t ∧
        t.acc.clock = some
          { minute := s.fieldN off 0x0C 2, second := (s.field1 off 0x0E).toNat, since := s.now } ∧
        256 * (t.byteAt 0x31).toNat + (t.byteAt 0x30).toNat = s.fieldN off 0x0C 2 ∧
        t.byteAt 0x32 = s.field1 off 0x0E ∧ (s.settled → t.settled) ∧
        (∀ m : Nat, m < 1000 → exec .clockSecond (t.withNow (s.now + m)) = .next (t.withNow (s.now + m)) ∧
          exec .changeOfMinute (t.withNow (s.now + m)) = .next (t.withNow (s.now + m))) ∧
        (∃ u, exec .clockSecond (t.withNow (s.now + 1000)) = .next u ∧
          ((s.field1 off 0x0E).toNat < 59 → u.acc.clock = some
            { minute := s.fieldN off 0x0C 2, second := (s.field1 off 0x0E).toNat + 1
              since := s.now + 1000 }) ∧
          ((s.field1 off 0x0E).toNat = 59 → u.acc.clock = some
            { minute := (s.fieldN off 0x0C 2 + 1) % 10080, second := 0, since := s.now + 1000 })) ∧
        s.changedOnly (.clock :: .stored :: .lists :: passParts) t)

/-- R129, R113, R118, R134: RELEASE_BAY refuses at its first failing check; otherwise it opens a STAFF release,
with the record PENDING_RELEASE and the lowest FREE entry held when a record is located at the bay, after the
abort of a session that the force flag overrides, and asks LDRV for a drive (R134 to R136). -/
def Obligations.ReleaseBayOpensAStaffRelease : Prop :=
  ∀ (s : State) (i : ListId) (off n : Nat), s.memGood → s.queueGood → s.reaches i .releaseBay off n →
    ((s.field1 off 0x0C).toNat = 0 ∨ 36 < (s.field1 off 0x0C).toNat →
      ∃ t, exec .releaseBay s = .next t ∧ s.refuses i off n .badField 1 t) ∧
    (∀ b : Bay, (s.field1 off 0x0C).toNat = b.val + 1 →
      (s.bmon[b].occupancy = .empty ∨ s.bmon[b].occupancy = .settling →
        ∃ t, exec .releaseBay s = .next t ∧ s.refuses i off n .badState 0 t) ∧
      ((s.bmon[b].occupancy = .present ∨ s.bmon[b].occupancy = .anon ∨
          s.bmon[b].occupancy = .duplicate) →
        (∀ r : Release, s.cust.releases[b] = some r →
          ∃ t, exec .releaseBay s = .next t ∧ s.refuses i off n .busy 1 t) ∧
        (s.cust.releases[b] = none →
          (s.psched.records[b].state = .active → s.field1 off 0x0D = 0 →
            ∃ t, exec .releaseBay s = .next t ∧ s.refuses i off n .busy 2 t) ∧
          (s.psched.records[b].state ≠ .active ∨ s.field1 off 0x0D ≠ 0 →
            ((∀ j : Fin 48, s.cust.journal[j].state ≠ .free) →
              ∃ t, exec .releaseBay s = .next t ∧ s.refuses i off n .full 0 t) ∧
            (∀ j : Fin 48, s.cust.freeEntry = some j →
              (s.ldrv.canTake b = false →
                ∃ t, exec .releaseBay s = .next t ∧ s.refuses i off n .busy 3 t) ∧
              (s.ldrv.canTake b = true → s.holderBusy b (s.fieldToken off 0x10) = true →
                ∃ t, exec .releaseBay s = .next t ∧ s.refuses i off n .busy 4 t) ∧
              (s.ldrv.canTake b = true → s.holderBusy b (s.fieldToken off 0x10) = false →
                ∃ t, exec .releaseBay s = .next t ∧ s.answers i off n .done 0 t ∧
                  (∃ r : Release, t.cust.releases[b] = some r ∧ r.kind = .staff ∧
                    r.holder = s.fieldToken off 0x10 ∧ (r.recorded = true ↔ (s.cust.slotAt b).isSome) ∧
                    r.held = (if (s.cust.slotAt b).isSome then some j else none)) ∧
                  (∀ (k : Fin 48) (x : CustodyRecord), s.cust.slotAt b = some k →
                    s.cust.slots[k].record = some x →
                    t.cust.slots[k].record = some { x with
                      state := .pendingRelease, holder := s.fieldToken off 0x10, since := s.minute } ∧
                    t.cust.journal = s.cust.journal.set j (JournalEntry.heldFor b)) ∧
                  (s.cust.slotAt b = none →
                    t.cust.journal = s.cust.journal ∧ t.cust.slots = s.cust.slots) ∧
                  (s.queueBlocked → s.requests b t) ∧
                  (s.psched.records[b].state = .active → t.psched.records[b].state = .none ∧
                    t.psched.records[b].lastOutcome = some .aborted) ∧
                  s.changedOnly (.stored :: .lists :: .verdicts :: .reader :: .latches :: .limits ::
                    .custody :: .releases :: .journal :: .notices :: considerParts) t))))))

/-- R130: CUSTODY_RESTORE refuses at its first failing check; otherwise the tag's record, or a new one in the
lowest free slot, is OUT with the order's holder. A record already OUT keeps its since (log entry 20). R131:
FORGET_TABLET removes a record that is OUT or MISSING, and its slot reads as free. -/
def Obligations.CustodyOrdersSetAndFreeSlots : Prop :=
  (∀ (s : State) (i : ListId) (off n : Nat), s.memGood → s.reaches i .custodyRestore off n →
    (s.fieldTag off 0x10 = BitVec.allOnes 48 →
      ∃ t, exec .custodyRestore s = .next t ∧ s.refuses i off n .badField 1 t) ∧
    (s.fieldTag off 0x10 ≠ BitVec.allOnes 48 →
      ((∃ (k : Fin 48) (x : CustodyRecord), s.cust.slotOf (s.fieldTag off 0x10) = some k ∧
          s.cust.slots[k].record = some x ∧ (x.state = .inCart ∨ x.state = .pendingRelease)) ∨
        (∃ b : Bay, (s.bmon[b].occupancy = .present ∨ s.bmon[b].occupancy = .duplicate) ∧
          s.bmon[b].tag = some (s.fieldTag off 0x10)) →
        ∃ t, exec .custodyRestore s = .next t ∧ s.refuses i off n .busy 1 t) ∧
      (s.restoreBusy (s.fieldTag off 0x10) = false →
        s.restoreHolderBusy (s.fieldTag off 0x10) (s.fieldToken off 0x16) = true →
        ∃ t, exec .custodyRestore s = .next t ∧ s.refuses i off n .busy 4 t) ∧
      (s.restoreBusy (s.fieldTag off 0x10) = false →
        s.restoreHolderBusy (s.fieldTag off 0x10) (s.fieldToken off 0x16) = false →
        (s.cust.slotOf (s.fieldTag off 0x10) = none → s.cust.freeSlot = none →
          ∃ t, exec .custodyRestore s = .next t ∧ s.refuses i off n .full 0 t) ∧
        (∀ k : Fin 48, s.cust.slotOf (s.fieldTag off 0x10) = none → s.cust.freeSlot = some k →
          ∃ t, exec .custodyRestore s = .next t ∧ s.answers i off n .done 0 t ∧
            t.cust.slots[k].record = some
              { tag := s.fieldTag off 0x10, state := .out, bay := none, lastBay := none
                holder := s.fieldToken off 0x16, since := s.minute } ∧
            (∀ j : Fin 48, j ≠ k → t.cust.slots[j] = s.cust.slots[j]) ∧
            s.changedOnly [.custody, .counts, .stored, .lists] t) ∧
        (∀ (k : Fin 48) (x : CustodyRecord), s.cust.slotOf (s.fieldTag off 0x10) = some k →
          s.cust.slots[k].record = some x →
          ∃ t, exec .custodyRestore s = .next t ∧ s.answers i off n .done 0 t ∧
            t.cust.slots[k].record = some { x with
              state := .out, holder := s.fieldToken off 0x16
              since := if x.state = .out then x.since else s.minute } ∧
            (∀ j : Fin 48, j ≠ k → t.cust.slots[j] = s.cust.slots[j]) ∧
            s.changedOnly [.custody, .counts, .stored, .lists] t)))) ∧
  (∀ (s : State) (i : ListId) (off n : Nat), s.memGood → s.reaches i .forgetTablet off n →
    (s.fieldTag off 0x10 = BitVec.allOnes 48 →
      ∃ t, exec .forgetTablet s = .next t ∧ s.refuses i off n .badField 1 t) ∧
    (s.fieldTag off 0x10 ≠ BitVec.allOnes 48 → s.cust.slotOf (s.fieldTag off 0x10) = none →
      ∃ t, exec .forgetTablet s = .next t ∧ s.refuses i off n .notFound 0 t) ∧
    (∀ (k : Fin 48) (x : CustodyRecord), s.fieldTag off 0x10 ≠ BitVec.allOnes 48 →
      s.cust.slotOf (s.fieldTag off 0x10) = some k → s.cust.slots[k].record = some x →
      (x.state = .inCart ∨ x.state = .pendingRelease →
        ∃ t, exec .forgetTablet s = .next t ∧ s.refuses i off n .busy 1 t) ∧
      (x.state = .out ∨ x.state = .missing →
        ∃ t, exec .forgetTablet s = .next t ∧ s.answers i off n .done 0 t ∧
          t.cust.slots[k].record = none ∧ (∀ j : Fin 48, j ≠ k → t.cust.slots[j] = s.cust.slots[j]) ∧
          (∀ a : Nat, 0x0B01 + 0x20 * k.val ≤ a → a ≤ 0x0B13 + 0x20 * k.val → t.byteAt a = 0xFF) ∧
          s.changedOnly [.custody, .counts, .stored, .lists] t)))

/-- R143: SET_LATCH_MODE: the pulse length of PULSE is brought into 100 to 1000 in steps of 10, HOLD keeps it,
and OFF drops every queued request, ends every drive and gives the reserve back. -/
def Obligations.SetLatchModeSetsOrStops : Prop :=
  ∀ (s : State) (i : ListId) (off n : Nat), s.memGood → s.reaches i .setLatchMode off n →
    (2 < (s.field1 off 0x0C).toNat →
      ∃ t, exec .setLatchMode s = .next t ∧ s.refuses i off n .badField 1 t) ∧
    (∀ p : Nat, p = max 100 (min 1000 (s.fieldN off 0x0E 2)) / 10 * 10 → s.field1 off 0x0C = 0 →
      ∃ t, exec .setLatchMode s = .next t ∧ t.ldrv = { s.ldrv with mode := .pulse, pulse := p } ∧
        s.answers i off n (if p = s.fieldN off 0x0E 2 then .done else .doneClamped) 0 t ∧
        s.changedOnly [.latchMode, .counts, .stored, .lists] t) ∧
    (s.field1 off 0x0C = 1 →
      ∃ t, exec .setLatchMode s = .next t ∧ t.ldrv = { s.ldrv with mode := .hold } ∧
        s.answers i off n .done 0 t ∧ s.changedOnly [.latchMode, .counts, .stored, .lists] t) ∧
    (s.field1 off 0x0C = 2 →
      ∃ t, exec .setLatchMode s = .next t ∧ t.ldrv.mode = .off ∧ t.ldrv.pulse = s.ldrv.pulse ∧
        t.ldrv.queue = [] ∧ (∀ k : Slot, t.ldrv.slots[k] = none) ∧
        (s.ldrv.reserveHeld = true → t.ldrv.reserveHeld = false ∧ t.palloc.reserve = 28) ∧
        (∀ x : Transaction, s.acc.transaction = some x → s.ldrv.queued x.bay = true →
          t.acc.transaction = none ∧ t.out.txd = s.out.txd ++ [⟨0x17, 0, 0⟩]) ∧
        (∀ (q : LatchRequest) (r : Release), q ∈ s.ldrv.queue → s.cust.releases[q.bay] = some r →
          r.stage = .latchWait → t.cust.releases[q.bay] = none) ∧
        s.answers i off n .done s.ldrv.queue.length t ∧
        s.changedOnly (.stored :: .lists :: .choices :: .latchMode :: .latches :: .limits :: .verdicts ::
          .reader :: .custody :: .releases :: .journal :: .notices :: considerParts) t)

/-- R22, R66: CLEAR_FAULT clears a charge lockout into a new negotiation with a trip count of 0, and a CUT path
of a PRESENT bay to WATCH, each named in the detail; with neither it is refused. -/
def Obligations.ClearFaultClears : Prop :=
  ∀ (s : State) (i : ListId) (off n : Nat), s.memGood → s.queueGood → s.reaches i .clearFault off n →
    ((s.field1 off 0x0C).toNat = 0 ∨ 36 < (s.field1 off 0x0C).toNat →
      ∃ t, exec .clearFault s = .next t ∧ s.refuses i off n .badField 0 t) ∧
    (∀ b : Bay, (s.field1 off 0x0C).toNat = b.val + 1 →
      (s.cctl[b].state ≠ .lockedOut → s.bmon[b].path ≠ .cut →
        ∃ t, exec .clearFault s = .next t ∧ s.refuses i off n .badState 0 t) ∧
      (s.cctl[b].state = .lockedOut ∨ s.bmon[b].path = .cut →
        ∃ t, exec .clearFault s = .next t ∧
          s.answers i off n .done ((if s.cctl[b].state = .lockedOut then 1 else 0) +
            (if s.bmon[b].path = .cut then 2 else 0)) t ∧
          (s.cctl[b].state = .lockedOut → t.cctl[b].state = .negotiating ∧ t.cctl[b].trips = 0 ∧
            t.cctl[b].demand = 0 ∧ t.cctl[b].negotiation = some s.now) ∧
          (s.cctl[b].state ≠ .lockedOut → t.cctl[b].body = s.cctl[b].body) ∧
          (s.bmon[b].path = .cut → s.bmon[b].occupancy = .present →
            (t.bmon[b].path = .watch ∨ t.bmon[b].path = .joined) ∧
            t.bmon[b].faultTimer = (if s.pins[b].atFault then some s.now else none)) ∧
          s.otherCharges b t ∧ s.changedOnly (.charge :: .stored :: .lists :: considerParts) t))

/-- R177: SET_NOTICE refuses at the first bad field and otherwise sets level, capture and threshold; capture off
clears the request and source 16's pending causes. -/
def Obligations.SetNoticeConfiguresASource : Prop :=
  ∀ (s : State) (i : ListId) (off n : Nat), s.memGood → s.reaches i .setNotice off n →
    ((s.field1 off 0x0C).toNat = 0 ∨ 16 < (s.field1 off 0x0C).toNat →
      ∃ t, exec .setNotice s = .next t ∧ s.refuses i off n .badField 1 t) ∧
    (∀ k : Fin 16, (s.field1 off 0x0C).toNat = k.val + 1 →
      (7 < (s.field1 off 0x0D).toNat →
        ∃ t, exec .setNotice s = .next t ∧ s.refuses i off n .badField 2 t) ∧
      ((s.field1 off 0x0D).toNat ≤ 7 →
        (1 < (s.field1 off 0x0E).toNat ∨ (s.field1 off 0x0E = 0 ∧ k.val ≤ 1) →
          ∃ t, exec .setNotice s = .next t ∧ s.refuses i off n .badField 3 t) ∧
        (s.field1 off 0x0E = 1 ∨ (s.field1 off 0x0E = 0 ∧ 2 ≤ k.val) →
          (7 < (s.field1 off 0x0F).toNat →
            ∃ t, exec .setNotice s = .next t ∧ s.refuses i off n .badField 4 t) ∧
          ((s.field1 off 0x0F).toNat ≤ 7 →
            ∃ t, exec .setNotice s = .next t ∧ s.answers i off n .done 0 t ∧
              t.nctl.sources = s.nctl.sources.set k { s.nctl.sources[k] with
                level := (s.field1 off 0x0D).toNat, capture := decide (s.field1 off 0x0E = 1)
                request := s.nctl.sources[k].request && decide (s.field1 off 0x0E = 1) } ∧
              t.nctl.threshold = (s.field1 off 0x0F).toNat ∧
              t.nctl.pendingCauses = (if k = 15 ∧ s.field1 off 0x0E = 0 then
                { order := false, guard := false } else s.nctl.pendingCauses) ∧
              t.nctl.serviceCauses = s.nctl.serviceCauses ∧
              s.changedOnly [.notices, .stored, .lists] t))))

/-- R147, R148, R153: SET_SUPERVISION brings the timings into range and acts by the enable and the mode; the
return to ATTENDED considers a grant (R89, `considers`). -/
def Obligations.SetSupervisionActsByMode : Prop :=
  ∀ (s : State) (i : ListId) (off n mx cl : Nat), s.memGood → s.reaches i .setSupervision off n →
    mx = max 1 (min 60 (s.field1 off 0x0E).toNat) →
    cl = min (min 600 (s.fieldN off 0x0C 2)) (10 * mx - 1) →
    (1 < (s.field1 off 0x0F).toNat →
      ∃ t, exec .setSupervision s = .next t ∧ s.refuses i off n .badField 3 t) ∧
    ((s.field1 off 0x0F).toNat ≤ 1 →
      ∃ t, exec .setSupervision s = .next t ∧
        s.answers i off n
          (if mx = (s.field1 off 0x0E).toNat ∧ cl = s.fieldN off 0x0C 2 then .done else .doneClamped)
          ((if mx = (s.field1 off 0x0E).toNat then 0 else 1) +
            (if cl = s.fieldN off 0x0C 2 then 0 else 2)) t ∧
        t.smon.enable = decide (s.field1 off 0x0F = 1) ∧ t.smon.maximum = mx ∧ t.smon.closedPhase = cl ∧
        t.smon.lastFailure = s.smon.lastFailure ∧
        (s.field1 off 0x0F = 1 → s.smon.mode = .attended → t.smon.phase = .opened ∧
          t.smon.since = some s.now ∧ t.smon.mode = .attended ∧
          s.changedOnly [.smon, .counts, .stored, .lists] t) ∧
        (s.field1 off 0x0F = 1 → s.smon.mode = .standalone → t.smon.phase = .stopped ∧
          t.smon.since = none ∧ t.smon.mode = .standalone ∧
          s.changedOnly [.smon, .counts, .stored, .lists] t) ∧
        (s.field1 off 0x0F = 0 → t.smon.phase = .stopped ∧ t.smon.since = none ∧
          t.smon.mode = .attended) ∧
        (s.field1 off 0x0F = 0 → s.smon.mode = .attended →
          s.changedOnly [.smon, .counts, .stored, .lists] t) ∧
        (s.field1 off 0x0F = 0 → s.smon.mode = .standalone → t.palloc.supervisionFactor = 4 ∧
          t.psched.mode = .attended ∧ t.settled ∧
          (s.withPsched { s.psched with mode := .attended }).considers t ∧
          (s.nctl.sources[(3 : Fin 16)].capture = true → t.nctl.sources[(3 : Fin 16)].request = true) ∧
          s.changedOnly (.smon :: .choices :: .limits :: .provSettings :: .notices :: .stored :: .lists ::
            considerParts) t))
end

