-- ==== Sys2Proof/Laws/State.lean ====
section
/-! SUPPORT. One lemma per field per update of the state, so that no proof unfolds a record update. -/

namespace Sys2Proof.Machine

variable (s : State)

@[simp] theorem withPending_pending (x : List Instr) : (s.withPending x).pending = x := rfl
@[simp] theorem withPending_now (x : List Instr) : (s.withPending x).now = s.now := rfl
@[simp] theorem withPending_choices (x : List Instr) : (s.withPending x).choices = s.choices := rfl
@[simp] theorem withPending_pins (x : List Instr) : (s.withPending x).pins = s.pins := rfl
@[simp] theorem withPending_vsense (x : List Instr) : (s.withPending x).vsense = s.vsense := rfl
@[simp] theorem withPending_bmon (x : List Instr) : (s.withPending x).bmon = s.bmon := rfl
@[simp] theorem withPending_palloc (x : List Instr) : (s.withPending x).palloc = s.palloc := rfl
@[simp] theorem withPending_cctl (x : List Instr) : (s.withPending x).cctl = s.cctl := rfl
@[simp] theorem withPending_psched (x : List Instr) : (s.withPending x).psched = s.psched := rfl
@[simp] theorem withPending_acc (x : List Instr) : (s.withPending x).acc = s.acc := rfl
@[simp] theorem withPending_cust (x : List Instr) : (s.withPending x).cust = s.cust := rfl
@[simp] theorem withPending_ldrv (x : List Instr) : (s.withPending x).ldrv = s.ldrv := rfl
@[simp] theorem withPending_smon (x : List Instr) : (s.withPending x).smon = s.smon := rfl
@[simp] theorem withPending_swm (x : List Instr) : (s.withPending x).swm = s.swm := rfl
@[simp] theorem withPending_owalk (x : List Instr) : (s.withPending x).owalk = s.owalk := rfl
@[simp] theorem withPending_nctl (x : List Instr) : (s.withPending x).nctl = s.nctl := rfl
@[simp] theorem withPending_out (x : List Instr) : (s.withPending x).out = s.out := rfl

@[simp] theorem withNow_pending (x : Nat) : (s.withNow x).pending = s.pending := rfl
@[simp] theorem withNow_now (x : Nat) : (s.withNow x).now = x := rfl
@[simp] theorem withNow_choices (x : Nat) : (s.withNow x).choices = s.choices := rfl
@[simp] theorem withNow_pins (x : Nat) : (s.withNow x).pins = s.pins := rfl
@[simp] theorem withNow_vsense (x : Nat) : (s.withNow x).vsense = s.vsense := rfl
@[simp] theorem withNow_bmon (x : Nat) : (s.withNow x).bmon = s.bmon := rfl
@[simp] theorem withNow_palloc (x : Nat) : (s.withNow x).palloc = s.palloc := rfl
@[simp] theorem withNow_cctl (x : Nat) : (s.withNow x).cctl = s.cctl := rfl
@[simp] theorem withNow_psched (x : Nat) : (s.withNow x).psched = s.psched := rfl
@[simp] theorem withNow_acc (x : Nat) : (s.withNow x).acc = s.acc := rfl
@[simp] theorem withNow_cust (x : Nat) : (s.withNow x).cust = s.cust := rfl
@[simp] theorem withNow_ldrv (x : Nat) : (s.withNow x).ldrv = s.ldrv := rfl
@[simp] theorem withNow_smon (x : Nat) : (s.withNow x).smon = s.smon := rfl
@[simp] theorem withNow_swm (x : Nat) : (s.withNow x).swm = s.swm := rfl
@[simp] theorem withNow_owalk (x : Nat) : (s.withNow x).owalk = s.owalk := rfl
@[simp] theorem withNow_nctl (x : Nat) : (s.withNow x).nctl = s.nctl := rfl
@[simp] theorem withNow_out (x : Nat) : (s.withNow x).out = s.out := rfl

@[simp] theorem withChoices_pending (x : Nat) : (s.withChoices x).pending = s.pending := rfl
@[simp] theorem withChoices_now (x : Nat) : (s.withChoices x).now = s.now := rfl
@[simp] theorem withChoices_choices (x : Nat) : (s.withChoices x).choices = x := rfl
@[simp] theorem withChoices_pins (x : Nat) : (s.withChoices x).pins = s.pins := rfl
@[simp] theorem withChoices_vsense (x : Nat) : (s.withChoices x).vsense = s.vsense := rfl
@[simp] theorem withChoices_bmon (x : Nat) : (s.withChoices x).bmon = s.bmon := rfl
@[simp] theorem withChoices_palloc (x : Nat) : (s.withChoices x).palloc = s.palloc := rfl
@[simp] theorem withChoices_cctl (x : Nat) : (s.withChoices x).cctl = s.cctl := rfl
@[simp] theorem withChoices_psched (x : Nat) : (s.withChoices x).psched = s.psched := rfl
@[simp] theorem withChoices_acc (x : Nat) : (s.withChoices x).acc = s.acc := rfl
@[simp] theorem withChoices_cust (x : Nat) : (s.withChoices x).cust = s.cust := rfl
@[simp] theorem withChoices_ldrv (x : Nat) : (s.withChoices x).ldrv = s.ldrv := rfl
@[simp] theorem withChoices_smon (x : Nat) : (s.withChoices x).smon = s.smon := rfl
@[simp] theorem withChoices_swm (x : Nat) : (s.withChoices x).swm = s.swm := rfl
@[simp] theorem withChoices_owalk (x : Nat) : (s.withChoices x).owalk = s.owalk := rfl
@[simp] theorem withChoices_nctl (x : Nat) : (s.withChoices x).nctl = s.nctl := rfl
@[simp] theorem withChoices_out (x : Nat) : (s.withChoices x).out = s.out := rfl

@[simp] theorem withPins_pending (x : Vector BayPins 36) : (s.withPins x).pending = s.pending := rfl
@[simp] theorem withPins_now (x : Vector BayPins 36) : (s.withPins x).now = s.now := rfl
@[simp] theorem withPins_choices (x : Vector BayPins 36) : (s.withPins x).choices = s.choices := rfl
@[simp] theorem withPins_pins (x : Vector BayPins 36) : (s.withPins x).pins = x := rfl
@[simp] theorem withPins_vsense (x : Vector BayPins 36) : (s.withPins x).vsense = s.vsense := rfl
@[simp] theorem withPins_bmon (x : Vector BayPins 36) : (s.withPins x).bmon = s.bmon := rfl
@[simp] theorem withPins_palloc (x : Vector BayPins 36) : (s.withPins x).palloc = s.palloc := rfl
@[simp] theorem withPins_cctl (x : Vector BayPins 36) : (s.withPins x).cctl = s.cctl := rfl
@[simp] theorem withPins_psched (x : Vector BayPins 36) : (s.withPins x).psched = s.psched := rfl
@[simp] theorem withPins_acc (x : Vector BayPins 36) : (s.withPins x).acc = s.acc := rfl
@[simp] theorem withPins_cust (x : Vector BayPins 36) : (s.withPins x).cust = s.cust := rfl
@[simp] theorem withPins_ldrv (x : Vector BayPins 36) : (s.withPins x).ldrv = s.ldrv := rfl
@[simp] theorem withPins_smon (x : Vector BayPins 36) : (s.withPins x).smon = s.smon := rfl
@[simp] theorem withPins_swm (x : Vector BayPins 36) : (s.withPins x).swm = s.swm := rfl
@[simp] theorem withPins_owalk (x : Vector BayPins 36) : (s.withPins x).owalk = s.owalk := rfl
@[simp] theorem withPins_nctl (x : Vector BayPins 36) : (s.withPins x).nctl = s.nctl := rfl
@[simp] theorem withPins_out (x : Vector BayPins 36) : (s.withPins x).out = s.out := rfl

@[simp] theorem withVsense_pending (x : Nat) : (s.withVsense x).pending = s.pending := rfl
@[simp] theorem withVsense_now (x : Nat) : (s.withVsense x).now = s.now := rfl
@[simp] theorem withVsense_choices (x : Nat) : (s.withVsense x).choices = s.choices := rfl
@[simp] theorem withVsense_pins (x : Nat) : (s.withVsense x).pins = s.pins := rfl
@[simp] theorem withVsense_vsense (x : Nat) : (s.withVsense x).vsense = x := rfl
@[simp] theorem withVsense_bmon (x : Nat) : (s.withVsense x).bmon = s.bmon := rfl
@[simp] theorem withVsense_palloc (x : Nat) : (s.withVsense x).palloc = s.palloc := rfl
@[simp] theorem withVsense_cctl (x : Nat) : (s.withVsense x).cctl = s.cctl := rfl
@[simp] theorem withVsense_psched (x : Nat) : (s.withVsense x).psched = s.psched := rfl
@[simp] theorem withVsense_acc (x : Nat) : (s.withVsense x).acc = s.acc := rfl
@[simp] theorem withVsense_cust (x : Nat) : (s.withVsense x).cust = s.cust := rfl
@[simp] theorem withVsense_ldrv (x : Nat) : (s.withVsense x).ldrv = s.ldrv := rfl
@[simp] theorem withVsense_smon (x : Nat) : (s.withVsense x).smon = s.smon := rfl
@[simp] theorem withVsense_swm (x : Nat) : (s.withVsense x).swm = s.swm := rfl
@[simp] theorem withVsense_owalk (x : Nat) : (s.withVsense x).owalk = s.owalk := rfl
@[simp] theorem withVsense_nctl (x : Nat) : (s.withVsense x).nctl = s.nctl := rfl
@[simp] theorem withVsense_out (x : Nat) : (s.withVsense x).out = s.out := rfl

@[simp] theorem withBmon_pending (x : Vector BayEntry 36) : (s.withBmon x).pending = s.pending := rfl
@[simp] theorem withBmon_now (x : Vector BayEntry 36) : (s.withBmon x).now = s.now := rfl
@[simp] theorem withBmon_choices (x : Vector BayEntry 36) : (s.withBmon x).choices = s.choices := rfl
@[simp] theorem withBmon_pins (x : Vector BayEntry 36) : (s.withBmon x).pins = s.pins := rfl
@[simp] theorem withBmon_vsense (x : Vector BayEntry 36) : (s.withBmon x).vsense = s.vsense := rfl
@[simp] theorem withBmon_bmon (x : Vector BayEntry 36) : (s.withBmon x).bmon = x := rfl
@[simp] theorem withBmon_palloc (x : Vector BayEntry 36) : (s.withBmon x).palloc = s.palloc := rfl
@[simp] theorem withBmon_cctl (x : Vector BayEntry 36) : (s.withBmon x).cctl = s.cctl := rfl
@[simp] theorem withBmon_psched (x : Vector BayEntry 36) : (s.withBmon x).psched = s.psched := rfl
@[simp] theorem withBmon_acc (x : Vector BayEntry 36) : (s.withBmon x).acc = s.acc := rfl
@[simp] theorem withBmon_cust (x : Vector BayEntry 36) : (s.withBmon x).cust = s.cust := rfl
@[simp] theorem withBmon_ldrv (x : Vector BayEntry 36) : (s.withBmon x).ldrv = s.ldrv := rfl
@[simp] theorem withBmon_smon (x : Vector BayEntry 36) : (s.withBmon x).smon = s.smon := rfl
@[simp] theorem withBmon_swm (x : Vector BayEntry 36) : (s.withBmon x).swm = s.swm := rfl
@[simp] theorem withBmon_owalk (x : Vector BayEntry 36) : (s.withBmon x).owalk = s.owalk := rfl
@[simp] theorem withBmon_nctl (x : Vector BayEntry 36) : (s.withBmon x).nctl = s.nctl := rfl
@[simp] theorem withBmon_out (x : Vector BayEntry 36) : (s.withBmon x).out = s.out := rfl

@[simp] theorem withPalloc_pending (x : PAlloc) : (s.withPalloc x).pending = s.pending := rfl
@[simp] theorem withPalloc_now (x : PAlloc) : (s.withPalloc x).now = s.now := rfl
@[simp] theorem withPalloc_choices (x : PAlloc) : (s.withPalloc x).choices = s.choices := rfl
@[simp] theorem withPalloc_pins (x : PAlloc) : (s.withPalloc x).pins = s.pins := rfl
@[simp] theorem withPalloc_vsense (x : PAlloc) : (s.withPalloc x).vsense = s.vsense := rfl
@[simp] theorem withPalloc_bmon (x : PAlloc) : (s.withPalloc x).bmon = s.bmon := rfl
@[simp] theorem withPalloc_palloc (x : PAlloc) : (s.withPalloc x).palloc = x := rfl
@[simp] theorem withPalloc_cctl (x : PAlloc) : (s.withPalloc x).cctl = s.cctl := rfl
@[simp] theorem withPalloc_psched (x : PAlloc) : (s.withPalloc x).psched = s.psched := rfl
@[simp] theorem withPalloc_acc (x : PAlloc) : (s.withPalloc x).acc = s.acc := rfl
@[simp] theorem withPalloc_cust (x : PAlloc) : (s.withPalloc x).cust = s.cust := rfl
@[simp] theorem withPalloc_ldrv (x : PAlloc) : (s.withPalloc x).ldrv = s.ldrv := rfl
@[simp] theorem withPalloc_smon (x : PAlloc) : (s.withPalloc x).smon = s.smon := rfl
@[simp] theorem withPalloc_swm (x : PAlloc) : (s.withPalloc x).swm = s.swm := rfl
@[simp] theorem withPalloc_owalk (x : PAlloc) : (s.withPalloc x).owalk = s.owalk := rfl
@[simp] theorem withPalloc_nctl (x : PAlloc) : (s.withPalloc x).nctl = s.nctl := rfl
@[simp] theorem withPalloc_out (x : PAlloc) : (s.withPalloc x).out = s.out := rfl

@[simp] theorem withCctl_pending (x : Vector ChargeBay 36) : (s.withCctl x).pending = s.pending := rfl
@[simp] theorem withCctl_now (x : Vector ChargeBay 36) : (s.withCctl x).now = s.now := rfl
@[simp] theorem withCctl_choices (x : Vector ChargeBay 36) : (s.withCctl x).choices = s.choices := rfl
@[simp] theorem withCctl_pins (x : Vector ChargeBay 36) : (s.withCctl x).pins = s.pins := rfl
@[simp] theorem withCctl_vsense (x : Vector ChargeBay 36) : (s.withCctl x).vsense = s.vsense := rfl
@[simp] theorem withCctl_bmon (x : Vector ChargeBay 36) : (s.withCctl x).bmon = s.bmon := rfl
@[simp] theorem withCctl_palloc (x : Vector ChargeBay 36) : (s.withCctl x).palloc = s.palloc := rfl
@[simp] theorem withCctl_cctl (x : Vector ChargeBay 36) : (s.withCctl x).cctl = x := rfl
@[simp] theorem withCctl_psched (x : Vector ChargeBay 36) : (s.withCctl x).psched = s.psched := rfl
@[simp] theorem withCctl_acc (x : Vector ChargeBay 36) : (s.withCctl x).acc = s.acc := rfl
@[simp] theorem withCctl_cust (x : Vector ChargeBay 36) : (s.withCctl x).cust = s.cust := rfl
@[simp] theorem withCctl_ldrv (x : Vector ChargeBay 36) : (s.withCctl x).ldrv = s.ldrv := rfl
@[simp] theorem withCctl_smon (x : Vector ChargeBay 36) : (s.withCctl x).smon = s.smon := rfl
@[simp] theorem withCctl_swm (x : Vector ChargeBay 36) : (s.withCctl x).swm = s.swm := rfl
@[simp] theorem withCctl_owalk (x : Vector ChargeBay 36) : (s.withCctl x).owalk = s.owalk := rfl
@[simp] theorem withCctl_nctl (x : Vector ChargeBay 36) : (s.withCctl x).nctl = s.nctl := rfl
@[simp] theorem withCctl_out (x : Vector ChargeBay 36) : (s.withCctl x).out = s.out := rfl

@[simp] theorem withPsched_pending (x : PSched) : (s.withPsched x).pending = s.pending := rfl
@[simp] theorem withPsched_now (x : PSched) : (s.withPsched x).now = s.now := rfl
@[simp] theorem withPsched_choices (x : PSched) : (s.withPsched x).choices = s.choices := rfl
@[simp] theorem withPsched_pins (x : PSched) : (s.withPsched x).pins = s.pins := rfl
@[simp] theorem withPsched_vsense (x : PSched) : (s.withPsched x).vsense = s.vsense := rfl
@[simp] theorem withPsched_bmon (x : PSched) : (s.withPsched x).bmon = s.bmon := rfl
@[simp] theorem withPsched_palloc (x : PSched) : (s.withPsched x).palloc = s.palloc := rfl
@[simp] theorem withPsched_cctl (x : PSched) : (s.withPsched x).cctl = s.cctl := rfl
@[simp] theorem withPsched_psched (x : PSched) : (s.withPsched x).psched = x := rfl
@[simp] theorem withPsched_acc (x : PSched) : (s.withPsched x).acc = s.acc := rfl
@[simp] theorem withPsched_cust (x : PSched) : (s.withPsched x).cust = s.cust := rfl
@[simp] theorem withPsched_ldrv (x : PSched) : (s.withPsched x).ldrv = s.ldrv := rfl
@[simp] theorem withPsched_smon (x : PSched) : (s.withPsched x).smon = s.smon := rfl
@[simp] theorem withPsched_swm (x : PSched) : (s.withPsched x).swm = s.swm := rfl
@[simp] theorem withPsched_owalk (x : PSched) : (s.withPsched x).owalk = s.owalk := rfl
@[simp] theorem withPsched_nctl (x : PSched) : (s.withPsched x).nctl = s.nctl := rfl
@[simp] theorem withPsched_out (x : PSched) : (s.withPsched x).out = s.out := rfl

@[simp] theorem withAcc_pending (x : Acc) : (s.withAcc x).pending = s.pending := rfl
@[simp] theorem withAcc_now (x : Acc) : (s.withAcc x).now = s.now := rfl
@[simp] theorem withAcc_choices (x : Acc) : (s.withAcc x).choices = s.choices := rfl
@[simp] theorem withAcc_pins (x : Acc) : (s.withAcc x).pins = s.pins := rfl
@[simp] theorem withAcc_vsense (x : Acc) : (s.withAcc x).vsense = s.vsense := rfl
@[simp] theorem withAcc_bmon (x : Acc) : (s.withAcc x).bmon = s.bmon := rfl
@[simp] theorem withAcc_palloc (x : Acc) : (s.withAcc x).palloc = s.palloc := rfl
@[simp] theorem withAcc_cctl (x : Acc) : (s.withAcc x).cctl = s.cctl := rfl
@[simp] theorem withAcc_psched (x : Acc) : (s.withAcc x).psched = s.psched := rfl
@[simp] theorem withAcc_acc (x : Acc) : (s.withAcc x).acc = x := rfl
@[simp] theorem withAcc_cust (x : Acc) : (s.withAcc x).cust = s.cust := rfl
@[simp] theorem withAcc_ldrv (x : Acc) : (s.withAcc x).ldrv = s.ldrv := rfl
@[simp] theorem withAcc_smon (x : Acc) : (s.withAcc x).smon = s.smon := rfl
@[simp] theorem withAcc_swm (x : Acc) : (s.withAcc x).swm = s.swm := rfl
@[simp] theorem withAcc_owalk (x : Acc) : (s.withAcc x).owalk = s.owalk := rfl
@[simp] theorem withAcc_nctl (x : Acc) : (s.withAcc x).nctl = s.nctl := rfl
@[simp] theorem withAcc_out (x : Acc) : (s.withAcc x).out = s.out := rfl

@[simp] theorem withCust_pending (x : Cust) : (s.withCust x).pending = s.pending := rfl
@[simp] theorem withCust_now (x : Cust) : (s.withCust x).now = s.now := rfl
@[simp] theorem withCust_choices (x : Cust) : (s.withCust x).choices = s.choices := rfl
@[simp] theorem withCust_pins (x : Cust) : (s.withCust x).pins = s.pins := rfl
@[simp] theorem withCust_vsense (x : Cust) : (s.withCust x).vsense = s.vsense := rfl
@[simp] theorem withCust_bmon (x : Cust) : (s.withCust x).bmon = s.bmon := rfl
@[simp] theorem withCust_palloc (x : Cust) : (s.withCust x).palloc = s.palloc := rfl
@[simp] theorem withCust_cctl (x : Cust) : (s.withCust x).cctl = s.cctl := rfl
@[simp] theorem withCust_psched (x : Cust) : (s.withCust x).psched = s.psched := rfl
@[simp] theorem withCust_acc (x : Cust) : (s.withCust x).acc = s.acc := rfl
@[simp] theorem withCust_cust (x : Cust) : (s.withCust x).cust = x := rfl
@[simp] theorem withCust_ldrv (x : Cust) : (s.withCust x).ldrv = s.ldrv := rfl
@[simp] theorem withCust_smon (x : Cust) : (s.withCust x).smon = s.smon := rfl
@[simp] theorem withCust_swm (x : Cust) : (s.withCust x).swm = s.swm := rfl
@[simp] theorem withCust_owalk (x : Cust) : (s.withCust x).owalk = s.owalk := rfl
@[simp] theorem withCust_nctl (x : Cust) : (s.withCust x).nctl = s.nctl := rfl
@[simp] theorem withCust_out (x : Cust) : (s.withCust x).out = s.out := rfl

@[simp] theorem withLdrv_pending (x : Ldrv) : (s.withLdrv x).pending = s.pending := rfl
@[simp] theorem withLdrv_now (x : Ldrv) : (s.withLdrv x).now = s.now := rfl
@[simp] theorem withLdrv_choices (x : Ldrv) : (s.withLdrv x).choices = s.choices := rfl
@[simp] theorem withLdrv_pins (x : Ldrv) : (s.withLdrv x).pins = s.pins := rfl
@[simp] theorem withLdrv_vsense (x : Ldrv) : (s.withLdrv x).vsense = s.vsense := rfl
@[simp] theorem withLdrv_bmon (x : Ldrv) : (s.withLdrv x).bmon = s.bmon := rfl
@[simp] theorem withLdrv_palloc (x : Ldrv) : (s.withLdrv x).palloc = s.palloc := rfl
@[simp] theorem withLdrv_cctl (x : Ldrv) : (s.withLdrv x).cctl = s.cctl := rfl
@[simp] theorem withLdrv_psched (x : Ldrv) : (s.withLdrv x).psched = s.psched := rfl
@[simp] theorem withLdrv_acc (x : Ldrv) : (s.withLdrv x).acc = s.acc := rfl
@[simp] theorem withLdrv_cust (x : Ldrv) : (s.withLdrv x).cust = s.cust := rfl
@[simp] theorem withLdrv_ldrv (x : Ldrv) : (s.withLdrv x).ldrv = x := rfl
@[simp] theorem withLdrv_smon (x : Ldrv) : (s.withLdrv x).smon = s.smon := rfl
@[simp] theorem withLdrv_swm (x : Ldrv) : (s.withLdrv x).swm = s.swm := rfl
@[simp] theorem withLdrv_owalk (x : Ldrv) : (s.withLdrv x).owalk = s.owalk := rfl
@[simp] theorem withLdrv_nctl (x : Ldrv) : (s.withLdrv x).nctl = s.nctl := rfl
@[simp] theorem withLdrv_out (x : Ldrv) : (s.withLdrv x).out = s.out := rfl

@[simp] theorem withSmon_pending (x : Smon) : (s.withSmon x).pending = s.pending := rfl
@[simp] theorem withSmon_now (x : Smon) : (s.withSmon x).now = s.now := rfl
@[simp] theorem withSmon_choices (x : Smon) : (s.withSmon x).choices = s.choices := rfl
@[simp] theorem withSmon_pins (x : Smon) : (s.withSmon x).pins = s.pins := rfl
@[simp] theorem withSmon_vsense (x : Smon) : (s.withSmon x).vsense = s.vsense := rfl
@[simp] theorem withSmon_bmon (x : Smon) : (s.withSmon x).bmon = s.bmon := rfl
@[simp] theorem withSmon_palloc (x : Smon) : (s.withSmon x).palloc = s.palloc := rfl
@[simp] theorem withSmon_cctl (x : Smon) : (s.withSmon x).cctl = s.cctl := rfl
@[simp] theorem withSmon_psched (x : Smon) : (s.withSmon x).psched = s.psched := rfl
@[simp] theorem withSmon_acc (x : Smon) : (s.withSmon x).acc = s.acc := rfl
@[simp] theorem withSmon_cust (x : Smon) : (s.withSmon x).cust = s.cust := rfl
@[simp] theorem withSmon_ldrv (x : Smon) : (s.withSmon x).ldrv = s.ldrv := rfl
@[simp] theorem withSmon_smon (x : Smon) : (s.withSmon x).smon = x := rfl
@[simp] theorem withSmon_swm (x : Smon) : (s.withSmon x).swm = s.swm := rfl
@[simp] theorem withSmon_owalk (x : Smon) : (s.withSmon x).owalk = s.owalk := rfl
@[simp] theorem withSmon_nctl (x : Smon) : (s.withSmon x).nctl = s.nctl := rfl
@[simp] theorem withSmon_out (x : Smon) : (s.withSmon x).out = s.out := rfl

@[simp] theorem withSwm_pending (x : Swm) : (s.withSwm x).pending = s.pending := rfl
@[simp] theorem withSwm_now (x : Swm) : (s.withSwm x).now = s.now := rfl
@[simp] theorem withSwm_choices (x : Swm) : (s.withSwm x).choices = s.choices := rfl
@[simp] theorem withSwm_pins (x : Swm) : (s.withSwm x).pins = s.pins := rfl
@[simp] theorem withSwm_vsense (x : Swm) : (s.withSwm x).vsense = s.vsense := rfl
@[simp] theorem withSwm_bmon (x : Swm) : (s.withSwm x).bmon = s.bmon := rfl
@[simp] theorem withSwm_palloc (x : Swm) : (s.withSwm x).palloc = s.palloc := rfl
@[simp] theorem withSwm_cctl (x : Swm) : (s.withSwm x).cctl = s.cctl := rfl
@[simp] theorem withSwm_psched (x : Swm) : (s.withSwm x).psched = s.psched := rfl
@[simp] theorem withSwm_acc (x : Swm) : (s.withSwm x).acc = s.acc := rfl
@[simp] theorem withSwm_cust (x : Swm) : (s.withSwm x).cust = s.cust := rfl
@[simp] theorem withSwm_ldrv (x : Swm) : (s.withSwm x).ldrv = s.ldrv := rfl
@[simp] theorem withSwm_smon (x : Swm) : (s.withSwm x).smon = s.smon := rfl
@[simp] theorem withSwm_swm (x : Swm) : (s.withSwm x).swm = x := rfl
@[simp] theorem withSwm_owalk (x : Swm) : (s.withSwm x).owalk = s.owalk := rfl
@[simp] theorem withSwm_nctl (x : Swm) : (s.withSwm x).nctl = s.nctl := rfl
@[simp] theorem withSwm_out (x : Swm) : (s.withSwm x).out = s.out := rfl

@[simp] theorem withOwalk_pending (x : Vector OrderList 2) : (s.withOwalk x).pending = s.pending := rfl
@[simp] theorem withOwalk_now (x : Vector OrderList 2) : (s.withOwalk x).now = s.now := rfl
@[simp] theorem withOwalk_choices (x : Vector OrderList 2) : (s.withOwalk x).choices = s.choices := rfl
@[simp] theorem withOwalk_pins (x : Vector OrderList 2) : (s.withOwalk x).pins = s.pins := rfl
@[simp] theorem withOwalk_vsense (x : Vector OrderList 2) : (s.withOwalk x).vsense = s.vsense := rfl
@[simp] theorem withOwalk_bmon (x : Vector OrderList 2) : (s.withOwalk x).bmon = s.bmon := rfl
@[simp] theorem withOwalk_palloc (x : Vector OrderList 2) : (s.withOwalk x).palloc = s.palloc := rfl
@[simp] theorem withOwalk_cctl (x : Vector OrderList 2) : (s.withOwalk x).cctl = s.cctl := rfl
@[simp] theorem withOwalk_psched (x : Vector OrderList 2) : (s.withOwalk x).psched = s.psched := rfl
@[simp] theorem withOwalk_acc (x : Vector OrderList 2) : (s.withOwalk x).acc = s.acc := rfl
@[simp] theorem withOwalk_cust (x : Vector OrderList 2) : (s.withOwalk x).cust = s.cust := rfl
@[simp] theorem withOwalk_ldrv (x : Vector OrderList 2) : (s.withOwalk x).ldrv = s.ldrv := rfl
@[simp] theorem withOwalk_smon (x : Vector OrderList 2) : (s.withOwalk x).smon = s.smon := rfl
@[simp] theorem withOwalk_swm (x : Vector OrderList 2) : (s.withOwalk x).swm = s.swm := rfl
@[simp] theorem withOwalk_owalk (x : Vector OrderList 2) : (s.withOwalk x).owalk = x := rfl
@[simp] theorem withOwalk_nctl (x : Vector OrderList 2) : (s.withOwalk x).nctl = s.nctl := rfl
@[simp] theorem withOwalk_out (x : Vector OrderList 2) : (s.withOwalk x).out = s.out := rfl

@[simp] theorem withNctl_pending (x : Nctl) : (s.withNctl x).pending = s.pending := rfl
@[simp] theorem withNctl_now (x : Nctl) : (s.withNctl x).now = s.now := rfl
@[simp] theorem withNctl_choices (x : Nctl) : (s.withNctl x).choices = s.choices := rfl
@[simp] theorem withNctl_pins (x : Nctl) : (s.withNctl x).pins = s.pins := rfl
@[simp] theorem withNctl_vsense (x : Nctl) : (s.withNctl x).vsense = s.vsense := rfl
@[simp] theorem withNctl_bmon (x : Nctl) : (s.withNctl x).bmon = s.bmon := rfl
@[simp] theorem withNctl_palloc (x : Nctl) : (s.withNctl x).palloc = s.palloc := rfl
@[simp] theorem withNctl_cctl (x : Nctl) : (s.withNctl x).cctl = s.cctl := rfl
@[simp] theorem withNctl_psched (x : Nctl) : (s.withNctl x).psched = s.psched := rfl
@[simp] theorem withNctl_acc (x : Nctl) : (s.withNctl x).acc = s.acc := rfl
@[simp] theorem withNctl_cust (x : Nctl) : (s.withNctl x).cust = s.cust := rfl
@[simp] theorem withNctl_ldrv (x : Nctl) : (s.withNctl x).ldrv = s.ldrv := rfl
@[simp] theorem withNctl_smon (x : Nctl) : (s.withNctl x).smon = s.smon := rfl
@[simp] theorem withNctl_swm (x : Nctl) : (s.withNctl x).swm = s.swm := rfl
@[simp] theorem withNctl_owalk (x : Nctl) : (s.withNctl x).owalk = s.owalk := rfl
@[simp] theorem withNctl_nctl (x : Nctl) : (s.withNctl x).nctl = x := rfl
@[simp] theorem withNctl_out (x : Nctl) : (s.withNctl x).out = s.out := rfl

@[simp] theorem withOut_pending (x : Outputs) : (s.withOut x).pending = s.pending := rfl
@[simp] theorem withOut_now (x : Outputs) : (s.withOut x).now = s.now := rfl
@[simp] theorem withOut_choices (x : Outputs) : (s.withOut x).choices = s.choices := rfl
@[simp] theorem withOut_pins (x : Outputs) : (s.withOut x).pins = s.pins := rfl
@[simp] theorem withOut_vsense (x : Outputs) : (s.withOut x).vsense = s.vsense := rfl
@[simp] theorem withOut_bmon (x : Outputs) : (s.withOut x).bmon = s.bmon := rfl
@[simp] theorem withOut_palloc (x : Outputs) : (s.withOut x).palloc = s.palloc := rfl
@[simp] theorem withOut_cctl (x : Outputs) : (s.withOut x).cctl = s.cctl := rfl
@[simp] theorem withOut_psched (x : Outputs) : (s.withOut x).psched = s.psched := rfl
@[simp] theorem withOut_acc (x : Outputs) : (s.withOut x).acc = s.acc := rfl
@[simp] theorem withOut_cust (x : Outputs) : (s.withOut x).cust = s.cust := rfl
@[simp] theorem withOut_ldrv (x : Outputs) : (s.withOut x).ldrv = s.ldrv := rfl
@[simp] theorem withOut_smon (x : Outputs) : (s.withOut x).smon = s.smon := rfl
@[simp] theorem withOut_swm (x : Outputs) : (s.withOut x).swm = s.swm := rfl
@[simp] theorem withOut_owalk (x : Outputs) : (s.withOut x).owalk = s.owalk := rfl
@[simp] theorem withOut_nctl (x : Outputs) : (s.withOut x).nctl = s.nctl := rfl
@[simp] theorem withOut_out (x : Outputs) : (s.withOut x).out = x := rfl

end Sys2Proof.Machine
end

