-- ==== Sys2Proof/Laws/Frames.lean ====
section
/-! SUPPORT. What each shared operation may change: one frame lemma per operation. A frame of a composition is
the composition of frames (`changedOnly.trans`), widened as needed (`changedOnly.mono`). -/

namespace Sys2Proof.Machine

/-! ## The algebra of frames -/

theorem Part.same.rfl (x : Part) (s : State) : x.same s s := by
  cases x <;> simp [Part.same]

theorem Part.same.trans {x : Part} {s t u : State} (h : x.same s t) (k : x.same t u) : x.same s u := by
  cases x <;> simp only [Part.same] at * <;> simp_all

theorem State.changedOnly.refl (s : State) (l : List Part) : s.changedOnly l s :=
  fun x _ => Part.same.rfl x s

theorem State.changedOnly.trans {s t u : State} {l : List Part} (h : s.changedOnly l t)
    (k : t.changedOnly l u) : s.changedOnly l u :=
  fun x hx => (h x hx).trans (k x hx)

theorem State.changedOnly.mono {s t : State} {l m : List Part} (h : s.changedOnly l t) (hm : l ⊆ m) :
    s.changedOnly m t :=
  fun x hx => h x fun hl => hx (hm hl)

/-- A further change within the frame; most often `m ⊆ l` is decided. -/
theorem State.changedOnly.then {s t u : State} {l m : List Part} (h : s.changedOnly l t)
    (k : t.changedOnly m u) (hm : m ⊆ l := by decide) : s.changedOnly l u :=
  h.trans (k.mono hm)

theorem foldl_frame {α : Type} {l : List Part} {f : State → α → State}
    (hf : ∀ (t : State) (a : α), t.changedOnly l (f t a)) (xs : List α) (s : State) :
    s.changedOnly l (xs.foldl f s) := by
  induction xs generalizing s with
  | nil => exact .refl s l
  | cons x xs ih => exact (hf s x).trans (ih (f s x))

/-! ## Updates of one block -/

theorem withChoices_frame (n : Nat) (s : State) : s.changedOnly [.choices] (s.withChoices n) := by
  intro x hx; cases x <;> first | exact absurd (by decide) hx | simp [Part.same]

theorem withPins_frame (p : Vector BayPins 36) (s : State) : s.changedOnly [.pins] (s.withPins p) := by
  intro x hx; cases x <;> first | exact absurd (by decide) hx | simp [Part.same]

theorem withVsense_frame (n : Nat) (s : State) : s.changedOnly [.pins] (s.withVsense n) := by
  intro x hx; cases x <;> first | exact absurd (by decide) hx | simp [Part.same]

theorem withNctl_frame (n : Nctl) (s : State) : s.changedOnly [.notices] (s.withNctl n) := by
  intro x hx; cases x <;> first | exact absurd (by decide) hx | simp [Part.same]

theorem withOwalk_frame (l : Vector OrderList 2) (s : State) : s.changedOnly [.lists] (s.withOwalk l) := by
  intro x hx; cases x <;> first | exact absurd (by decide) hx | simp [Part.same]

theorem withMem_frame (m : List Host.Cell) (s : State) : s.changedOnly [.stored] (s.withMem m) := by
  intro x hx; cases x <;> first | exact absurd (by decide) hx | simp [Part.same, State.withMem]

theorem withSmon_frame (m : Smon) (s : State) : s.changedOnly [.smon] (s.withSmon m) := by
  intro x hx; cases x <;> first | exact absurd (by decide) hx | simp [Part.same]

theorem bumpBays_frame (p : Bay → Bool) (s : State) : s.changedOnly [.counts] (s.bumpBays p) := by
  intro x hx; cases x <;> first | exact absurd (by decide) hx | simp [Part.same, State.bumpBays]

theorem bumpBay_frame (b : Bay) (p : Bool) (s : State) : s.changedOnly [.counts] (s.bumpBay b p) := by
  intro x hx; unfold State.bumpBay
  split <;> cases x <;> first | exact absurd (by decide) hx | simp [Part.same]

theorem bumpCart_frame (p : Bool) (s : State) : s.changedOnly [.counts] (s.bumpCart p) := by
  intro x hx; unfold State.bumpCart
  split <;> cases x <;> first | exact absurd (by decide) hx | simp [Part.same]

/-- Reading a vector after a write at one place. -/
theorem getElem_set_fin {α : Type} {n : Nat} (v : Vector α n) (i j : Fin n) (a : α) :
    (v.set i a)[j] = if j = i then a else v[j] := by
  by_cases h : j = i
  · subst h; simp
  · have : (i : Nat) ≠ j := fun e => h (Fin.ext e.symm)
    simp [h, this]

theorem withBmon_set_frame (b : Bay) (e : BayEntry) (s : State) :
    s.changedOnly [.bays, .paths] (s.withBmon (s.bmon.set b e)) := by
  intro x hx; cases x <;> first | exact absurd (by decide) hx | simp [Part.same]

/-- BMON's update may change the entry and the counts. -/
theorem setEntry_frame (b : Bay) (e : BayEntry) (s : State) :
    s.changedOnly [.bays, .paths, .counts] (s.setEntry b e) :=
  ((withBmon_set_frame b e s).mono (by decide)).trans ((bumpBay_frame b _ _).mono (by decide))

/-- An update that keeps the entry but for the data path. -/
theorem setEntry_path_frame (b : Bay) (e : BayEntry) (s : State) (h : e.body = s.bmon[b].body) :
    s.changedOnly [.paths, .counts] (s.setEntry b e) := by
  refine State.changedOnly.trans (t := s.withBmon (s.bmon.set b e)) ?_ ((bumpBay_frame b _ _).mono (by decide))
  intro x hx
  cases x <;> first | exact absurd (by decide) hx | skip
  case bays =>
    intro y
    rw [withBmon_bmon, getElem_set_fin]
    split
    · next h' => subst h'; exact h
    · rfl
  all_goals simp [Part.same]

/-- An update that keeps the data path's part of the entry. -/
theorem setEntry_body_frame (b : Bay) (e : BayEntry) (s : State)
    (h : e.path = s.bmon[b].path ∧ e.joined = s.bmon[b].joined ∧ e.silence = s.bmon[b].silence ∧
      e.faultTimer = s.bmon[b].faultTimer) :
    s.changedOnly [.bays, .counts] (s.setEntry b e) := by
  refine State.changedOnly.trans (t := s.withBmon (s.bmon.set b e)) ?_ ((bumpBay_frame b _ _).mono (by decide))
  intro x hx
  cases x <;> first | exact absurd (by decide) hx | skip
  case paths =>
    intro y
    rw [withBmon_bmon, getElem_set_fin]
    split
    · next h' => subst h'; exact h
    · exact ⟨rfl, rfl, rfl, rfl⟩
  all_goals simp [Part.same]

theorem setCharge_frame (b : Bay) (c : ChargeBay) (s : State) :
    s.changedOnly [.charge, .delivery, .counts] (s.setCharge b c) := by
  refine State.changedOnly.trans (t := s.withCctl (s.cctl.set b c)) ?_ ((bumpBay_frame b _ _).mono (by decide))
  intro x hx; cases x <;> first | exact absurd (by decide) hx | simp [Part.same]

theorem setPalloc_frame (p : PAlloc) (s : State) :
    s.changedOnly [.limits, .grants, .counts] (s.setPalloc p) := by
  refine State.changedOnly.trans (t := s.withPalloc p) ?_ ((bumpCart_frame _ _).mono (by decide))
  intro x hx; cases x <;> first | exact absurd (by decide) hx | simp [Part.same]

/-- An update of PALLOC's settings that keeps what the last pass decided. -/
theorem withPalloc_limits_frame (p : PAlloc) (s : State) (hn : p.net = s.palloc.net)
    (hb : ∀ b : Bay, p.bays[b].tier = s.palloc.bays[b].tier ∧ p.bays[b].want = s.palloc.bays[b].want ∧
      p.bays[b].grant = s.palloc.bays[b].grant) :
    s.changedOnly [.limits] (s.withPalloc p) := by
  intro x hx; cases x <;> first | exact absurd (by decide) hx | simp [Part.same]
  exact ⟨hn, hb⟩

theorem setPalloc_limits_frame (p : PAlloc) (s : State) (hn : p.net = s.palloc.net)
    (hb : ∀ b : Bay, p.bays[b].tier = s.palloc.bays[b].tier ∧ p.bays[b].want = s.palloc.bays[b].want ∧
      p.bays[b].grant = s.palloc.bays[b].grant) :
    s.changedOnly [.limits, .counts] (s.setPalloc p) :=
  ((withPalloc_limits_frame p s hn hb).mono (by decide)).trans ((bumpCart_frame _ _).mono (by decide))

theorem setAcc_frame (a : Acc) (s : State) :
    s.changedOnly [.access, .clock, .reservations, .reader, .collecting, .counts] (s.setAcc a) := by
  refine State.changedOnly.trans (t := s.withAcc a) ?_ ((bumpCart_frame _ _).mono (by decide))
  intro x hx; cases x <;> first | exact absurd (by decide) hx | simp [Part.same]

/-- ACC's update of its clock alone. -/
theorem setAcc_clock_frame (t : Option CartClock) (s : State) :
    s.changedOnly [.clock, .counts] (s.setAcc { s.acc with clock := t }) := by
  refine State.changedOnly.trans (t := s.withAcc { s.acc with clock := t }) ?_
    ((bumpCart_frame _ _).mono (by decide))
  intro x hx; cases x <;> first | exact absurd (by decide) hx | simp [Part.same]

theorem setReservation_frame (b : Bay) (r : Option Reservation) (s : State) :
    s.changedOnly [.reservations, .counts] (s.setReservation b r) := by
  refine State.changedOnly.trans
    (t := s.withAcc { s.acc with reservations := s.acc.reservations.set b r }) ?_
    ((bumpBay_frame b _ _).mono (by decide))
  intro x hx; cases x <;> first | exact absurd (by decide) hx | simp [Part.same]

theorem setSmon_frame (m : Smon) (s : State) : s.changedOnly [.smon, .counts] (s.setSmon m) :=
  ((withSmon_frame m s).mono (by decide)).trans ((bumpCart_frame _ _).mono (by decide))

theorem setSlot_frame (i : Fin 48) (r : Option CustodyRecord) (s : State) :
    s.changedOnly [.custody] (s.setSlot i r) := by
  intro x hx; cases x <;> first | exact absurd (by decide) hx | simp [Part.same, State.setSlot]

theorem setJournal_frame (j : Fin 48) (e : JournalEntry) (s : State) :
    s.changedOnly [.journal] (s.setJournal j e) := by
  intro x hx; cases x <;> first | exact absurd (by decide) hx | simp [Part.same, State.setJournal]

theorem advanceSequence_frame (s : State) : s.changedOnly [.journal] (advanceSequence s) := by
  intro x hx; cases x <;> first | exact absurd (by decide) hx | simp [Part.same, advanceSequence]

theorem setRelease_frame (b : Bay) (r : Option Release) (s : State) :
    s.changedOnly [.releases] (s.setRelease b r) := by
  intro x hx; cases x <;> first | exact absurd (by decide) hx | simp [Part.same, State.setRelease]

theorem setProv_frame (b : Bay) (r : ProvRecord) (s : State) : s.changedOnly [.prov] (s.setProv b r) := by
  intro x hx; cases x <;> first | exact absurd (by decide) hx | simp [Part.same, State.setProv]

theorem setQueue_frame (q : List Bay) (s : State) : s.changedOnly [.prov] (s.setQueue q) := by
  intro x hx; cases x <;> first | exact absurd (by decide) hx | simp [Part.same, State.setQueue]

theorem setChannel_frame (c : Chan) (y : Channel) (s : State) :
    s.changedOnly [.prov] (s.setChannel c y) := by
  intro x hx; cases x <;> first | exact absurd (by decide) hx | simp [Part.same, State.setChannel]

theorem setList_frame (i : ListId) (l : OrderList) (s : State) : s.changedOnly [.lists] (s.setList i l) :=
  withOwalk_frame _ s

theorem setPins_frame (b : Bay) (p : BayPins) (s : State) : s.changedOnly [.pins] (s.setPins b p) :=
  withPins_frame _ s

theorem withLdrv_frame (l : Ldrv) (s : State) :
    s.changedOnly [.latches, .latchMode, .stuck] (s.withLdrv l) := by
  intro x hx; cases x <;> first | exact absurd (by decide) hx | simp [Part.same]

/-- LDRV's update of its queue, slots and reserve alone. -/
theorem withLdrv_latches_frame (l : Ldrv) (s : State) (hm : l.mode = s.ldrv.mode)
    (hp : l.pulse = s.ldrv.pulse) (hs : l.stuck = s.ldrv.stuck) :
    s.changedOnly [.latches] (s.withLdrv l) := by
  intro x hx; cases x <;> first | exact absurd (by decide) hx | simp [Part.same, hm, hp, hs]

/-! ## Events at a block -/

theorem pschedEvent_frame {f : State → State} {l : List Part} {s : State} (h : s.changedOnly l (f s))
    (hl : .counts ∈ l) : s.changedOnly l (pschedEvent f s) := by
  have hc : [.counts] ⊆ l := by simpa using hl
  unfold pschedEvent
  dsimp only
  have h' := h.trans ((bumpBays_frame (fun b => (f s).psched.records[b].fields != s.psched.records[b].fields)
    (f s)).mono hc)
  refine State.changedOnly.trans h' ?_
  split
  · refine State.changedOnly.mono (l := [.counts]) ?_ hc
    intro x hx; cases x <;> first | exact absurd (by decide) hx | simp [Part.same]
  · exact .refl _ _

theorem custEvent_frame {f : State → State} {l : List Part} {s : State} (h : s.changedOnly l (f s))
    (hl : .counts ∈ l) : s.changedOnly l (custEvent f s) :=
  h.trans ((bumpCart_frame _ _).mono (by simpa using hl))

theorem ldrvEvent_frame {f : State → State} {l : List Part} {s : State} (h : s.changedOnly l (f s))
    (hl : .counts ∈ l) : s.changedOnly l (ldrvEvent f s) :=
  (h.trans ((bumpBays_frame _ _).mono (by simpa using hl))).trans
    ((bumpCart_frame _ _).mono (by simpa using hl))

theorem eitherOrder_frame {f g : State → State} {l : List Part} (hf : ∀ t : State, t.changedOnly l (f t))
    (hg : ∀ t : State, t.changedOnly l (g t)) (s : State) (hl : .choices ∈ l := by decide) :
    s.changedOnly l (eitherOrder f g s) := by
  have h0 : s.changedOnly l (s.withChoices (s.choices + 1)) :=
    (withChoices_frame _ s).mono (by simpa using hl)
  unfold eitherOrder
  split
  · exact (h0.trans (hf _)).trans (hg _)
  · exact (h0.trans (hg _)).trans (hf _)

/-! ## Notices -/

theorem raise_frame (n : Notice) (s : State) : s.changedOnly [.notices] (raise n s) := withNctl_frame _ s

theorem raiseOrderFault_frame (s : State) : s.changedOnly [.notices] (raiseOrderFault s) :=
  withNctl_frame _ s

theorem raiseGuardHit_frame (s : State) : s.changedOnly [.notices] (raiseGuardHit s) := withNctl_frame _ s

theorem take_frame (s : State) : s.changedOnly [.notices, .guard] (take s) := by
  unfold take
  split
  · exact .refl s _
  next i _ =>
    dsimp only
    split
    · refine State.changedOnly.trans (t := s.withNctl (s.nctl.taken i))
        ((withNctl_frame _ s).mono (by decide)) ?_
      intro x hx; cases x <;> first | exact absurd (by decide) hx | simp [Part.same]
    · exact (withNctl_frame _ s).mono (by decide)

/-! ## The pass -/

theorem takeGrant_body (c : ChargeBay) (now g : Nat) : (c.takeGrant now g).body = c.body := by
  simp only [ChargeBay.takeGrant, ChargeBay.setApplied, ChargeBay.syncRamp, ChargeBay.body]
  split <;> rfl

theorem passFrom_frame (l : List Byte) (s : State) : s.changedOnly passParts (passFrom l s) := by
  have h1 : s.changedOnly passParts ((s.withPalloc s.passed).withCctl (s.grantsTaken s.passed)) := by
    intro x hx
    cases x <;> first | exact absurd (by decide) hx | skip
    case limits => simp [Part.same, State.passed, PAlloc.settings]
    case charge =>
      intro b
      simp only [withCctl_cctl, State.grantsTaken, Fin.getElem_fin, Vector.getElem_ofFn]
      split
      · rfl
      · exact takeGrant_body _ _ _
    all_goals simp [Part.same]
  unfold passFrom
  exact ((h1.trans ((bumpBays_frame _ _).mono (by decide))).trans
    ((bumpBays_frame _ _).mono (by decide))).trans ((bumpCart_frame _ _).mono (by decide))

theorem pass_frame (s : State) : s.changedOnly passParts (pass s) := passFrom_frame _ s

theorem passIfChanged_frame (s : State) : s.changedOnly passParts (passIfChanged s) := by
  unfold passIfChanged
  split
  · exact pass_frame s
  · exact .refl s _

end Sys2Proof.Machine
end

