-- ==== Sys2Proof/Laws/Blocks.lean ====
section
/-! SUPPORT. What the operations of PSCHED, CUST, LDRV, ACC, SMON and OWALK may change: one frame lemma per
operation. -/

/-! One proof at a time: proofs that split the same matches in parallel wait for each other on threads of their own. -/
set_option Elab.async false

namespace Sys2Proof.Machine

/-! ## PSCHED -/

/-- What the end of a session may change (R78). -/
abbrev endParts : List Part := .notices :: considerParts

theorem join_frame (b : Bay) (c : Chan) (n : Nat) (s : State) :
    s.changedOnly [.paths, .counts] (join b c n s) := setEntry_path_frame b _ s rfl

theorem unjoin_frame (b : Bay) (s : State) : s.changedOnly [.paths, .counts] (unjoin b s) :=
  setEntry_path_frame b _ s rfl

theorem grantCore_frame (c : Chan) (b : Bay) (s : State) : s.changedOnly considerParts (grantCore c b s) := by
  unfold grantCore
  dsimp only
  refine State.changedOnly.then ?_ (pass_frame _)
  refine State.changedOnly.then ?_ (join_frame _ _ _ _)
  refine State.changedOnly.then ?_ (setChannel_frame _ _ _)
  refine State.changedOnly.then ?_ (setProv_frame _ _ _)
  exact (setQueue_frame _ s).mono (by decide)

theorem scanCore_frame (n : Nat) (s : State) : s.changedOnly considerParts (scanCore n s) := by
  induction n generalizing s with
  | zero => exact .refl s _
  | succ n ih =>
    unfold scanCore
    split
    · exact (grantCore_frame _ _ s).trans (ih _)
    · exact .refl s _

theorem considerCore_frame (s : State) : s.changedOnly considerParts (considerCore s) := by
  unfold considerCore
  split
  · exact .refl s _
  · exact scanCore_frame _ s

theorem consider_frame (s : State) : s.changedOnly considerParts (consider s) := by
  unfold consider
  exact pschedEvent_frame (considerCore_frame s) (by decide)

theorem endSessionCore_frame (c : Chan) (o : SessionOutcome) (r : Half) (s : State) :
    s.changedOnly endParts (endSessionCore c o r s) := by
  have hp : ∀ u : State, s.changedOnly endParts u →
      s.changedOnly endParts (raise .provDone (pass u)) := fun u hu =>
    (hu.then (pass_frame u)).then (raise_frame _ _)
  have hr : ∀ (u : State) (r : ProvRecord) (b : Bay), s.changedOnly endParts u →
      s.changedOnly endParts (u.setProv b r) := fun u r b hu => hu.then (setProv_frame b r u)
  have h0 : ∀ (y : Channel) (b : Bay), s.changedOnly endParts (unjoin b (s.setChannel c y)) := by
    intro y b
    refine State.changedOnly.then ?_ (unjoin_frame b _)
    exact (setChannel_frame c y s).mono (by decide)
  unfold endSessionCore
  split
  · exact .refl s _
  · dsimp only
    refine State.changedOnly.then ?_ (considerCore_frame _)
    split
    · refine State.changedOnly.then ?_ (raise_frame _ _)
      apply hp
      split
      · refine State.changedOnly.then ?_ (setQueue_frame _ _)
        exact hr _ _ _ (h0 _ _)
      · exact hr _ _ _ (h0 _ _)
    · apply hp
      split
      · refine State.changedOnly.then ?_ (setQueue_frame _ _)
        exact hr _ _ _ (h0 _ _)
      · exact hr _ _ _ (h0 _ _)

theorem endBayCore_frame (b : Bay) (o : SessionOutcome) (s : State) :
    s.changedOnly endParts (endBayCore b o s) := by
  unfold endBayCore
  split
  · split
    · exact endSessionCore_frame _ _ _ s
    · exact .refl s _
  · exact .refl s _

theorem clearCore_frame (b : Bay) (s : State) : s.changedOnly [.prov] (clearCore b s) := by
  unfold clearCore
  exact (setQueue_frame _ s).trans (setProv_frame _ _ _)

theorem pschedDetach_frame (b : Bay) (s : State) : s.changedOnly endParts (pschedDetach b s) := by
  unfold pschedDetach
  refine pschedEvent_frame ?_ (by decide)
  exact ((endBayCore_frame b _ s).then (clearCore_frame b _)).then (setProv_frame b _ _)

theorem pschedPresent_frame (b : Bay) (s : State) : s.changedOnly considerParts (pschedPresent b s) := by
  unfold pschedPresent
  refine pschedEvent_frame ?_ (by decide)
  refine State.changedOnly.then ?_ (considerCore_frame _)
  refine State.changedOnly.then ?_ (setProv_frame b _ _)
  exact (clearCore_frame b s).mono (by decide)

theorem pschedForced_frame (b : Bay) (s : State) : s.changedOnly endParts (pschedForced b s) := by
  unfold pschedForced
  exact pschedEvent_frame (endBayCore_frame b _ s) (by decide)

theorem pschedLineEvent_frame (b : Bay) (c : Chan) (o : SessionOutcome) (s : State) :
    s.changedOnly endParts (pschedLineEvent b c o s) := by
  unfold pschedLineEvent
  refine pschedEvent_frame ?_ (by decide)
  split
  · split
    · exact endSessionCore_frame _ _ _ s
    · exact .refl s _
  · exact .refl s _

theorem pschedAbort_frame (b : Bay) (s : State) : s.changedOnly endParts (pschedAbort b s) := by
  unfold pschedAbort
  exact pschedEvent_frame (endBayCore_frame b _ s) (by decide)

theorem pschedWithdraw_frame (b : Bay) (s : State) : s.changedOnly [.prov, .counts] (pschedWithdraw b s) := by
  unfold pschedWithdraw
  refine pschedEvent_frame ?_ (by decide)
  split
  · exact (clearCore_frame b s).mono (by decide)
  · exact .refl s _

/-- What a change of mode at PSCHED may change. -/
abbrev modeParts : List Part := .provSettings :: endParts

theorem pschedMode_frame (m : Mode) (s : State) : s.changedOnly modeParts (pschedMode m s) := by
  have h : ∀ m : Mode, s.changedOnly modeParts (s.withPsched { s.psched with mode := m }) := by
    intro m x hx; cases x <;> first | exact absurd (by decide) hx | simp [Part.same]
  cases m with
  | attended =>
    show s.changedOnly modeParts (pschedReturn s)
    unfold pschedReturn
    refine pschedEvent_frame ?_ (by decide)
    refine State.changedOnly.then ?_ (considerCore_frame _)
    exact h _
  | standalone =>
    show s.changedOnly modeParts (pschedLost s)
    unfold pschedLost
    refine pschedEvent_frame ?_ (by decide)
    refine State.changedOnly.trans (h .standalone) ?_
    exact foldl_frame (fun t c => (endSessionCore_frame c _ _ t).mono (by decide)) _ _

/-! ## PALLOC's settings -/

/-- A change of the topped marks is a change of settings alone. -/
theorem toppedMark_frame (b : Bay) (m : Bool) (s : State) :
    s.changedOnly [.limits] (s.withPalloc { s.palloc with
      bays := s.palloc.bays.set b { s.palloc.bays[b] with toppedMark := m } }) := by
  refine withPalloc_limits_frame _ s rfl fun x => ?_
  simp only [getElem_set_fin]
  split
  · next h => subst h; exact ⟨rfl, rfl, rfl⟩
  · exact ⟨rfl, rfl, rfl⟩

theorem pallocMode_frame (m : Mode) (s : State) :
    s.changedOnly (.limits :: passParts) (pallocMode m s) := by
  unfold pallocMode
  refine State.changedOnly.then ?_ (pass_frame _)
  exact State.changedOnly.mono (setPalloc_limits_frame _ s rfl fun _ => ⟨rfl, rfl, rfl⟩) (by decide)

theorem pallocLevel_frame (b : Bay) (s : State) : s.changedOnly (.limits :: passParts) (pallocLevel b s) := by
  unfold pallocLevel
  refine State.changedOnly.then ?_ (passIfChanged_frame _)
  exact (toppedMark_frame b _ s).mono (by decide)

theorem pallocDetach_frame (b : Bay) (s : State) : s.changedOnly (.limits :: passParts) (pallocDetach b s) := by
  unfold pallocDetach
  refine State.changedOnly.then ?_ (pass_frame _)
  exact (toppedMark_frame b _ s).mono (by decide)

/-- R and what a pass may change (R48, R49). -/
theorem reservePass_frame (r : Nat) (s : State) : s.changedOnly (.limits :: passParts) (reservePass r s) := by
  unfold reservePass
  refine State.changedOnly.then ?_ (passFrom_frame _ _)
  exact State.changedOnly.mono (withPalloc_limits_frame _ s rfl fun _ => ⟨rfl, rfl, rfl⟩) (by decide)

theorem requestReserve_frame (s : State) : s.changedOnly (.limits :: passParts) (requestReserve s) := by
  unfold requestReserve
  split
  · exact .refl s _
  · exact reservePass_frame _ s

theorem returnReserve_frame (s : State) : s.changedOnly (.limits :: passParts) (returnReserve s) := by
  unfold returnReserve
  split
  · exact .refl s _
  · exact reservePass_frame _ s

/-! ## CUST and the reader -/

theorem sendVerdict_frame (v : Verdict) (f : Byte) (r : Reason) (s : State) :
    s.changedOnly [.verdicts] (sendVerdict v f r s) := by
  intro x hx; cases x <;> first | exact absurd (by decide) hx | simp [Part.same, sendVerdict]

theorem withTransaction_frame (x : Option Transaction) (s : State) :
    s.changedOnly [.reader] (s.withAcc { s.acc with transaction := x }) := by
  intro x hx; cases x <;> first | exact absurd (by decide) hx | simp [Part.same]

theorem answerDeciding_frame (b : Bay) (v : Verdict) (f : Byte) (r : Reason) (s : State) :
    s.changedOnly [.verdicts, .reader] (answerDeciding b v f r s) := by
  unfold answerDeciding
  split
  · split
    · exact ((withTransaction_frame _ s).mono (by decide)).then (sendVerdict_frame _ _ _ _)
    · exact .refl s _
  · exact .refl s _

theorem changeRecordAt_frame (b : Bay) (f : CustodyRecord → CustodyRecord) (s : State) :
    s.changedOnly [.custody] (changeRecordAt b f s) := by
  unfold changeRecordAt
  split
  · exact setSlot_frame _ _ s
  · exact .refl s _

/-- What a take of a journal entry may change (R118). -/
abbrev journalParts : List Part := [.journal, .notices]

theorem journalLow_frame (n : Nat) (s : State) : s.changedOnly [.notices] (journalLow n s) := by
  unfold journalLow
  split
  · exact raise_frame _ s
  · exact .refl s _

theorem fillFree_frame (f : Fill) (s : State) : s.changedOnly journalParts (fillFree f s) := by
  unfold fillFree
  split
  · exact .refl s _
  · split
    · exact (((setJournal_frame _ _ s).trans (advanceSequence_frame _)).mono (by decide)).then (journalLow_frame _ _)
    · exact (advanceSequence_frame s).mono (by decide)

theorem freeJournal_frame (j : Fin 48) (s : State) : s.changedOnly [.journal] (freeJournal j s) := by
  unfold freeJournal
  exact setJournal_frame _ _ s

theorem fillHeld_frame (j : Fin 48) (f : Fill) (s : State) : s.changedOnly [.journal] (fillHeld j f s) := by
  unfold fillHeld
  split
  · exact freeJournal_frame j s
  · exact (setJournal_frame _ _ s).trans (advanceSequence_frame _)

/-- What a release may change at CUST, with the consideration that follows. -/
abbrev releaseParts : List Part := .custody :: .releases :: .journal :: .notices :: considerParts

theorem openRelease_frame (b : Bay) (k : ReleaseKind) (h : Option Token) (s : State) :
    s.changedOnly releaseParts (openRelease b k h s) := by
  unfold openRelease
  split
  · dsimp only
    refine State.changedOnly.then ?_ (consider_frame _)
    refine State.changedOnly.then ?_ (setRelease_frame _ _ _)
    split
    · exact (((setSlot_frame _ _ s).mono (by decide)).then (setJournal_frame _ _ _)).then (journalLow_frame _ _)
    · exact (setSlot_frame _ _ s).mono (by decide)
  · exact (setRelease_frame _ _ s).mono (by decide)

theorem endUnopened_frame (b : Bay) (s : State) : s.changedOnly releaseParts (endUnopened b s) := by
  unfold endUnopened
  split
  · exact .refl s _
  · split
    · dsimp only
      refine State.changedOnly.then ?_ (consider_frame _)
      refine State.changedOnly.then ?_ (setRelease_frame _ _ _)
      split
      · exact ((changeRecordAt_frame _ _ s).mono (by decide)).then (freeJournal_frame _ _)
      · exact (changeRecordAt_frame _ _ s).mono (by decide)
    · exact (setRelease_frame _ _ s).mono (by decide)

theorem custDriveStart_frame (b : Bay) (s : State) : s.changedOnly [.releases] (custDriveStart b s) := by
  unfold custDriveStart
  split
  · split
    · exact setRelease_frame _ _ s
    · exact .refl s _
  · exact .refl s _

theorem custDropped_frame (b : Bay) (s : State) : s.changedOnly releaseParts (custDropped b s) := by
  unfold custDropped
  split
  · split
    · exact endUnopened_frame b s
    · exact .refl s _
  · exact .refl s _

theorem custDoorReleased_frame (b : Bay) (s : State) : s.changedOnly [.releases] (custDoorReleased b s) := by
  unfold custDoorReleased
  split
  · split
    · exact setRelease_frame _ _ s
    · exact .refl s _
  · exact .refl s _

theorem custDoorClosed_frame (b : Bay) (s : State) : s.changedOnly releaseParts (custDoorClosed b s) := by
  unfold custDoorClosed
  split
  · split
    · exact endUnopened_frame b s
    · exact .refl s _
  · exact .refl s _

theorem custLossAbandoned_frame (b : Bay) (s : State) : s.changedOnly releaseParts (custLossAbandoned b s) := by
  unfold custLossAbandoned
  split
  · split
    · exact endUnopened_frame b s
    · exact .refl s _
  · exact .refl s _

theorem completeRelease_frame (b : Bay) (r : Release) (tag : Option Tag) (s : State) :
    s.changedOnly releaseParts (completeRelease b r tag s) := by
  unfold completeRelease
  dsimp only
  refine State.changedOnly.then ?_ (consider_frame _)
  refine State.changedOnly.then ?_ (raise_frame _ _)
  refine State.changedOnly.then ?_ (setRelease_frame _ _ _)
  split
  · split
    · exact ((changeRecordAt_frame _ _ s).mono (by decide)).then (fillHeld_frame _ _ _)
    · exact (changeRecordAt_frame _ _ s).mono (by decide)
  · exact (fillFree_frame _ s).mono (by decide)

theorem custRemoval_frame (b : Bay) (s : State) : s.changedOnly releaseParts (custRemoval b s) := by
  unfold custRemoval
  split
  · exact ((changeRecordAt_frame _ _ s).mono (by decide)).then (consider_frame _)
  · exact .refl s _

/-- What a release that the reader waits for may change. -/
abbrev deskParts : List Part := .verdicts :: .reader :: releaseParts

theorem custDetach_frame (b : Bay) (tag : Option Tag) (s : State) :
    s.changedOnly deskParts (custDetach b tag s) := by
  unfold custDetach
  refine custEvent_frame ?_ (by decide)
  split
  · split
    · exact (completeRelease_frame _ _ _ s).mono (by decide)
    · refine State.changedOnly.then ?_ (custRemoval_frame b _)
      refine State.changedOnly.then ?_ (answerDeciding_frame _ _ _ _ _)
      exact (endUnopened_frame b s).mono (by decide)
  · exact (custRemoval_frame b s).mono (by decide)

theorem custForced_frame (b : Bay) (s : State) : s.changedOnly deskParts (custForced b s) := by
  unfold custForced
  refine custEvent_frame ?_ (by decide)
  dsimp only
  refine State.changedOnly.then ?_ (fillFree_frame _ _)
  split
  · split
    · exact ((endUnopened_frame b s).mono (by decide)).then (answerDeciding_frame _ _ _ _ _)
    · exact .refl s _
  · exact .refl s _

theorem clearBay_frame (b : Bay) (tag : Option Tag) (s : State) :
    s.changedOnly [.custody] (clearBay b tag s) := by
  unfold clearBay
  split
  · split
    · exact .refl s _
    · exact changeRecordAt_frame _ _ s
  · exact .refl s _

theorem placeTag_frame (b : Bay) (t : Tag) (s : State) :
    s.changedOnly (.custody :: journalParts) (placeTag b t s) := by
  have h : ∀ (i : Fin 48) (r : Option CustodyRecord) (f : Fill),
      s.changedOnly (.custody :: journalParts) (fillFree f (s.setSlot i r)) := by
    intro i r f
    refine State.changedOnly.then ?_ (fillFree_frame f _)
    exact (setSlot_frame i r s).mono (by decide)
  unfold placeTag
  split
  · split
    · exact h _ _ _
    · exact (raise_frame _ s).mono (by decide)
  · split
    · exact .refl s _
    · dsimp only
      split
      · split
        · exact (h _ _ _).then (raise_frame _ _)
        · exact h _ _ _
      · split
        · exact (h _ _ _).then (raise_frame _ _)
        · exact h _ _ _
      · split
        · exact .refl s _
        · exact (h _ _ _).then (raise_frame _ _)
      · exact .refl s _

theorem custTagRead_frame (b : Bay) (t : Tag) (s : State) : s.changedOnly releaseParts (custTagRead b t s) := by
  unfold custTagRead
  refine custEvent_frame ?_ (by decide)
  exact (((clearBay_frame b _ s).mono (by decide)).then (placeTag_frame b t _)).then (consider_frame _)

theorem custOtherEntry_frame (b : Bay) (t : Option Tag) (s : State) :
    s.changedOnly (.custody :: considerParts) (custOtherEntry b t s) := by
  unfold custOtherEntry
  refine custEvent_frame ?_ (by decide)
  refine State.changedOnly.then ?_ (consider_frame _)
  exact (clearBay_frame b _ s).mono (by decide)

/-! ## LDRV -/

/-- What a take of a latch request may change. -/
abbrev driveParts : List Part := .latches :: .limits :: .verdicts :: .reader :: .releases :: considerParts

theorem appendRequest_frame (b : Bay) (s : State) : s.changedOnly [.latches] (appendRequest b s) := by
  unfold appendRequest
  split
  · exact .refl s _
  · exact withLdrv_latches_frame _ s rfl rfl rfl

theorem askReserve_frame (k : Slot) (s : State) : s.changedOnly driveParts (askReserve k s) := by
  unfold askReserve
  split
  · refine State.changedOnly.trans ((requestReserve_frame s).mono (by decide)) ?_
    exact State.changedOnly.mono (withLdrv_latches_frame _ _ rfl rfl rfl) (by decide)
  · exact .refl s _

theorem startDrive_frame (k : Slot) (b : Bay) (s : State) : s.changedOnly driveParts (startDrive k b s) := by
  unfold startDrive
  dsimp only
  refine State.changedOnly.then ?_ (consider_frame _)
  refine State.changedOnly.then ?_ (custDriveStart_frame _ _)
  refine State.changedOnly.then ?_ (answerDeciding_frame _ _ _ _ _)
  exact State.changedOnly.mono (withLdrv_latches_frame _ s rfl rfl rfl) (by decide)

theorem clearSlot_frame (k : Slot) (s : State) : s.changedOnly driveParts (clearSlot k s) := by
  unfold clearSlot
  refine State.changedOnly.then ?_ (consider_frame _)
  exact State.changedOnly.mono (withLdrv_latches_frame _ s rfl rfl rfl) (by decide)

theorem offer_frame (n : Nat) (s : State) : s.changedOnly driveParts (offer n s) := by
  induction n generalizing s with
  | zero => exact .refl s _
  | succ n ih =>
    have h0 : ∀ b, s.changedOnly driveParts (s.withLdrv (s.ldrv.dequeue b)) := fun b =>
      State.changedOnly.mono (withLdrv_latches_frame _ s rfl rfl rfl) (by decide)
    have h1 : ∀ k b, s.changedOnly driveParts
        (startDrive k b (askReserve k (s.withLdrv (s.ldrv.dequeue b)))) := fun k b =>
      ((h0 b).trans (askReserve_frame k _)).trans (startDrive_frame k b _)
    unfold offer
    split
    · dsimp only
      split
      · exact (h0 _).trans (ih _)
      · split
        · exact ((h1 _ _).trans (clearSlot_frame _ _)).trans (ih _)
        · exact (h1 _ _).trans (ih _)
    · exact .refl s _

theorem settleReserve_frame (s : State) : s.changedOnly driveParts (settleReserve s) := by
  unfold settleReserve
  split
  · refine State.changedOnly.then ?_ (returnReserve_frame _)
    exact State.changedOnly.mono (withLdrv_latches_frame _ s rfl rfl rfl) (by decide)
  · exact .refl s _

theorem offerAndSettle_frame (s : State) : s.changedOnly driveParts (offerAndSettle s) := by
  unfold offerAndSettle
  exact (offer_frame _ s).trans (settleReserve_frame _)

theorem requestDrive_frame (b : Bay) (s : State) : s.changedOnly driveParts (requestDrive b s) := by
  unfold requestDrive
  exact ldrvEvent_frame (((appendRequest_frame b s).mono (by decide)).trans (offerAndSettle_frame _)) (by decide)

theorem judge_frame (d : Drive) (s : State) : s.changedOnly [.stuck, .notices] (judge d s) := by
  have h : s.changedOnly [.stuck, .notices]
      (s.withLdrv { s.ldrv with stuck := s.ldrv.stuck.set d.bay (!d.releasedSeen) }) := by
    intro x hx; cases x <;> first | exact absurd (by decide) hx | simp [Part.same]
  unfold judge
  dsimp only
  split
  · exact h
  · exact h.then (raise_frame _ _)

theorem timeEnd_frame (k : Slot) (d : Drive) (s : State) :
    s.changedOnly (.stuck :: .notices :: driveParts) (timeEnd k d s) := by
  unfold timeEnd
  exact ldrvEvent_frame ((((judge_frame d s).mono (by decide)).then (clearSlot_frame k _)).then (offerAndSettle_frame _)) (by decide)

theorem ldrvDoorOpen_frame (b : Bay) (s : State) : s.changedOnly driveParts (ldrvDoorOpen b s) := by
  unfold ldrvDoorOpen
  split
  · split
    · split
      · exact ldrvEvent_frame ((clearSlot_frame _ s).trans (offerAndSettle_frame _)) (by decide)
      · exact .refl s _
    · exact .refl s _
  · exact .refl s _

theorem ldrvLatchSense_frame (b : Bay) (s : State) : s.changedOnly [.latches] (ldrvLatchSense b s) := by
  unfold ldrvLatchSense
  split
  · exact withLdrv_latches_frame _ s rfl rfl rfl
  · exact .refl s _

theorem reportDrop_frame (b : Bay) (v : Verdict) (f : Byte) (s : State) :
    s.changedOnly deskParts (reportDrop b v f s) := by
  unfold reportDrop
  refine State.changedOnly.then ?_ (custDropped_frame _ _)
  exact (answerDeciding_frame _ _ _ _ s).mono (by decide)

/-- What LDRV may change with all that it hands on. -/
abbrev ldrvParts : List Part := .latches :: .limits :: deskParts

theorem waitExpired_frame (b : Bay) (s : State) : s.changedOnly ldrvParts (waitExpired b s) := by
  unfold waitExpired
  refine ldrvEvent_frame ?_ (by decide)
  refine State.changedOnly.then ?_ (reportDrop_frame _ _ _ _)
  exact State.changedOnly.mono (withLdrv_latches_frame _ s rfl rfl rfl) (by decide)

theorem modeEnd_frame (k : Slot) (s : State) : s.changedOnly driveParts (modeEnd k s) := by
  unfold modeEnd
  split
  · exact clearSlot_frame k s
  · exact .refl s _

/-- The entry to OFF empties the queue (R143). -/
theorem offEntry_frame (s : State) :
    s.changedOnly [.latches, .latchMode] (s.withLdrv { s.ldrv with mode := .off, queue := [] }) := by
  intro x hx; cases x <;> first | exact absurd (by decide) hx | simp [Part.same]

/-- Every queued request is dropped (R143). -/
theorem dropAll_frame (t : State) (q : List LatchRequest) :
    t.changedOnly deskParts (q.foldl (fun t r => reportDrop r.bay .denyLatch 0 t) t) :=
  foldl_frame (fun t r => reportDrop_frame r.bay _ _ t) q t

/-- Both drives end (R143). -/
theorem modeEnds_frame (t : State) :
    t.changedOnly (.choices :: driveParts) (eitherOrder (modeEnd 0) (modeEnd 1) t) :=
  eitherOrder_frame (fun t => (modeEnd_frame 0 t).mono (by decide))
    (fun t => (modeEnd_frame 1 t).mono (by decide)) t

theorem latchOff_frame (s : State) :
    s.changedOnly (.choices :: .latchMode :: ldrvParts) (latchOff s) := by
  unfold latchOff
  refine ldrvEvent_frame ?_ (by decide)
  refine State.changedOnly.then ?_ (settleReserve_frame _)
  refine State.changedOnly.then ?_ (modeEnds_frame _)
  refine State.changedOnly.then ?_ (dropAll_frame _ _)
  exact (offEntry_frame s).mono (by decide)

/-! ## ACC's decisions -/

/-- What a token arrival may change. -/
abbrev arrivalParts : List Part := .access :: ldrvParts

theorem acceptStudent_frame (b : Bay) (t : Token) (s : State) :
    s.changedOnly ldrvParts (acceptStudent b t s) := by
  unfold acceptStudent
  dsimp only
  refine State.changedOnly.then ?_ (requestDrive_frame b _)
  refine State.changedOnly.then ?_ (withTransaction_frame _ _)
  exact (openRelease_frame b _ _ s).mono (by decide)

theorem decideStudent_frame (e : CredentialEntry) (t : Token) (s : State) :
    s.changedOnly ldrvParts (decideStudent e t s) := by
  have hv : ∀ v f r, s.changedOnly ldrvParts (sendVerdict v f r s) := fun v f r =>
    (sendVerdict_frame v f r s).mono (by decide)
  unfold decideStudent
  repeat' split
  all_goals first | exact hv _ _ _ | exact acceptStudent_frame _ _ s

theorem teacherEnqueue_frame (b : Bay) (t : Token) (s : State) :
    s.changedOnly ldrvParts (teacherEnqueue b t s) := by
  have h : s.changedOnly ldrvParts (requestDrive b (openRelease b .teacher (some t) s)) := by
    refine State.changedOnly.then ?_ (requestDrive_frame b _)
    exact (openRelease_frame b _ _ s).mono (by decide)
  unfold teacherEnqueue
  dsimp only
  split
  · exact h.then (pschedWithdraw_frame b _)
  · exact h

theorem teacherVisits_frame (g : Nat) (t : Token) (bs : List Bay) (x : State × Nat) :
    x.1.changedOnly ldrvParts (bs.foldl (teacherVisit g t) x).1 := by
  induction bs generalizing x with
  | nil => exact .refl _ _
  | cons b bs ih =>
    refine State.changedOnly.trans ?_ (ih _)
    unfold teacherVisit
    split
    · exact teacherEnqueue_frame b t x.1
    · exact .refl _ _

theorem decideTeacher_frame (e : CredentialEntry) (t : Token) (s : State) :
    s.changedOnly ldrvParts (decideTeacher e t s) := by
  unfold decideTeacher
  split
  · exact (sendVerdict_frame _ _ _ s).mono (by decide)
  · exact (teacherVisits_frame _ _ _ (s, 0)).then (sendVerdict_frame _ _ _ _)

theorem setService_frame (v : Bool) (s : State) :
    s.changedOnly [.access, .counts] (s.setAcc { s.acc with service := v }) := by
  refine State.changedOnly.trans (t := s.withAcc { s.acc with service := v }) ?_
    ((bumpCart_frame _ _).mono (by decide))
  intro x hx; cases x <;> first | exact absurd (by decide) hx | simp [Part.same]

theorem decideTechnician_frame (s : State) : s.changedOnly arrivalParts (decideTechnician s) := by
  unfold decideTechnician
  refine State.changedOnly.then ?_ (sendVerdict_frame _ _ _ _)
  exact (setService_frame _ s).mono (by decide)

theorem tokenArrives_frame (t : Token) (s : State) : s.changedOnly arrivalParts (tokenArrives t s) := by
  have hv : ∀ v f r, s.changedOnly arrivalParts (sendVerdict v f r s) := fun v f r =>
    (sendVerdict_frame v f r s).mono (by decide)
  unfold tokenArrives
  repeat' split
  all_goals first
    | exact hv _ _ _
    | exact (decideStudent_frame _ _ s).mono (by decide)
    | exact (decideTeacher_frame _ _ s).mono (by decide)
    | exact decideTechnician_frame s

theorem lapse_frame (m : Nat) (s : State) : s.changedOnly [.reservations, .counts] (lapse m s) := by
  unfold lapse
  refine foldl_frame (fun t b => ?_) _ s
  split
  · split
    · exact setReservation_frame _ _ t
    · exact .refl t _
  · exact .refl t _

/-- What a change of minute may change (R100). -/
abbrev minuteParts : List Part := .clock :: .reservations :: passParts

theorem changeMinute_frame (c : CartClock) (s : State) : s.changedOnly minuteParts (changeMinute c s) := by
  unfold changeMinute
  exact (((setAcc_clock_frame _ s).mono (by decide)).then (lapse_frame _ _)).then (passIfChanged_frame _)

theorem advanceSecond_frame (c : CartClock) (s : State) : s.changedOnly [.clock, .counts] (advanceSecond c s) := by
  unfold advanceSecond
  exact setAcc_clock_frame _ s

/-! ## SMON -/

/-- What a change of mode may change. -/
abbrev handParts : List Part := .choices :: .limits :: modeParts

theorem handMode_frame (m : Mode) (s : State) : s.changedOnly handParts (handMode m s) := by
  unfold handMode
  exact eitherOrder_frame (fun t => (pallocMode_frame m t).mono (by decide))
    (fun t => (pschedMode_frame m t).mono (by decide)) s

/-- What a heartbeat or its failure may change. -/
abbrev heartbeatParts : List Part := .smon :: handParts

theorem failure_frame (f : HeartbeatFailure) (s : State) : s.changedOnly heartbeatParts (failure f s) := by
  unfold failure
  dsimp only
  split
  · exact ((setSmon_frame _ s).mono (by decide)).then (handMode_frame _ _)
  · exact ((setSmon_frame _ s).mono (by decide)).then (raise_frame _ _)

theorem returnAttended_frame (m : Smon) (s : State) : s.changedOnly heartbeatParts (returnAttended m s) := by
  unfold returnAttended
  exact (((setSmon_frame _ s).mono (by decide)).then (raise_frame _ _)).then (handMode_frame _ _)

theorem heartbeat_frame (s : State) : s.changedOnly heartbeatParts (heartbeat s) := by
  unfold heartbeat
  split
  · split
    · exact returnAttended_frame _ s
    · exact .refl s _
  · exact failure_frame _ s
  · exact (setSmon_frame _ s).mono (by decide)

/-! ## OWALK -/

/-- What a command on a list may change. -/
abbrev listParts : List Part := [.lists, .notices]

theorem runList_frame (i : ListId) (s : State) : s.changedOnly listParts (runList i s) := by
  unfold runList
  dsimp only
  split
  · exact ((setList_frame _ _ s).mono (by decide)).then (raise_frame _ _)
  · exact (setList_frame _ _ s).mono (by decide)

theorem startArmed_frame (n : Nat) (i : ListId) (s : State) : s.changedOnly listParts (startArmed n i s) := by
  induction n generalizing i s with
  | zero => exact .refl s _
  | succ n ih =>
    unfold startArmed
    split
    · dsimp only
      split
      · exact (runList_frame i s).trans (ih _ _)
      · exact runList_frame i s
    · exact .refl s _

theorem endDone_frame (i : ListId) (s : State) : s.changedOnly listParts (endDone i s) := by
  unfold endDone
  exact (((setList_frame _ _ s).mono (by decide)).then (raise_frame _ _)).trans
    (startArmed_frame _ _ _)

theorem endFault_frame (i : ListId) (c : ListFault) (o : Half) (s : State) :
    s.changedOnly listParts (endFault i c o s) := by
  unfold endFault
  exact (((setList_frame _ _ s).mono (by decide)).then (raiseOrderFault_frame _)).trans
    (startArmed_frame _ _ _)

theorem arm_frame (i : ListId) (s : State) : s.changedOnly listParts (arm i s) := by
  have h : ∀ l, s.changedOnly listParts (s.setList i l) := fun l =>
    (setList_frame i l s).mono (by decide)
  have hg : ∀ l, s.changedOnly listParts (runList i (s.setList i l)) := fun l =>
    (h l).trans (runList_frame i _)
  have hr : ∀ l k, s.changedOnly listParts (startArmed 2 k (runList i (s.setList i l))) := fun l k =>
    (hg l).trans (startArmed_frame _ _ _)
  unfold arm
  dsimp only
  cases s.owalk[i].state <;> dsimp only
  case armed | running => exact .refl s _
  case stalled => exact h _
  all_goals
    split
    · exact h _
    · split
      · exact hr _ _
      · exact hg _

theorem abort_frame (i : ListId) (s : State) : s.changedOnly listParts (abort i s) := by
  unfold abort
  dsimp only
  repeat' split
  all_goals first
    | exact endFault_frame _ _ _ s
    | exact (setList_frame _ _ s).mono (by decide)
    | exact .refl s _

theorem listCommand_frame (i : ListId) (v : Byte) (s : State) :
    s.changedOnly listParts (listCommand i v s) := by
  unfold listCommand
  repeat' split
  · exact arm_frame i s
  · exact abort_frame i s
  · exact .refl s _

theorem answered_frame (i : ListId) (off n : Nat) (l : Half) (a : Answer) (s : State) :
    s.changedOnly [.stored, .lists] (answered i off n l a s) := by
  unfold answered
  refine State.changedOnly.then ?_ (setList_frame _ _ _)
  exact (withMem_frame _ s).mono (by decide)

theorem notDispatched_frame (s : State) : s.changedOnly (.stored :: listParts) (notDispatched s) := by
  unfold notDispatched
  split
  · exact .refl s _
  · dsimp only
    split
    · exact (endFault_frame _ _ _ s).mono (by decide)
    · unfold notPosted
      dsimp only
      split
      · exact (endFault_frame _ _ _ s).mono (by decide)
      · exact (setList_frame _ _ s).mono (by decide)
    · exact (endFault_frame _ _ _ s).mono (by decide)
    · exact (answered_frame _ _ _ _ _ s).mono (by decide)
    · exact .refl s _
    · exact .refl s _

end Sys2Proof.Machine
end

