-- ==== Sys2Proof/Laws/Updates.lean ====
section
/-! SUPPORT. One lemma per field for each update that a block makes for an event (Ops.lean), for a raised notice,
a verdict and a pass, so that no proof unfolds them. -/

namespace Sys2Proof.Machine

variable (s : State)

@[simp] theorem bumpBays_pending (p : Bay → Bool) : (s.bumpBays p).pending = s.pending := by simp [State.bumpBays]
@[simp] theorem bumpBays_now (p : Bay → Bool) : (s.bumpBays p).now = s.now := by simp [State.bumpBays]
@[simp] theorem bumpBays_choices (p : Bay → Bool) : (s.bumpBays p).choices = s.choices := by simp [State.bumpBays]
@[simp] theorem bumpBays_pins (p : Bay → Bool) : (s.bumpBays p).pins = s.pins := by simp [State.bumpBays]
@[simp] theorem bumpBays_vsense (p : Bay → Bool) : (s.bumpBays p).vsense = s.vsense := by simp [State.bumpBays]
@[simp] theorem bumpBays_bmon (p : Bay → Bool) : (s.bumpBays p).bmon = s.bmon := by simp [State.bumpBays]
@[simp] theorem bumpBays_palloc (p : Bay → Bool) : (s.bumpBays p).palloc = s.palloc := by simp [State.bumpBays]
@[simp] theorem bumpBays_cctl (p : Bay → Bool) : (s.bumpBays p).cctl = s.cctl := by simp [State.bumpBays]
@[simp] theorem bumpBays_psched (p : Bay → Bool) : (s.bumpBays p).psched = s.psched := by simp [State.bumpBays]
@[simp] theorem bumpBays_acc (p : Bay → Bool) : (s.bumpBays p).acc = s.acc := by simp [State.bumpBays]
@[simp] theorem bumpBays_cust (p : Bay → Bool) : (s.bumpBays p).cust = s.cust := by simp [State.bumpBays]
@[simp] theorem bumpBays_ldrv (p : Bay → Bool) : (s.bumpBays p).ldrv = s.ldrv := by simp [State.bumpBays]
@[simp] theorem bumpBays_smon (p : Bay → Bool) : (s.bumpBays p).smon = s.smon := by simp [State.bumpBays]
@[simp] theorem bumpBays_owalk (p : Bay → Bool) : (s.bumpBays p).owalk = s.owalk := by simp [State.bumpBays]
@[simp] theorem bumpBays_nctl (p : Bay → Bool) : (s.bumpBays p).nctl = s.nctl := by simp [State.bumpBays]
@[simp] theorem bumpBays_out (p : Bay → Bool) : (s.bumpBays p).out = s.out := by simp [State.bumpBays]
@[simp] theorem bumpBays_swm_mem (p : Bay → Bool) : (s.bumpBays p).swm.mem = s.swm.mem := by simp [State.bumpBays]
@[simp] theorem bumpBays_swm_ready (p : Bay → Bool) : (s.bumpBays p).swm.ready = s.swm.ready := by simp [State.bumpBays]
@[simp] theorem bumpBays_swm_resetCause (p : Bay → Bool) : (s.bumpBays p).swm.resetCause = s.swm.resetCause := by simp [State.bumpBays]
@[simp] theorem bumpBays_swm_guardArmed (p : Bay → Bool) : (s.bumpBays p).swm.guardArmed = s.swm.guardArmed := by simp [State.bumpBays]
@[simp] theorem bumpBays_swm_guardOffset (p : Bay → Bool) : (s.bumpBays p).swm.guardOffset = s.swm.guardOffset := by simp [State.bumpBays]
@[simp] theorem bumpBays_swm_endWord (p : Bay → Bool) : (s.bumpBays p).swm.endWord = s.swm.endWord := by simp [State.bumpBays]
@[simp] theorem bumpBays_swm_heartbeatWord (p : Bay → Bool) : (s.bumpBays p).swm.heartbeatWord = s.swm.heartbeatWord := by simp [State.bumpBays]

@[simp] theorem bumpBay_pending (b : Bay) (p : Bool) : (s.bumpBay b p).pending = s.pending := by
  cases p <;> simp [State.bumpBay]
@[simp] theorem bumpBay_now (b : Bay) (p : Bool) : (s.bumpBay b p).now = s.now := by
  cases p <;> simp [State.bumpBay]
@[simp] theorem bumpBay_choices (b : Bay) (p : Bool) : (s.bumpBay b p).choices = s.choices := by
  cases p <;> simp [State.bumpBay]
@[simp] theorem bumpBay_pins (b : Bay) (p : Bool) : (s.bumpBay b p).pins = s.pins := by
  cases p <;> simp [State.bumpBay]
@[simp] theorem bumpBay_vsense (b : Bay) (p : Bool) : (s.bumpBay b p).vsense = s.vsense := by
  cases p <;> simp [State.bumpBay]
@[simp] theorem bumpBay_bmon (b : Bay) (p : Bool) : (s.bumpBay b p).bmon = s.bmon := by
  cases p <;> simp [State.bumpBay]
@[simp] theorem bumpBay_palloc (b : Bay) (p : Bool) : (s.bumpBay b p).palloc = s.palloc := by
  cases p <;> simp [State.bumpBay]
@[simp] theorem bumpBay_cctl (b : Bay) (p : Bool) : (s.bumpBay b p).cctl = s.cctl := by
  cases p <;> simp [State.bumpBay]
@[simp] theorem bumpBay_psched (b : Bay) (p : Bool) : (s.bumpBay b p).psched = s.psched := by
  cases p <;> simp [State.bumpBay]
@[simp] theorem bumpBay_acc (b : Bay) (p : Bool) : (s.bumpBay b p).acc = s.acc := by
  cases p <;> simp [State.bumpBay]
@[simp] theorem bumpBay_cust (b : Bay) (p : Bool) : (s.bumpBay b p).cust = s.cust := by
  cases p <;> simp [State.bumpBay]
@[simp] theorem bumpBay_ldrv (b : Bay) (p : Bool) : (s.bumpBay b p).ldrv = s.ldrv := by
  cases p <;> simp [State.bumpBay]
@[simp] theorem bumpBay_smon (b : Bay) (p : Bool) : (s.bumpBay b p).smon = s.smon := by
  cases p <;> simp [State.bumpBay]
@[simp] theorem bumpBay_owalk (b : Bay) (p : Bool) : (s.bumpBay b p).owalk = s.owalk := by
  cases p <;> simp [State.bumpBay]
@[simp] theorem bumpBay_nctl (b : Bay) (p : Bool) : (s.bumpBay b p).nctl = s.nctl := by
  cases p <;> simp [State.bumpBay]
@[simp] theorem bumpBay_out (b : Bay) (p : Bool) : (s.bumpBay b p).out = s.out := by
  cases p <;> simp [State.bumpBay]
@[simp] theorem bumpBay_swm_mem (b : Bay) (p : Bool) : (s.bumpBay b p).swm.mem = s.swm.mem := by
  cases p <;> simp [State.bumpBay]
@[simp] theorem bumpBay_swm_ready (b : Bay) (p : Bool) : (s.bumpBay b p).swm.ready = s.swm.ready := by
  cases p <;> simp [State.bumpBay]
@[simp] theorem bumpBay_swm_resetCause (b : Bay) (p : Bool) : (s.bumpBay b p).swm.resetCause = s.swm.resetCause := by
  cases p <;> simp [State.bumpBay]
@[simp] theorem bumpBay_swm_guardArmed (b : Bay) (p : Bool) : (s.bumpBay b p).swm.guardArmed = s.swm.guardArmed := by
  cases p <;> simp [State.bumpBay]
@[simp] theorem bumpBay_swm_guardOffset (b : Bay) (p : Bool) : (s.bumpBay b p).swm.guardOffset = s.swm.guardOffset := by
  cases p <;> simp [State.bumpBay]
@[simp] theorem bumpBay_swm_endWord (b : Bay) (p : Bool) : (s.bumpBay b p).swm.endWord = s.swm.endWord := by
  cases p <;> simp [State.bumpBay]
@[simp] theorem bumpBay_swm_heartbeatWord (b : Bay) (p : Bool) : (s.bumpBay b p).swm.heartbeatWord = s.swm.heartbeatWord := by
  cases p <;> simp [State.bumpBay]

@[simp] theorem bumpCart_pending (p : Bool) : (s.bumpCart p).pending = s.pending := by
  cases p <;> simp [State.bumpCart]
@[simp] theorem bumpCart_now (p : Bool) : (s.bumpCart p).now = s.now := by
  cases p <;> simp [State.bumpCart]
@[simp] theorem bumpCart_choices (p : Bool) : (s.bumpCart p).choices = s.choices := by
  cases p <;> simp [State.bumpCart]
@[simp] theorem bumpCart_pins (p : Bool) : (s.bumpCart p).pins = s.pins := by
  cases p <;> simp [State.bumpCart]
@[simp] theorem bumpCart_vsense (p : Bool) : (s.bumpCart p).vsense = s.vsense := by
  cases p <;> simp [State.bumpCart]
@[simp] theorem bumpCart_bmon (p : Bool) : (s.bumpCart p).bmon = s.bmon := by
  cases p <;> simp [State.bumpCart]
@[simp] theorem bumpCart_palloc (p : Bool) : (s.bumpCart p).palloc = s.palloc := by
  cases p <;> simp [State.bumpCart]
@[simp] theorem bumpCart_cctl (p : Bool) : (s.bumpCart p).cctl = s.cctl := by
  cases p <;> simp [State.bumpCart]
@[simp] theorem bumpCart_psched (p : Bool) : (s.bumpCart p).psched = s.psched := by
  cases p <;> simp [State.bumpCart]
@[simp] theorem bumpCart_acc (p : Bool) : (s.bumpCart p).acc = s.acc := by
  cases p <;> simp [State.bumpCart]
@[simp] theorem bumpCart_cust (p : Bool) : (s.bumpCart p).cust = s.cust := by
  cases p <;> simp [State.bumpCart]
@[simp] theorem bumpCart_ldrv (p : Bool) : (s.bumpCart p).ldrv = s.ldrv := by
  cases p <;> simp [State.bumpCart]
@[simp] theorem bumpCart_smon (p : Bool) : (s.bumpCart p).smon = s.smon := by
  cases p <;> simp [State.bumpCart]
@[simp] theorem bumpCart_owalk (p : Bool) : (s.bumpCart p).owalk = s.owalk := by
  cases p <;> simp [State.bumpCart]
@[simp] theorem bumpCart_nctl (p : Bool) : (s.bumpCart p).nctl = s.nctl := by
  cases p <;> simp [State.bumpCart]
@[simp] theorem bumpCart_out (p : Bool) : (s.bumpCart p).out = s.out := by
  cases p <;> simp [State.bumpCart]
@[simp] theorem bumpCart_swm_mem (p : Bool) : (s.bumpCart p).swm.mem = s.swm.mem := by
  cases p <;> simp [State.bumpCart]
@[simp] theorem bumpCart_swm_ready (p : Bool) : (s.bumpCart p).swm.ready = s.swm.ready := by
  cases p <;> simp [State.bumpCart]
@[simp] theorem bumpCart_swm_resetCause (p : Bool) : (s.bumpCart p).swm.resetCause = s.swm.resetCause := by
  cases p <;> simp [State.bumpCart]
@[simp] theorem bumpCart_swm_guardArmed (p : Bool) : (s.bumpCart p).swm.guardArmed = s.swm.guardArmed := by
  cases p <;> simp [State.bumpCart]
@[simp] theorem bumpCart_swm_guardOffset (p : Bool) : (s.bumpCart p).swm.guardOffset = s.swm.guardOffset := by
  cases p <;> simp [State.bumpCart]
@[simp] theorem bumpCart_swm_endWord (p : Bool) : (s.bumpCart p).swm.endWord = s.swm.endWord := by
  cases p <;> simp [State.bumpCart]
@[simp] theorem bumpCart_swm_heartbeatWord (p : Bool) : (s.bumpCart p).swm.heartbeatWord = s.swm.heartbeatWord := by
  cases p <;> simp [State.bumpCart]

@[simp] theorem setEntry_pending (b : Bay) (e : BayEntry) : (s.setEntry b e).pending = s.pending := by simp [State.setEntry]
@[simp] theorem setEntry_now (b : Bay) (e : BayEntry) : (s.setEntry b e).now = s.now := by simp [State.setEntry]
@[simp] theorem setEntry_choices (b : Bay) (e : BayEntry) : (s.setEntry b e).choices = s.choices := by simp [State.setEntry]
@[simp] theorem setEntry_pins (b : Bay) (e : BayEntry) : (s.setEntry b e).pins = s.pins := by simp [State.setEntry]
@[simp] theorem setEntry_vsense (b : Bay) (e : BayEntry) : (s.setEntry b e).vsense = s.vsense := by simp [State.setEntry]
@[simp] theorem setEntry_bmon (b : Bay) (e : BayEntry) : (s.setEntry b e).bmon = s.bmon.set b e := by simp [State.setEntry]
@[simp] theorem setEntry_palloc (b : Bay) (e : BayEntry) : (s.setEntry b e).palloc = s.palloc := by simp [State.setEntry]
@[simp] theorem setEntry_cctl (b : Bay) (e : BayEntry) : (s.setEntry b e).cctl = s.cctl := by simp [State.setEntry]
@[simp] theorem setEntry_psched (b : Bay) (e : BayEntry) : (s.setEntry b e).psched = s.psched := by simp [State.setEntry]
@[simp] theorem setEntry_acc (b : Bay) (e : BayEntry) : (s.setEntry b e).acc = s.acc := by simp [State.setEntry]
@[simp] theorem setEntry_cust (b : Bay) (e : BayEntry) : (s.setEntry b e).cust = s.cust := by simp [State.setEntry]
@[simp] theorem setEntry_ldrv (b : Bay) (e : BayEntry) : (s.setEntry b e).ldrv = s.ldrv := by simp [State.setEntry]
@[simp] theorem setEntry_smon (b : Bay) (e : BayEntry) : (s.setEntry b e).smon = s.smon := by simp [State.setEntry]
@[simp] theorem setEntry_owalk (b : Bay) (e : BayEntry) : (s.setEntry b e).owalk = s.owalk := by simp [State.setEntry]
@[simp] theorem setEntry_nctl (b : Bay) (e : BayEntry) : (s.setEntry b e).nctl = s.nctl := by simp [State.setEntry]
@[simp] theorem setEntry_out (b : Bay) (e : BayEntry) : (s.setEntry b e).out = s.out := by simp [State.setEntry]
@[simp] theorem setEntry_swm_mem (b : Bay) (e : BayEntry) : (s.setEntry b e).swm.mem = s.swm.mem := by simp [State.setEntry]
@[simp] theorem setEntry_swm_ready (b : Bay) (e : BayEntry) : (s.setEntry b e).swm.ready = s.swm.ready := by simp [State.setEntry]
@[simp] theorem setEntry_swm_resetCause (b : Bay) (e : BayEntry) : (s.setEntry b e).swm.resetCause = s.swm.resetCause := by simp [State.setEntry]
@[simp] theorem setEntry_swm_guardArmed (b : Bay) (e : BayEntry) : (s.setEntry b e).swm.guardArmed = s.swm.guardArmed := by simp [State.setEntry]
@[simp] theorem setEntry_swm_guardOffset (b : Bay) (e : BayEntry) : (s.setEntry b e).swm.guardOffset = s.swm.guardOffset := by simp [State.setEntry]
@[simp] theorem setEntry_swm_endWord (b : Bay) (e : BayEntry) : (s.setEntry b e).swm.endWord = s.swm.endWord := by simp [State.setEntry]
@[simp] theorem setEntry_swm_heartbeatWord (b : Bay) (e : BayEntry) : (s.setEntry b e).swm.heartbeatWord = s.swm.heartbeatWord := by simp [State.setEntry]

@[simp] theorem setCharge_pending (b : Bay) (c : ChargeBay) : (s.setCharge b c).pending = s.pending := by simp [State.setCharge]
@[simp] theorem setCharge_now (b : Bay) (c : ChargeBay) : (s.setCharge b c).now = s.now := by simp [State.setCharge]
@[simp] theorem setCharge_choices (b : Bay) (c : ChargeBay) : (s.setCharge b c).choices = s.choices := by simp [State.setCharge]
@[simp] theorem setCharge_pins (b : Bay) (c : ChargeBay) : (s.setCharge b c).pins = s.pins := by simp [State.setCharge]
@[simp] theorem setCharge_vsense (b : Bay) (c : ChargeBay) : (s.setCharge b c).vsense = s.vsense := by simp [State.setCharge]
@[simp] theorem setCharge_bmon (b : Bay) (c : ChargeBay) : (s.setCharge b c).bmon = s.bmon := by simp [State.setCharge]
@[simp] theorem setCharge_palloc (b : Bay) (c : ChargeBay) : (s.setCharge b c).palloc = s.palloc := by simp [State.setCharge]
@[simp] theorem setCharge_cctl (b : Bay) (c : ChargeBay) : (s.setCharge b c).cctl = s.cctl.set b c := by simp [State.setCharge]
@[simp] theorem setCharge_psched (b : Bay) (c : ChargeBay) : (s.setCharge b c).psched = s.psched := by simp [State.setCharge]
@[simp] theorem setCharge_acc (b : Bay) (c : ChargeBay) : (s.setCharge b c).acc = s.acc := by simp [State.setCharge]
@[simp] theorem setCharge_cust (b : Bay) (c : ChargeBay) : (s.setCharge b c).cust = s.cust := by simp [State.setCharge]
@[simp] theorem setCharge_ldrv (b : Bay) (c : ChargeBay) : (s.setCharge b c).ldrv = s.ldrv := by simp [State.setCharge]
@[simp] theorem setCharge_smon (b : Bay) (c : ChargeBay) : (s.setCharge b c).smon = s.smon := by simp [State.setCharge]
@[simp] theorem setCharge_owalk (b : Bay) (c : ChargeBay) : (s.setCharge b c).owalk = s.owalk := by simp [State.setCharge]
@[simp] theorem setCharge_nctl (b : Bay) (c : ChargeBay) : (s.setCharge b c).nctl = s.nctl := by simp [State.setCharge]
@[simp] theorem setCharge_out (b : Bay) (c : ChargeBay) : (s.setCharge b c).out = s.out := by simp [State.setCharge]
@[simp] theorem setCharge_swm_mem (b : Bay) (c : ChargeBay) : (s.setCharge b c).swm.mem = s.swm.mem := by simp [State.setCharge]
@[simp] theorem setCharge_swm_ready (b : Bay) (c : ChargeBay) : (s.setCharge b c).swm.ready = s.swm.ready := by simp [State.setCharge]
@[simp] theorem setCharge_swm_resetCause (b : Bay) (c : ChargeBay) : (s.setCharge b c).swm.resetCause = s.swm.resetCause := by simp [State.setCharge]
@[simp] theorem setCharge_swm_guardArmed (b : Bay) (c : ChargeBay) : (s.setCharge b c).swm.guardArmed = s.swm.guardArmed := by simp [State.setCharge]
@[simp] theorem setCharge_swm_guardOffset (b : Bay) (c : ChargeBay) : (s.setCharge b c).swm.guardOffset = s.swm.guardOffset := by simp [State.setCharge]
@[simp] theorem setCharge_swm_endWord (b : Bay) (c : ChargeBay) : (s.setCharge b c).swm.endWord = s.swm.endWord := by simp [State.setCharge]
@[simp] theorem setCharge_swm_heartbeatWord (b : Bay) (c : ChargeBay) : (s.setCharge b c).swm.heartbeatWord = s.swm.heartbeatWord := by simp [State.setCharge]

@[simp] theorem setPalloc_pending (p : PAlloc) : (s.setPalloc p).pending = s.pending := by simp [State.setPalloc]
@[simp] theorem setPalloc_now (p : PAlloc) : (s.setPalloc p).now = s.now := by simp [State.setPalloc]
@[simp] theorem setPalloc_choices (p : PAlloc) : (s.setPalloc p).choices = s.choices := by simp [State.setPalloc]
@[simp] theorem setPalloc_pins (p : PAlloc) : (s.setPalloc p).pins = s.pins := by simp [State.setPalloc]
@[simp] theorem setPalloc_vsense (p : PAlloc) : (s.setPalloc p).vsense = s.vsense := by simp [State.setPalloc]
@[simp] theorem setPalloc_bmon (p : PAlloc) : (s.setPalloc p).bmon = s.bmon := by simp [State.setPalloc]
@[simp] theorem setPalloc_palloc (p : PAlloc) : (s.setPalloc p).palloc = p := by simp [State.setPalloc]
@[simp] theorem setPalloc_cctl (p : PAlloc) : (s.setPalloc p).cctl = s.cctl := by simp [State.setPalloc]
@[simp] theorem setPalloc_psched (p : PAlloc) : (s.setPalloc p).psched = s.psched := by simp [State.setPalloc]
@[simp] theorem setPalloc_acc (p : PAlloc) : (s.setPalloc p).acc = s.acc := by simp [State.setPalloc]
@[simp] theorem setPalloc_cust (p : PAlloc) : (s.setPalloc p).cust = s.cust := by simp [State.setPalloc]
@[simp] theorem setPalloc_ldrv (p : PAlloc) : (s.setPalloc p).ldrv = s.ldrv := by simp [State.setPalloc]
@[simp] theorem setPalloc_smon (p : PAlloc) : (s.setPalloc p).smon = s.smon := by simp [State.setPalloc]
@[simp] theorem setPalloc_owalk (p : PAlloc) : (s.setPalloc p).owalk = s.owalk := by simp [State.setPalloc]
@[simp] theorem setPalloc_nctl (p : PAlloc) : (s.setPalloc p).nctl = s.nctl := by simp [State.setPalloc]
@[simp] theorem setPalloc_out (p : PAlloc) : (s.setPalloc p).out = s.out := by simp [State.setPalloc]
@[simp] theorem setPalloc_swm_mem (p : PAlloc) : (s.setPalloc p).swm.mem = s.swm.mem := by simp [State.setPalloc]
@[simp] theorem setPalloc_swm_ready (p : PAlloc) : (s.setPalloc p).swm.ready = s.swm.ready := by simp [State.setPalloc]
@[simp] theorem setPalloc_swm_resetCause (p : PAlloc) : (s.setPalloc p).swm.resetCause = s.swm.resetCause := by simp [State.setPalloc]
@[simp] theorem setPalloc_swm_guardArmed (p : PAlloc) : (s.setPalloc p).swm.guardArmed = s.swm.guardArmed := by simp [State.setPalloc]
@[simp] theorem setPalloc_swm_guardOffset (p : PAlloc) : (s.setPalloc p).swm.guardOffset = s.swm.guardOffset := by simp [State.setPalloc]
@[simp] theorem setPalloc_swm_endWord (p : PAlloc) : (s.setPalloc p).swm.endWord = s.swm.endWord := by simp [State.setPalloc]
@[simp] theorem setPalloc_swm_heartbeatWord (p : PAlloc) : (s.setPalloc p).swm.heartbeatWord = s.swm.heartbeatWord := by simp [State.setPalloc]

@[simp] theorem setAcc_pending (a : Acc) : (s.setAcc a).pending = s.pending := by simp [State.setAcc]
@[simp] theorem setAcc_now (a : Acc) : (s.setAcc a).now = s.now := by simp [State.setAcc]
@[simp] theorem setAcc_choices (a : Acc) : (s.setAcc a).choices = s.choices := by simp [State.setAcc]
@[simp] theorem setAcc_pins (a : Acc) : (s.setAcc a).pins = s.pins := by simp [State.setAcc]
@[simp] theorem setAcc_vsense (a : Acc) : (s.setAcc a).vsense = s.vsense := by simp [State.setAcc]
@[simp] theorem setAcc_bmon (a : Acc) : (s.setAcc a).bmon = s.bmon := by simp [State.setAcc]
@[simp] theorem setAcc_palloc (a : Acc) : (s.setAcc a).palloc = s.palloc := by simp [State.setAcc]
@[simp] theorem setAcc_cctl (a : Acc) : (s.setAcc a).cctl = s.cctl := by simp [State.setAcc]
@[simp] theorem setAcc_psched (a : Acc) : (s.setAcc a).psched = s.psched := by simp [State.setAcc]
@[simp] theorem setAcc_acc (a : Acc) : (s.setAcc a).acc = a := by simp [State.setAcc]
@[simp] theorem setAcc_cust (a : Acc) : (s.setAcc a).cust = s.cust := by simp [State.setAcc]
@[simp] theorem setAcc_ldrv (a : Acc) : (s.setAcc a).ldrv = s.ldrv := by simp [State.setAcc]
@[simp] theorem setAcc_smon (a : Acc) : (s.setAcc a).smon = s.smon := by simp [State.setAcc]
@[simp] theorem setAcc_owalk (a : Acc) : (s.setAcc a).owalk = s.owalk := by simp [State.setAcc]
@[simp] theorem setAcc_nctl (a : Acc) : (s.setAcc a).nctl = s.nctl := by simp [State.setAcc]
@[simp] theorem setAcc_out (a : Acc) : (s.setAcc a).out = s.out := by simp [State.setAcc]
@[simp] theorem setAcc_swm_mem (a : Acc) : (s.setAcc a).swm.mem = s.swm.mem := by simp [State.setAcc]
@[simp] theorem setAcc_swm_ready (a : Acc) : (s.setAcc a).swm.ready = s.swm.ready := by simp [State.setAcc]
@[simp] theorem setAcc_swm_resetCause (a : Acc) : (s.setAcc a).swm.resetCause = s.swm.resetCause := by simp [State.setAcc]
@[simp] theorem setAcc_swm_guardArmed (a : Acc) : (s.setAcc a).swm.guardArmed = s.swm.guardArmed := by simp [State.setAcc]
@[simp] theorem setAcc_swm_guardOffset (a : Acc) : (s.setAcc a).swm.guardOffset = s.swm.guardOffset := by simp [State.setAcc]
@[simp] theorem setAcc_swm_endWord (a : Acc) : (s.setAcc a).swm.endWord = s.swm.endWord := by simp [State.setAcc]
@[simp] theorem setAcc_swm_heartbeatWord (a : Acc) : (s.setAcc a).swm.heartbeatWord = s.swm.heartbeatWord := by simp [State.setAcc]

@[simp] theorem setReservation_pending (b : Bay) (r : Option Reservation) : (s.setReservation b r).pending = s.pending := by simp [State.setReservation]
@[simp] theorem setReservation_now (b : Bay) (r : Option Reservation) : (s.setReservation b r).now = s.now := by simp [State.setReservation]
@[simp] theorem setReservation_choices (b : Bay) (r : Option Reservation) : (s.setReservation b r).choices = s.choices := by simp [State.setReservation]
@[simp] theorem setReservation_pins (b : Bay) (r : Option Reservation) : (s.setReservation b r).pins = s.pins := by simp [State.setReservation]
@[simp] theorem setReservation_vsense (b : Bay) (r : Option Reservation) : (s.setReservation b r).vsense = s.vsense := by simp [State.setReservation]
@[simp] theorem setReservation_bmon (b : Bay) (r : Option Reservation) : (s.setReservation b r).bmon = s.bmon := by simp [State.setReservation]
@[simp] theorem setReservation_palloc (b : Bay) (r : Option Reservation) : (s.setReservation b r).palloc = s.palloc := by simp [State.setReservation]
@[simp] theorem setReservation_cctl (b : Bay) (r : Option Reservation) : (s.setReservation b r).cctl = s.cctl := by simp [State.setReservation]
@[simp] theorem setReservation_psched (b : Bay) (r : Option Reservation) : (s.setReservation b r).psched = s.psched := by simp [State.setReservation]
@[simp] theorem setReservation_acc (b : Bay) (r : Option Reservation) : (s.setReservation b r).acc = { s.acc with reservations := s.acc.reservations.set b r } := by simp [State.setReservation]
@[simp] theorem setReservation_cust (b : Bay) (r : Option Reservation) : (s.setReservation b r).cust = s.cust := by simp [State.setReservation]
@[simp] theorem setReservation_ldrv (b : Bay) (r : Option Reservation) : (s.setReservation b r).ldrv = s.ldrv := by simp [State.setReservation]
@[simp] theorem setReservation_smon (b : Bay) (r : Option Reservation) : (s.setReservation b r).smon = s.smon := by simp [State.setReservation]
@[simp] theorem setReservation_owalk (b : Bay) (r : Option Reservation) : (s.setReservation b r).owalk = s.owalk := by simp [State.setReservation]
@[simp] theorem setReservation_nctl (b : Bay) (r : Option Reservation) : (s.setReservation b r).nctl = s.nctl := by simp [State.setReservation]
@[simp] theorem setReservation_out (b : Bay) (r : Option Reservation) : (s.setReservation b r).out = s.out := by simp [State.setReservation]
@[simp] theorem setReservation_swm_mem (b : Bay) (r : Option Reservation) : (s.setReservation b r).swm.mem = s.swm.mem := by simp [State.setReservation]
@[simp] theorem setReservation_swm_ready (b : Bay) (r : Option Reservation) : (s.setReservation b r).swm.ready = s.swm.ready := by simp [State.setReservation]
@[simp] theorem setReservation_swm_resetCause (b : Bay) (r : Option Reservation) : (s.setReservation b r).swm.resetCause = s.swm.resetCause := by simp [State.setReservation]
@[simp] theorem setReservation_swm_guardArmed (b : Bay) (r : Option Reservation) : (s.setReservation b r).swm.guardArmed = s.swm.guardArmed := by simp [State.setReservation]
@[simp] theorem setReservation_swm_guardOffset (b : Bay) (r : Option Reservation) : (s.setReservation b r).swm.guardOffset = s.swm.guardOffset := by simp [State.setReservation]
@[simp] theorem setReservation_swm_endWord (b : Bay) (r : Option Reservation) : (s.setReservation b r).swm.endWord = s.swm.endWord := by simp [State.setReservation]
@[simp] theorem setReservation_swm_heartbeatWord (b : Bay) (r : Option Reservation) : (s.setReservation b r).swm.heartbeatWord = s.swm.heartbeatWord := by simp [State.setReservation]

@[simp] theorem setSmon_pending (m : Smon) : (s.setSmon m).pending = s.pending := by simp [State.setSmon]
@[simp] theorem setSmon_now (m : Smon) : (s.setSmon m).now = s.now := by simp [State.setSmon]
@[simp] theorem setSmon_choices (m : Smon) : (s.setSmon m).choices = s.choices := by simp [State.setSmon]
@[simp] theorem setSmon_pins (m : Smon) : (s.setSmon m).pins = s.pins := by simp [State.setSmon]
@[simp] theorem setSmon_vsense (m : Smon) : (s.setSmon m).vsense = s.vsense := by simp [State.setSmon]
@[simp] theorem setSmon_bmon (m : Smon) : (s.setSmon m).bmon = s.bmon := by simp [State.setSmon]
@[simp] theorem setSmon_palloc (m : Smon) : (s.setSmon m).palloc = s.palloc := by simp [State.setSmon]
@[simp] theorem setSmon_cctl (m : Smon) : (s.setSmon m).cctl = s.cctl := by simp [State.setSmon]
@[simp] theorem setSmon_psched (m : Smon) : (s.setSmon m).psched = s.psched := by simp [State.setSmon]
@[simp] theorem setSmon_acc (m : Smon) : (s.setSmon m).acc = s.acc := by simp [State.setSmon]
@[simp] theorem setSmon_cust (m : Smon) : (s.setSmon m).cust = s.cust := by simp [State.setSmon]
@[simp] theorem setSmon_ldrv (m : Smon) : (s.setSmon m).ldrv = s.ldrv := by simp [State.setSmon]
@[simp] theorem setSmon_smon (m : Smon) : (s.setSmon m).smon = m := by simp [State.setSmon]
@[simp] theorem setSmon_owalk (m : Smon) : (s.setSmon m).owalk = s.owalk := by simp [State.setSmon]
@[simp] theorem setSmon_nctl (m : Smon) : (s.setSmon m).nctl = s.nctl := by simp [State.setSmon]
@[simp] theorem setSmon_out (m : Smon) : (s.setSmon m).out = s.out := by simp [State.setSmon]
@[simp] theorem setSmon_swm_mem (m : Smon) : (s.setSmon m).swm.mem = s.swm.mem := by simp [State.setSmon]
@[simp] theorem setSmon_swm_ready (m : Smon) : (s.setSmon m).swm.ready = s.swm.ready := by simp [State.setSmon]
@[simp] theorem setSmon_swm_resetCause (m : Smon) : (s.setSmon m).swm.resetCause = s.swm.resetCause := by simp [State.setSmon]
@[simp] theorem setSmon_swm_guardArmed (m : Smon) : (s.setSmon m).swm.guardArmed = s.swm.guardArmed := by simp [State.setSmon]
@[simp] theorem setSmon_swm_guardOffset (m : Smon) : (s.setSmon m).swm.guardOffset = s.swm.guardOffset := by simp [State.setSmon]
@[simp] theorem setSmon_swm_endWord (m : Smon) : (s.setSmon m).swm.endWord = s.swm.endWord := by simp [State.setSmon]
@[simp] theorem setSmon_swm_heartbeatWord (m : Smon) : (s.setSmon m).swm.heartbeatWord = s.swm.heartbeatWord := by simp [State.setSmon]

@[simp] theorem setSlot_pending (i : Fin 48) (r : Option CustodyRecord) : (s.setSlot i r).pending = s.pending := by simp [State.setSlot]
@[simp] theorem setSlot_now (i : Fin 48) (r : Option CustodyRecord) : (s.setSlot i r).now = s.now := by simp [State.setSlot]
@[simp] theorem setSlot_choices (i : Fin 48) (r : Option CustodyRecord) : (s.setSlot i r).choices = s.choices := by simp [State.setSlot]
@[simp] theorem setSlot_pins (i : Fin 48) (r : Option CustodyRecord) : (s.setSlot i r).pins = s.pins := by simp [State.setSlot]
@[simp] theorem setSlot_vsense (i : Fin 48) (r : Option CustodyRecord) : (s.setSlot i r).vsense = s.vsense := by simp [State.setSlot]
@[simp] theorem setSlot_bmon (i : Fin 48) (r : Option CustodyRecord) : (s.setSlot i r).bmon = s.bmon := by simp [State.setSlot]
@[simp] theorem setSlot_palloc (i : Fin 48) (r : Option CustodyRecord) : (s.setSlot i r).palloc = s.palloc := by simp [State.setSlot]
@[simp] theorem setSlot_cctl (i : Fin 48) (r : Option CustodyRecord) : (s.setSlot i r).cctl = s.cctl := by simp [State.setSlot]
@[simp] theorem setSlot_psched (i : Fin 48) (r : Option CustodyRecord) : (s.setSlot i r).psched = s.psched := by simp [State.setSlot]
@[simp] theorem setSlot_acc (i : Fin 48) (r : Option CustodyRecord) : (s.setSlot i r).acc = s.acc := by simp [State.setSlot]
@[simp] theorem setSlot_ldrv (i : Fin 48) (r : Option CustodyRecord) : (s.setSlot i r).ldrv = s.ldrv := by simp [State.setSlot]
@[simp] theorem setSlot_smon (i : Fin 48) (r : Option CustodyRecord) : (s.setSlot i r).smon = s.smon := by simp [State.setSlot]
@[simp] theorem setSlot_swm (i : Fin 48) (r : Option CustodyRecord) : (s.setSlot i r).swm = s.swm := by simp [State.setSlot]
@[simp] theorem setSlot_owalk (i : Fin 48) (r : Option CustodyRecord) : (s.setSlot i r).owalk = s.owalk := by simp [State.setSlot]
@[simp] theorem setSlot_nctl (i : Fin 48) (r : Option CustodyRecord) : (s.setSlot i r).nctl = s.nctl := by simp [State.setSlot]
@[simp] theorem setSlot_out (i : Fin 48) (r : Option CustodyRecord) : (s.setSlot i r).out = s.out := by simp [State.setSlot]

@[simp] theorem setJournal_pending (j : Fin 48) (e : JournalEntry) : (s.setJournal j e).pending = s.pending := by simp [State.setJournal]
@[simp] theorem setJournal_now (j : Fin 48) (e : JournalEntry) : (s.setJournal j e).now = s.now := by simp [State.setJournal]
@[simp] theorem setJournal_choices (j : Fin 48) (e : JournalEntry) : (s.setJournal j e).choices = s.choices := by simp [State.setJournal]
@[simp] theorem setJournal_pins (j : Fin 48) (e : JournalEntry) : (s.setJournal j e).pins = s.pins := by simp [State.setJournal]
@[simp] theorem setJournal_vsense (j : Fin 48) (e : JournalEntry) : (s.setJournal j e).vsense = s.vsense := by simp [State.setJournal]
@[simp] theorem setJournal_bmon (j : Fin 48) (e : JournalEntry) : (s.setJournal j e).bmon = s.bmon := by simp [State.setJournal]
@[simp] theorem setJournal_palloc (j : Fin 48) (e : JournalEntry) : (s.setJournal j e).palloc = s.palloc := by simp [State.setJournal]
@[simp] theorem setJournal_cctl (j : Fin 48) (e : JournalEntry) : (s.setJournal j e).cctl = s.cctl := by simp [State.setJournal]
@[simp] theorem setJournal_psched (j : Fin 48) (e : JournalEntry) : (s.setJournal j e).psched = s.psched := by simp [State.setJournal]
@[simp] theorem setJournal_acc (j : Fin 48) (e : JournalEntry) : (s.setJournal j e).acc = s.acc := by simp [State.setJournal]
@[simp] theorem setJournal_cust (j : Fin 48) (e : JournalEntry) : (s.setJournal j e).cust = { s.cust with journal := s.cust.journal.set j e } := by simp [State.setJournal]
@[simp] theorem setJournal_ldrv (j : Fin 48) (e : JournalEntry) : (s.setJournal j e).ldrv = s.ldrv := by simp [State.setJournal]
@[simp] theorem setJournal_smon (j : Fin 48) (e : JournalEntry) : (s.setJournal j e).smon = s.smon := by simp [State.setJournal]
@[simp] theorem setJournal_swm (j : Fin 48) (e : JournalEntry) : (s.setJournal j e).swm = s.swm := by simp [State.setJournal]
@[simp] theorem setJournal_owalk (j : Fin 48) (e : JournalEntry) : (s.setJournal j e).owalk = s.owalk := by simp [State.setJournal]
@[simp] theorem setJournal_nctl (j : Fin 48) (e : JournalEntry) : (s.setJournal j e).nctl = s.nctl := by simp [State.setJournal]
@[simp] theorem setJournal_out (j : Fin 48) (e : JournalEntry) : (s.setJournal j e).out = s.out := by simp [State.setJournal]

@[simp] theorem setRelease_pending (b : Bay) (r : Option Release) : (s.setRelease b r).pending = s.pending := by simp [State.setRelease]
@[simp] theorem setRelease_now (b : Bay) (r : Option Release) : (s.setRelease b r).now = s.now := by simp [State.setRelease]
@[simp] theorem setRelease_choices (b : Bay) (r : Option Release) : (s.setRelease b r).choices = s.choices := by simp [State.setRelease]
@[simp] theorem setRelease_pins (b : Bay) (r : Option Release) : (s.setRelease b r).pins = s.pins := by simp [State.setRelease]
@[simp] theorem setRelease_vsense (b : Bay) (r : Option Release) : (s.setRelease b r).vsense = s.vsense := by simp [State.setRelease]
@[simp] theorem setRelease_bmon (b : Bay) (r : Option Release) : (s.setRelease b r).bmon = s.bmon := by simp [State.setRelease]
@[simp] theorem setRelease_palloc (b : Bay) (r : Option Release) : (s.setRelease b r).palloc = s.palloc := by simp [State.setRelease]
@[simp] theorem setRelease_cctl (b : Bay) (r : Option Release) : (s.setRelease b r).cctl = s.cctl := by simp [State.setRelease]
@[simp] theorem setRelease_psched (b : Bay) (r : Option Release) : (s.setRelease b r).psched = s.psched := by simp [State.setRelease]
@[simp] theorem setRelease_acc (b : Bay) (r : Option Release) : (s.setRelease b r).acc = s.acc := by simp [State.setRelease]
@[simp] theorem setRelease_cust (b : Bay) (r : Option Release) : (s.setRelease b r).cust = { s.cust with releases := s.cust.releases.set b r } := by simp [State.setRelease]
@[simp] theorem setRelease_ldrv (b : Bay) (r : Option Release) : (s.setRelease b r).ldrv = s.ldrv := by simp [State.setRelease]
@[simp] theorem setRelease_smon (b : Bay) (r : Option Release) : (s.setRelease b r).smon = s.smon := by simp [State.setRelease]
@[simp] theorem setRelease_swm (b : Bay) (r : Option Release) : (s.setRelease b r).swm = s.swm := by simp [State.setRelease]
@[simp] theorem setRelease_owalk (b : Bay) (r : Option Release) : (s.setRelease b r).owalk = s.owalk := by simp [State.setRelease]
@[simp] theorem setRelease_nctl (b : Bay) (r : Option Release) : (s.setRelease b r).nctl = s.nctl := by simp [State.setRelease]
@[simp] theorem setRelease_out (b : Bay) (r : Option Release) : (s.setRelease b r).out = s.out := by simp [State.setRelease]

@[simp] theorem setProv_pending (b : Bay) (r : ProvRecord) : (s.setProv b r).pending = s.pending := by simp [State.setProv]
@[simp] theorem setProv_now (b : Bay) (r : ProvRecord) : (s.setProv b r).now = s.now := by simp [State.setProv]
@[simp] theorem setProv_choices (b : Bay) (r : ProvRecord) : (s.setProv b r).choices = s.choices := by simp [State.setProv]
@[simp] theorem setProv_pins (b : Bay) (r : ProvRecord) : (s.setProv b r).pins = s.pins := by simp [State.setProv]
@[simp] theorem setProv_vsense (b : Bay) (r : ProvRecord) : (s.setProv b r).vsense = s.vsense := by simp [State.setProv]
@[simp] theorem setProv_bmon (b : Bay) (r : ProvRecord) : (s.setProv b r).bmon = s.bmon := by simp [State.setProv]
@[simp] theorem setProv_palloc (b : Bay) (r : ProvRecord) : (s.setProv b r).palloc = s.palloc := by simp [State.setProv]
@[simp] theorem setProv_cctl (b : Bay) (r : ProvRecord) : (s.setProv b r).cctl = s.cctl := by simp [State.setProv]
@[simp] theorem setProv_psched (b : Bay) (r : ProvRecord) : (s.setProv b r).psched = { s.psched with records := s.psched.records.set b r } := by simp [State.setProv]
@[simp] theorem setProv_acc (b : Bay) (r : ProvRecord) : (s.setProv b r).acc = s.acc := by simp [State.setProv]
@[simp] theorem setProv_cust (b : Bay) (r : ProvRecord) : (s.setProv b r).cust = s.cust := by simp [State.setProv]
@[simp] theorem setProv_ldrv (b : Bay) (r : ProvRecord) : (s.setProv b r).ldrv = s.ldrv := by simp [State.setProv]
@[simp] theorem setProv_smon (b : Bay) (r : ProvRecord) : (s.setProv b r).smon = s.smon := by simp [State.setProv]
@[simp] theorem setProv_swm (b : Bay) (r : ProvRecord) : (s.setProv b r).swm = s.swm := by simp [State.setProv]
@[simp] theorem setProv_owalk (b : Bay) (r : ProvRecord) : (s.setProv b r).owalk = s.owalk := by simp [State.setProv]
@[simp] theorem setProv_nctl (b : Bay) (r : ProvRecord) : (s.setProv b r).nctl = s.nctl := by simp [State.setProv]
@[simp] theorem setProv_out (b : Bay) (r : ProvRecord) : (s.setProv b r).out = s.out := by simp [State.setProv]

@[simp] theorem setQueue_pending (q : List Bay) : (s.setQueue q).pending = s.pending := by simp [State.setQueue]
@[simp] theorem setQueue_now (q : List Bay) : (s.setQueue q).now = s.now := by simp [State.setQueue]
@[simp] theorem setQueue_choices (q : List Bay) : (s.setQueue q).choices = s.choices := by simp [State.setQueue]
@[simp] theorem setQueue_pins (q : List Bay) : (s.setQueue q).pins = s.pins := by simp [State.setQueue]
@[simp] theorem setQueue_vsense (q : List Bay) : (s.setQueue q).vsense = s.vsense := by simp [State.setQueue]
@[simp] theorem setQueue_bmon (q : List Bay) : (s.setQueue q).bmon = s.bmon := by simp [State.setQueue]
@[simp] theorem setQueue_palloc (q : List Bay) : (s.setQueue q).palloc = s.palloc := by simp [State.setQueue]
@[simp] theorem setQueue_cctl (q : List Bay) : (s.setQueue q).cctl = s.cctl := by simp [State.setQueue]
@[simp] theorem setQueue_psched (q : List Bay) : (s.setQueue q).psched = { s.psched with queue := q } := by simp [State.setQueue]
@[simp] theorem setQueue_acc (q : List Bay) : (s.setQueue q).acc = s.acc := by simp [State.setQueue]
@[simp] theorem setQueue_cust (q : List Bay) : (s.setQueue q).cust = s.cust := by simp [State.setQueue]
@[simp] theorem setQueue_ldrv (q : List Bay) : (s.setQueue q).ldrv = s.ldrv := by simp [State.setQueue]
@[simp] theorem setQueue_smon (q : List Bay) : (s.setQueue q).smon = s.smon := by simp [State.setQueue]
@[simp] theorem setQueue_swm (q : List Bay) : (s.setQueue q).swm = s.swm := by simp [State.setQueue]
@[simp] theorem setQueue_owalk (q : List Bay) : (s.setQueue q).owalk = s.owalk := by simp [State.setQueue]
@[simp] theorem setQueue_nctl (q : List Bay) : (s.setQueue q).nctl = s.nctl := by simp [State.setQueue]
@[simp] theorem setQueue_out (q : List Bay) : (s.setQueue q).out = s.out := by simp [State.setQueue]

@[simp] theorem setChannel_pending (c : Chan) (x : Channel) : (s.setChannel c x).pending = s.pending := by simp [State.setChannel]
@[simp] theorem setChannel_now (c : Chan) (x : Channel) : (s.setChannel c x).now = s.now := by simp [State.setChannel]
@[simp] theorem setChannel_choices (c : Chan) (x : Channel) : (s.setChannel c x).choices = s.choices := by simp [State.setChannel]
@[simp] theorem setChannel_pins (c : Chan) (x : Channel) : (s.setChannel c x).pins = s.pins := by simp [State.setChannel]
@[simp] theorem setChannel_vsense (c : Chan) (x : Channel) : (s.setChannel c x).vsense = s.vsense := by simp [State.setChannel]
@[simp] theorem setChannel_bmon (c : Chan) (x : Channel) : (s.setChannel c x).bmon = s.bmon := by simp [State.setChannel]
@[simp] theorem setChannel_palloc (c : Chan) (x : Channel) : (s.setChannel c x).palloc = s.palloc := by simp [State.setChannel]
@[simp] theorem setChannel_cctl (c : Chan) (x : Channel) : (s.setChannel c x).cctl = s.cctl := by simp [State.setChannel]
@[simp] theorem setChannel_psched (c : Chan) (x : Channel) : (s.setChannel c x).psched = { s.psched with channels := s.psched.channels.set c x } := by simp [State.setChannel]
@[simp] theorem setChannel_acc (c : Chan) (x : Channel) : (s.setChannel c x).acc = s.acc := by simp [State.setChannel]
@[simp] theorem setChannel_cust (c : Chan) (x : Channel) : (s.setChannel c x).cust = s.cust := by simp [State.setChannel]
@[simp] theorem setChannel_ldrv (c : Chan) (x : Channel) : (s.setChannel c x).ldrv = s.ldrv := by simp [State.setChannel]
@[simp] theorem setChannel_smon (c : Chan) (x : Channel) : (s.setChannel c x).smon = s.smon := by simp [State.setChannel]
@[simp] theorem setChannel_swm (c : Chan) (x : Channel) : (s.setChannel c x).swm = s.swm := by simp [State.setChannel]
@[simp] theorem setChannel_owalk (c : Chan) (x : Channel) : (s.setChannel c x).owalk = s.owalk := by simp [State.setChannel]
@[simp] theorem setChannel_nctl (c : Chan) (x : Channel) : (s.setChannel c x).nctl = s.nctl := by simp [State.setChannel]
@[simp] theorem setChannel_out (c : Chan) (x : Channel) : (s.setChannel c x).out = s.out := by simp [State.setChannel]

@[simp] theorem setList_pending (i : ListId) (l : OrderList) : (s.setList i l).pending = s.pending := by simp [State.setList]
@[simp] theorem setList_now (i : ListId) (l : OrderList) : (s.setList i l).now = s.now := by simp [State.setList]
@[simp] theorem setList_choices (i : ListId) (l : OrderList) : (s.setList i l).choices = s.choices := by simp [State.setList]
@[simp] theorem setList_pins (i : ListId) (l : OrderList) : (s.setList i l).pins = s.pins := by simp [State.setList]
@[simp] theorem setList_vsense (i : ListId) (l : OrderList) : (s.setList i l).vsense = s.vsense := by simp [State.setList]
@[simp] theorem setList_bmon (i : ListId) (l : OrderList) : (s.setList i l).bmon = s.bmon := by simp [State.setList]
@[simp] theorem setList_palloc (i : ListId) (l : OrderList) : (s.setList i l).palloc = s.palloc := by simp [State.setList]
@[simp] theorem setList_cctl (i : ListId) (l : OrderList) : (s.setList i l).cctl = s.cctl := by simp [State.setList]
@[simp] theorem setList_psched (i : ListId) (l : OrderList) : (s.setList i l).psched = s.psched := by simp [State.setList]
@[simp] theorem setList_acc (i : ListId) (l : OrderList) : (s.setList i l).acc = s.acc := by simp [State.setList]
@[simp] theorem setList_cust (i : ListId) (l : OrderList) : (s.setList i l).cust = s.cust := by simp [State.setList]
@[simp] theorem setList_ldrv (i : ListId) (l : OrderList) : (s.setList i l).ldrv = s.ldrv := by simp [State.setList]
@[simp] theorem setList_smon (i : ListId) (l : OrderList) : (s.setList i l).smon = s.smon := by simp [State.setList]
@[simp] theorem setList_swm (i : ListId) (l : OrderList) : (s.setList i l).swm = s.swm := by simp [State.setList]
@[simp] theorem setList_owalk (i : ListId) (l : OrderList) : (s.setList i l).owalk = s.owalk.set i l := by simp [State.setList]
@[simp] theorem setList_nctl (i : ListId) (l : OrderList) : (s.setList i l).nctl = s.nctl := by simp [State.setList]
@[simp] theorem setList_out (i : ListId) (l : OrderList) : (s.setList i l).out = s.out := by simp [State.setList]

@[simp] theorem setPins_pending (b : Bay) (p : BayPins) : (s.setPins b p).pending = s.pending := by simp [State.setPins]
@[simp] theorem setPins_now (b : Bay) (p : BayPins) : (s.setPins b p).now = s.now := by simp [State.setPins]
@[simp] theorem setPins_choices (b : Bay) (p : BayPins) : (s.setPins b p).choices = s.choices := by simp [State.setPins]
@[simp] theorem setPins_pins (b : Bay) (p : BayPins) : (s.setPins b p).pins = s.pins.set b p := by simp [State.setPins]
@[simp] theorem setPins_vsense (b : Bay) (p : BayPins) : (s.setPins b p).vsense = s.vsense := by simp [State.setPins]
@[simp] theorem setPins_bmon (b : Bay) (p : BayPins) : (s.setPins b p).bmon = s.bmon := by simp [State.setPins]
@[simp] theorem setPins_palloc (b : Bay) (p : BayPins) : (s.setPins b p).palloc = s.palloc := by simp [State.setPins]
@[simp] theorem setPins_cctl (b : Bay) (p : BayPins) : (s.setPins b p).cctl = s.cctl := by simp [State.setPins]
@[simp] theorem setPins_psched (b : Bay) (p : BayPins) : (s.setPins b p).psched = s.psched := by simp [State.setPins]
@[simp] theorem setPins_acc (b : Bay) (p : BayPins) : (s.setPins b p).acc = s.acc := by simp [State.setPins]
@[simp] theorem setPins_cust (b : Bay) (p : BayPins) : (s.setPins b p).cust = s.cust := by simp [State.setPins]
@[simp] theorem setPins_ldrv (b : Bay) (p : BayPins) : (s.setPins b p).ldrv = s.ldrv := by simp [State.setPins]
@[simp] theorem setPins_smon (b : Bay) (p : BayPins) : (s.setPins b p).smon = s.smon := by simp [State.setPins]
@[simp] theorem setPins_swm (b : Bay) (p : BayPins) : (s.setPins b p).swm = s.swm := by simp [State.setPins]
@[simp] theorem setPins_owalk (b : Bay) (p : BayPins) : (s.setPins b p).owalk = s.owalk := by simp [State.setPins]
@[simp] theorem setPins_nctl (b : Bay) (p : BayPins) : (s.setPins b p).nctl = s.nctl := by simp [State.setPins]
@[simp] theorem setPins_out (b : Bay) (p : BayPins) : (s.setPins b p).out = s.out := by simp [State.setPins]

@[simp] theorem withMem_pending (m : List Host.Cell) : (s.withMem m).pending = s.pending := by simp [State.withMem]
@[simp] theorem withMem_now (m : List Host.Cell) : (s.withMem m).now = s.now := by simp [State.withMem]
@[simp] theorem withMem_choices (m : List Host.Cell) : (s.withMem m).choices = s.choices := by simp [State.withMem]
@[simp] theorem withMem_pins (m : List Host.Cell) : (s.withMem m).pins = s.pins := by simp [State.withMem]
@[simp] theorem withMem_vsense (m : List Host.Cell) : (s.withMem m).vsense = s.vsense := by simp [State.withMem]
@[simp] theorem withMem_bmon (m : List Host.Cell) : (s.withMem m).bmon = s.bmon := by simp [State.withMem]
@[simp] theorem withMem_palloc (m : List Host.Cell) : (s.withMem m).palloc = s.palloc := by simp [State.withMem]
@[simp] theorem withMem_cctl (m : List Host.Cell) : (s.withMem m).cctl = s.cctl := by simp [State.withMem]
@[simp] theorem withMem_psched (m : List Host.Cell) : (s.withMem m).psched = s.psched := by simp [State.withMem]
@[simp] theorem withMem_acc (m : List Host.Cell) : (s.withMem m).acc = s.acc := by simp [State.withMem]
@[simp] theorem withMem_cust (m : List Host.Cell) : (s.withMem m).cust = s.cust := by simp [State.withMem]
@[simp] theorem withMem_ldrv (m : List Host.Cell) : (s.withMem m).ldrv = s.ldrv := by simp [State.withMem]
@[simp] theorem withMem_smon (m : List Host.Cell) : (s.withMem m).smon = s.smon := by simp [State.withMem]
@[simp] theorem withMem_owalk (m : List Host.Cell) : (s.withMem m).owalk = s.owalk := by simp [State.withMem]
@[simp] theorem withMem_nctl (m : List Host.Cell) : (s.withMem m).nctl = s.nctl := by simp [State.withMem]
@[simp] theorem withMem_out (m : List Host.Cell) : (s.withMem m).out = s.out := by simp [State.withMem]
@[simp] theorem withMem_swm_mem (m : List Host.Cell) : (s.withMem m).swm.mem = m := by simp [State.withMem]
@[simp] theorem withMem_swm_ready (m : List Host.Cell) : (s.withMem m).swm.ready = s.swm.ready := by simp [State.withMem]
@[simp] theorem withMem_swm_resetCause (m : List Host.Cell) : (s.withMem m).swm.resetCause = s.swm.resetCause := by simp [State.withMem]
@[simp] theorem withMem_swm_guardArmed (m : List Host.Cell) : (s.withMem m).swm.guardArmed = s.swm.guardArmed := by simp [State.withMem]
@[simp] theorem withMem_swm_guardOffset (m : List Host.Cell) : (s.withMem m).swm.guardOffset = s.swm.guardOffset := by simp [State.withMem]
@[simp] theorem withMem_swm_endWord (m : List Host.Cell) : (s.withMem m).swm.endWord = s.swm.endWord := by simp [State.withMem]
@[simp] theorem withMem_swm_heartbeatWord (m : List Host.Cell) : (s.withMem m).swm.heartbeatWord = s.swm.heartbeatWord := by simp [State.withMem]

@[simp] theorem raise_pending (x : Notice) : (raise x s).pending = s.pending := by simp [raise]
@[simp] theorem raise_now (x : Notice) : (raise x s).now = s.now := by simp [raise]
@[simp] theorem raise_choices (x : Notice) : (raise x s).choices = s.choices := by simp [raise]
@[simp] theorem raise_pins (x : Notice) : (raise x s).pins = s.pins := by simp [raise]
@[simp] theorem raise_vsense (x : Notice) : (raise x s).vsense = s.vsense := by simp [raise]
@[simp] theorem raise_bmon (x : Notice) : (raise x s).bmon = s.bmon := by simp [raise]
@[simp] theorem raise_palloc (x : Notice) : (raise x s).palloc = s.palloc := by simp [raise]
@[simp] theorem raise_cctl (x : Notice) : (raise x s).cctl = s.cctl := by simp [raise]
@[simp] theorem raise_psched (x : Notice) : (raise x s).psched = s.psched := by simp [raise]
@[simp] theorem raise_acc (x : Notice) : (raise x s).acc = s.acc := by simp [raise]
@[simp] theorem raise_cust (x : Notice) : (raise x s).cust = s.cust := by simp [raise]
@[simp] theorem raise_ldrv (x : Notice) : (raise x s).ldrv = s.ldrv := by simp [raise]
@[simp] theorem raise_smon (x : Notice) : (raise x s).smon = s.smon := by simp [raise]
@[simp] theorem raise_swm (x : Notice) : (raise x s).swm = s.swm := by simp [raise]
@[simp] theorem raise_owalk (x : Notice) : (raise x s).owalk = s.owalk := by simp [raise]
@[simp] theorem raise_nctl (x : Notice) : (raise x s).nctl = s.nctl.event x.index := by simp [raise]
@[simp] theorem raise_out (x : Notice) : (raise x s).out = s.out := by simp [raise]

@[simp] theorem raiseOrderFault_pending : (raiseOrderFault s).pending = s.pending := by simp [raiseOrderFault]
@[simp] theorem raiseOrderFault_now : (raiseOrderFault s).now = s.now := by simp [raiseOrderFault]
@[simp] theorem raiseOrderFault_choices : (raiseOrderFault s).choices = s.choices := by simp [raiseOrderFault]
@[simp] theorem raiseOrderFault_pins : (raiseOrderFault s).pins = s.pins := by simp [raiseOrderFault]
@[simp] theorem raiseOrderFault_vsense : (raiseOrderFault s).vsense = s.vsense := by simp [raiseOrderFault]
@[simp] theorem raiseOrderFault_bmon : (raiseOrderFault s).bmon = s.bmon := by simp [raiseOrderFault]
@[simp] theorem raiseOrderFault_palloc : (raiseOrderFault s).palloc = s.palloc := by simp [raiseOrderFault]
@[simp] theorem raiseOrderFault_cctl : (raiseOrderFault s).cctl = s.cctl := by simp [raiseOrderFault]
@[simp] theorem raiseOrderFault_psched : (raiseOrderFault s).psched = s.psched := by simp [raiseOrderFault]
@[simp] theorem raiseOrderFault_acc : (raiseOrderFault s).acc = s.acc := by simp [raiseOrderFault]
@[simp] theorem raiseOrderFault_cust : (raiseOrderFault s).cust = s.cust := by simp [raiseOrderFault]
@[simp] theorem raiseOrderFault_ldrv : (raiseOrderFault s).ldrv = s.ldrv := by simp [raiseOrderFault]
@[simp] theorem raiseOrderFault_smon : (raiseOrderFault s).smon = s.smon := by simp [raiseOrderFault]
@[simp] theorem raiseOrderFault_swm : (raiseOrderFault s).swm = s.swm := by simp [raiseOrderFault]
@[simp] theorem raiseOrderFault_owalk : (raiseOrderFault s).owalk = s.owalk := by simp [raiseOrderFault]
@[simp] theorem raiseOrderFault_nctl : (raiseOrderFault s).nctl = s.nctl.event16 { order := true, guard := false } := by simp [raiseOrderFault]
@[simp] theorem raiseOrderFault_out : (raiseOrderFault s).out = s.out := by simp [raiseOrderFault]

@[simp] theorem raiseGuardHit_pending : (raiseGuardHit s).pending = s.pending := by simp [raiseGuardHit]
@[simp] theorem raiseGuardHit_now : (raiseGuardHit s).now = s.now := by simp [raiseGuardHit]
@[simp] theorem raiseGuardHit_choices : (raiseGuardHit s).choices = s.choices := by simp [raiseGuardHit]
@[simp] theorem raiseGuardHit_pins : (raiseGuardHit s).pins = s.pins := by simp [raiseGuardHit]
@[simp] theorem raiseGuardHit_vsense : (raiseGuardHit s).vsense = s.vsense := by simp [raiseGuardHit]
@[simp] theorem raiseGuardHit_bmon : (raiseGuardHit s).bmon = s.bmon := by simp [raiseGuardHit]
@[simp] theorem raiseGuardHit_palloc : (raiseGuardHit s).palloc = s.palloc := by simp [raiseGuardHit]
@[simp] theorem raiseGuardHit_cctl : (raiseGuardHit s).cctl = s.cctl := by simp [raiseGuardHit]
@[simp] theorem raiseGuardHit_psched : (raiseGuardHit s).psched = s.psched := by simp [raiseGuardHit]
@[simp] theorem raiseGuardHit_acc : (raiseGuardHit s).acc = s.acc := by simp [raiseGuardHit]
@[simp] theorem raiseGuardHit_cust : (raiseGuardHit s).cust = s.cust := by simp [raiseGuardHit]
@[simp] theorem raiseGuardHit_ldrv : (raiseGuardHit s).ldrv = s.ldrv := by simp [raiseGuardHit]
@[simp] theorem raiseGuardHit_smon : (raiseGuardHit s).smon = s.smon := by simp [raiseGuardHit]
@[simp] theorem raiseGuardHit_swm : (raiseGuardHit s).swm = s.swm := by simp [raiseGuardHit]
@[simp] theorem raiseGuardHit_owalk : (raiseGuardHit s).owalk = s.owalk := by simp [raiseGuardHit]
@[simp] theorem raiseGuardHit_nctl : (raiseGuardHit s).nctl = s.nctl.event16 { order := false, guard := true } := by simp [raiseGuardHit]
@[simp] theorem raiseGuardHit_out : (raiseGuardHit s).out = s.out := by simp [raiseGuardHit]

@[simp] theorem sendVerdict_pending (v : Verdict) (f : Byte) (r : Reason) : (sendVerdict v f r s).pending = s.pending := by simp [sendVerdict]
@[simp] theorem sendVerdict_now (v : Verdict) (f : Byte) (r : Reason) : (sendVerdict v f r s).now = s.now := by simp [sendVerdict]
@[simp] theorem sendVerdict_choices (v : Verdict) (f : Byte) (r : Reason) : (sendVerdict v f r s).choices = s.choices := by simp [sendVerdict]
@[simp] theorem sendVerdict_pins (v : Verdict) (f : Byte) (r : Reason) : (sendVerdict v f r s).pins = s.pins := by simp [sendVerdict]
@[simp] theorem sendVerdict_vsense (v : Verdict) (f : Byte) (r : Reason) : (sendVerdict v f r s).vsense = s.vsense := by simp [sendVerdict]
@[simp] theorem sendVerdict_bmon (v : Verdict) (f : Byte) (r : Reason) : (sendVerdict v f r s).bmon = s.bmon := by simp [sendVerdict]
@[simp] theorem sendVerdict_palloc (v : Verdict) (f : Byte) (r : Reason) : (sendVerdict v f r s).palloc = s.palloc := by simp [sendVerdict]
@[simp] theorem sendVerdict_cctl (v : Verdict) (f : Byte) (r : Reason) : (sendVerdict v f r s).cctl = s.cctl := by simp [sendVerdict]
@[simp] theorem sendVerdict_psched (v : Verdict) (f : Byte) (r : Reason) : (sendVerdict v f r s).psched = s.psched := by simp [sendVerdict]
@[simp] theorem sendVerdict_acc (v : Verdict) (f : Byte) (r : Reason) : (sendVerdict v f r s).acc = s.acc := by simp [sendVerdict]
@[simp] theorem sendVerdict_cust (v : Verdict) (f : Byte) (r : Reason) : (sendVerdict v f r s).cust = s.cust := by simp [sendVerdict]
@[simp] theorem sendVerdict_ldrv (v : Verdict) (f : Byte) (r : Reason) : (sendVerdict v f r s).ldrv = s.ldrv := by simp [sendVerdict]
@[simp] theorem sendVerdict_smon (v : Verdict) (f : Byte) (r : Reason) : (sendVerdict v f r s).smon = s.smon := by simp [sendVerdict]
@[simp] theorem sendVerdict_swm (v : Verdict) (f : Byte) (r : Reason) : (sendVerdict v f r s).swm = s.swm := by simp [sendVerdict]
@[simp] theorem sendVerdict_owalk (v : Verdict) (f : Byte) (r : Reason) : (sendVerdict v f r s).owalk = s.owalk := by simp [sendVerdict]
@[simp] theorem sendVerdict_nctl (v : Verdict) (f : Byte) (r : Reason) : (sendVerdict v f r s).nctl = s.nctl := by simp [sendVerdict]
@[simp] theorem sendVerdict_out (v : Verdict) (f : Byte) (r : Reason) : (sendVerdict v f r s).out = { s.out with txd := s.out.txd ++ [⟨v.code, f, r.code⟩] } := by simp [sendVerdict]

@[simp] theorem passFrom_pending (l : List Byte) : (passFrom l s).pending = s.pending := by simp [passFrom]
@[simp] theorem passFrom_now (l : List Byte) : (passFrom l s).now = s.now := by simp [passFrom]
@[simp] theorem passFrom_choices (l : List Byte) : (passFrom l s).choices = s.choices := by simp [passFrom]
@[simp] theorem passFrom_pins (l : List Byte) : (passFrom l s).pins = s.pins := by simp [passFrom]
@[simp] theorem passFrom_vsense (l : List Byte) : (passFrom l s).vsense = s.vsense := by simp [passFrom]
@[simp] theorem passFrom_bmon (l : List Byte) : (passFrom l s).bmon = s.bmon := by simp [passFrom]
@[simp] theorem passFrom_palloc (l : List Byte) : (passFrom l s).palloc = s.passed := by simp [passFrom]
@[simp] theorem passFrom_cctl (l : List Byte) : (passFrom l s).cctl = s.grantsTaken s.passed := by simp [passFrom]
@[simp] theorem passFrom_psched (l : List Byte) : (passFrom l s).psched = s.psched := by simp [passFrom]
@[simp] theorem passFrom_acc (l : List Byte) : (passFrom l s).acc = s.acc := by simp [passFrom]
@[simp] theorem passFrom_cust (l : List Byte) : (passFrom l s).cust = s.cust := by simp [passFrom]
@[simp] theorem passFrom_ldrv (l : List Byte) : (passFrom l s).ldrv = s.ldrv := by simp [passFrom]
@[simp] theorem passFrom_smon (l : List Byte) : (passFrom l s).smon = s.smon := by simp [passFrom]
@[simp] theorem passFrom_owalk (l : List Byte) : (passFrom l s).owalk = s.owalk := by simp [passFrom]
@[simp] theorem passFrom_nctl (l : List Byte) : (passFrom l s).nctl = s.nctl := by simp [passFrom]
@[simp] theorem passFrom_out (l : List Byte) : (passFrom l s).out = s.out := by simp [passFrom]
@[simp] theorem passFrom_swm_mem (l : List Byte) : (passFrom l s).swm.mem = s.swm.mem := by simp [passFrom]
@[simp] theorem passFrom_swm_ready (l : List Byte) : (passFrom l s).swm.ready = s.swm.ready := by simp [passFrom]
@[simp] theorem passFrom_swm_resetCause (l : List Byte) : (passFrom l s).swm.resetCause = s.swm.resetCause := by simp [passFrom]
@[simp] theorem passFrom_swm_guardArmed (l : List Byte) : (passFrom l s).swm.guardArmed = s.swm.guardArmed := by simp [passFrom]
@[simp] theorem passFrom_swm_guardOffset (l : List Byte) : (passFrom l s).swm.guardOffset = s.swm.guardOffset := by simp [passFrom]
@[simp] theorem passFrom_swm_endWord (l : List Byte) : (passFrom l s).swm.endWord = s.swm.endWord := by simp [passFrom]
@[simp] theorem passFrom_swm_heartbeatWord (l : List Byte) : (passFrom l s).swm.heartbeatWord = s.swm.heartbeatWord := by simp [passFrom]

@[simp] theorem pass_pending : (pass s).pending = s.pending := by simp [pass]
@[simp] theorem pass_now : (pass s).now = s.now := by simp [pass]
@[simp] theorem pass_choices : (pass s).choices = s.choices := by simp [pass]
@[simp] theorem pass_pins : (pass s).pins = s.pins := by simp [pass]
@[simp] theorem pass_vsense : (pass s).vsense = s.vsense := by simp [pass]
@[simp] theorem pass_bmon : (pass s).bmon = s.bmon := by simp [pass]
@[simp] theorem pass_palloc : (pass s).palloc = s.passed := by simp [pass]
@[simp] theorem pass_cctl : (pass s).cctl = s.grantsTaken s.passed := by simp [pass]
@[simp] theorem pass_psched : (pass s).psched = s.psched := by simp [pass]
@[simp] theorem pass_acc : (pass s).acc = s.acc := by simp [pass]
@[simp] theorem pass_cust : (pass s).cust = s.cust := by simp [pass]
@[simp] theorem pass_ldrv : (pass s).ldrv = s.ldrv := by simp [pass]
@[simp] theorem pass_smon : (pass s).smon = s.smon := by simp [pass]
@[simp] theorem pass_owalk : (pass s).owalk = s.owalk := by simp [pass]
@[simp] theorem pass_nctl : (pass s).nctl = s.nctl := by simp [pass]
@[simp] theorem pass_out : (pass s).out = s.out := by simp [pass]
@[simp] theorem pass_swm_mem : (pass s).swm.mem = s.swm.mem := by simp [pass]
@[simp] theorem pass_swm_ready : (pass s).swm.ready = s.swm.ready := by simp [pass]
@[simp] theorem pass_swm_resetCause : (pass s).swm.resetCause = s.swm.resetCause := by simp [pass]
@[simp] theorem pass_swm_guardArmed : (pass s).swm.guardArmed = s.swm.guardArmed := by simp [pass]
@[simp] theorem pass_swm_guardOffset : (pass s).swm.guardOffset = s.swm.guardOffset := by simp [pass]
@[simp] theorem pass_swm_endWord : (pass s).swm.endWord = s.swm.endWord := by simp [pass]
@[simp] theorem pass_swm_heartbeatWord : (pass s).swm.heartbeatWord = s.swm.heartbeatWord := by simp [pass]

end Sys2Proof.Machine
end

