-- ==== Sys2Proof/Laws/Events.lean ====
section
/-! SUPPORT. What the operations of one event can do, said once: the collection of a reader frame (R181), the
reserve of the latch driver (R47 to R49), and the comparator of a bay (R46, R60). -/

namespace Sys2Proof.Machine

/-! ## The reader port -/

@[simp] theorem withCollecting_collecting (s : State) (v : Option Nat) :
    (s.withCollecting v).acc.collecting = v := rfl

theorem withCollecting_frame (s : State) (v : Option Nat) :
    s.changedOnly [.collecting] (s.withCollecting v) := by
  intro x hx
  cases x <;> first | exact absurd (by decide) hx | simp [Part.same, State.withCollecting]

/-- A start byte begins a frame, or is content of the one that is being collected. -/
theorem startByte_collecting (s : State) :
    (startByte s).acc.collecting = some (s.acc.collecting.getD s.now) := by
  unfold startByte
  cases h : s.acc.collecting with
  | none => rfl
  | some w => simpa using h

/-- A gap changes nothing, or ends a collection whose start byte is more than 5 ms old. -/
theorem byteGap_cases (s : State) :
    byteGap s = s ∨
      ∃ w : Nat, s.acc.collecting = some w ∧ w + Config.byteGap < s.now ∧ byteGap s = discardFrame s := by
  unfold byteGap
  split
  · rename_i w hw
    split
    · exact .inr ⟨w, hw, ‹_›, rfl⟩
    · exact .inl rfl
  · exact .inl rfl

/-- A complete frame is one of three things: no frame was being collected; it is discarded; or its token
arrives. -/
theorem frameComplete_cases (frame : List Byte) (s : State) :
    (s.acc.collecting = none ∧ frameComplete frame s = s) ∨ frameComplete frame s = discardFrame s ∨
      ∃ (w : Nat) (token : Token), s.acc.collecting = some w ∧ inTime w s.now = true ∧
        tokenOfFrame frame = some token ∧ frameComplete frame s = tokenArrives token (discardFrame s) := by
  unfold frameComplete
  split
  · rename_i w hw
    split
    · rename_i token ht
      split
      · exact .inr (.inr ⟨w, token, hw, ‹_›, ht, rfl⟩)
      · exact .inr (.inl rfl)
    · exact .inr (.inl rfl)
  · exact .inl ⟨‹_›, rfl⟩

/-! ## The reserve -/

@[simp] theorem reservePass_reserve (r : Nat) (s : State) : (reservePass r s).palloc.reserve = r := by
  rw [reservePass, passFrom_palloc]
  rfl

@[simp] theorem requestReserve_reserve (s : State) : (requestReserve s).palloc.reserve = 56 := by
  unfold requestReserve
  split
  · assumption
  · exact reservePass_reserve _ s

@[simp] theorem returnReserve_reserve (s : State) : (returnReserve s).palloc.reserve = 28 := by
  unfold returnReserve
  split
  · assumption
  · exact reservePass_reserve _ s

/-! ## The comparator -/

/-- A grant hands over what is granted, and the applied power stays within it. -/
theorem takeGrant_power (c : ChargeBay) (now g : Nat) :
    (c.takeGrant now g).grant = g ∧ (c.takeGrant now g).applied = min c.applied g := by
  refine ⟨rfl, ?_⟩
  by_cases h : min c.applied g = c.applied
  · simp [ChargeBay.takeGrant, ChargeBay.syncRamp, ChargeBay.setApplied, h]
  · simp [ChargeBay.takeGrant, ChargeBay.syncRamp, ChargeBay.setApplied, h]

/-- A door OPEN keeps everything that CCTL holds for the bay but the note of a third sample that is due. -/
theorem noteDoor_eq (c : ChargeBay) (now : Nat) :
    ∃ x : Option Nat, c.noteDoor now = { c with thirdDue := x } := by
  unfold ChargeBay.noteDoor
  split
  · exact ⟨some now, rfl⟩
  · exact ⟨c.thirdDue, rfl⟩

theorem cctlDoorOpen_frame (b : Bay) (s : State) : s.changedOnly [.delivery] (cctlDoorOpen b s) := by
  obtain ⟨x, hx⟩ := noteDoor_eq s.cctl[b] s.now
  intro y hy
  cases y <;> first | exact absurd (by decide) hy | skip
  case charge =>
    intro a
    simp only [cctlDoorOpen, withCctl_cctl, hx, getElem_set_fin]
    split
    · next h => subst h; rfl
    · rfl
  all_goals simp [Part.same, cctlDoorOpen]

/-- A sample changes the counts of its bay, trips it, ends the wait for one that fell together with a door OPEN,
or changes nothing. -/
theorem comparatorSampled_cases (b : Bay) (high : Bool) (s : State) :
    comparatorSampled b high s = s ∨ (high = true ∧ comparatorSampled b high s = tripBay b s) ∨
      (∃ n : Nat, n < 3 ∧ comparatorSampled b high s =
        s.setCharge b { s.cctl[b] with highSamples := n, lastSample := some s.now }) ∨
      (high = false ∧ comparatorSampled b high s = s.setCharge b { s.cctl[b] with thirdDue := none }) := by
  unfold comparatorSampled
  dsimp only
  split
  · split
    · exact .inr (.inr (.inl ⟨0, by decide, rfl⟩))
    · split
      · exact .inr (.inr (.inl ⟨_, ‹_›, rfl⟩))
      · exact .inr (.inl ⟨by simpa using ‹¬high = false›, rfl⟩)
  · split
    · split
      · exact .inr (.inl ⟨‹_›, rfl⟩)
      · exact .inr (.inr (.inr ⟨by simpa using ‹¬high = true›, rfl⟩))
    · exact .inl rfl

end Sys2Proof.Machine
end

