-- ==== Sys2Proof/Laws/Memory.lean ====
section
/-! SUPPORT. The stored bytes of shared work memory: every operation keeps the canonical form, a read after a
write at the same address gives the value written, and every other address reads as before. -/

namespace Sys2Proof.Machine

/-- A byte below every listed address reads 0. -/
theorem Memory.read_eq_zero {m : List Host.Cell} {a : Nat} (h : ∀ c ∈ m, a < c.1) : Memory.read m a = 0 := by
  induction m with
  | nil => rfl
  | cons c m ih =>
    have hc := h c (by simp)
    simp only [Memory.read]
    rw [if_neg (by omega)]
    exact ih fun d hd => h d (by simp [hd])

theorem Memory.read_write {m : List Host.Cell} (hm : Memory.wf m) (a : Nat) (v : Byte) (b : Nat) :
    Memory.read (Memory.write m a v) b = if b = a then v else Memory.read m b := by
  induction m with
  | nil =>
    simp only [Memory.write]
    split
    · next h => subst h; simp [Memory.read]
    · simp only [Memory.read]; by_cases h : a = b
      · simp [h]
      · simp [h, Ne.symm h]
  | cons c m ih =>
    obtain ⟨hp, hz⟩ := hm
    rw [List.pairwise_cons] at hp
    have ih := ih ⟨hp.2, fun d hd => hz d (by simp [hd])⟩
    simp only [Memory.write]
    split
    · next h =>
      simp only [Memory.read, ih]
      by_cases h1 : c.1 = b
      · simp [h1]; intro h2; omega
      · simp [h1]
    · split
      · next h1 h2 =>
        split
        · next h3 =>
          by_cases h4 : b = a
          · subst h4; subst h3
            rw [if_pos rfl]
            exact Memory.read_eq_zero fun d hd => by have := hp.1 d hd; omega
          · simp [Memory.read, h4, h2, Ne.symm h4]
        · by_cases h4 : b = a
          · simp [Memory.read, h4]
          · simp [Memory.read, h4, h2, Ne.symm h4]
      · next h1 h2 =>
        split
        · next h3 =>
          by_cases h4 : b = a
          · subst h4; subst h3
            rw [if_pos rfl]
            refine Memory.read_eq_zero fun d hd => ?_
            rcases List.mem_cons.1 hd with rfl | hd
            · omega
            · have := hp.1 d hd; omega
          · simp [h4]
        · by_cases h4 : b = a
          · simp [Memory.read, h4]
          · simp [Memory.read, h4, Ne.symm h4]

/-- Every address of the memory after a write is the written one or one listed before. -/
theorem Memory.mem_write {m : List Host.Cell} {a : Nat} {v : Byte} {c : Host.Cell}
    (h : c ∈ Memory.write m a v) : (c = (a, v) ∧ v ≠ 0) ∨ c ∈ m := by
  induction m with
  | nil =>
    simp only [Memory.write] at h
    split at h
    · simp at h
    · next hv => left; simp at h; exact ⟨h, hv⟩
  | cons d m ih =>
    simp only [Memory.write] at h
    split at h
    · rcases List.mem_cons.1 h with rfl | h
      · right; simp
      · rcases ih h with h | h
        · exact .inl h
        · right; simp [h]
    · split at h
      · split at h
        · right; simp [h]
        · next hv =>
          rcases List.mem_cons.1 h with rfl | h
          · exact .inl ⟨rfl, hv⟩
          · right; simp [h]
      · split at h
        · exact .inr h
        · next hv =>
          rcases List.mem_cons.1 h with rfl | h
          · exact .inl ⟨rfl, hv⟩
          · exact .inr h

theorem Memory.wf_write {m : List Host.Cell} (hm : Memory.wf m) (a : Nat) (v : Byte) :
    Memory.wf (Memory.write m a v) := by
  refine ⟨?_, fun c hc => ?_⟩
  · induction m with
    | nil => simp only [Memory.write]; split <;> simp
    | cons c m ih =>
      obtain ⟨hp, hz⟩ := hm
      rw [List.pairwise_cons] at hp
      have ih := ih ⟨hp.2, fun d hd => hz d (by simp [hd])⟩
      simp only [Memory.write]
      split
      · next h =>
        rw [List.pairwise_cons]
        refine ⟨fun d hd => ?_, ih⟩
        rcases Memory.mem_write hd with ⟨rfl, -⟩ | hd
        · exact h
        · exact hp.1 d hd
      · split
        · next h1 h2 =>
          split
          · exact hp.2
          · rw [List.pairwise_cons]
            exact ⟨fun d hd => by have := hp.1 d hd; simp only; omega, hp.2⟩
        · next h1 h2 =>
          split
          · rw [List.pairwise_cons]; exact hp
          · rw [List.pairwise_cons]
            refine ⟨fun d hd => ?_, by rw [List.pairwise_cons]; exact hp⟩
            rcases List.mem_cons.1 hd with rfl | hd
            · simp only; omega
            · have := hp.1 d hd; simp only; omega
  · rcases Memory.mem_write hc with ⟨rfl, hv⟩ | hc
    · exact hv
    · exact hm.2 c hc

theorem Memory.wf_writeList {m : List Host.Cell} (hm : Memory.wf m) (a : Nat) (vs : List Byte) :
    Memory.wf (Memory.writeList m a vs) := by
  induction vs generalizing m a with
  | nil => exact hm
  | cons v vs ih => exact ih (Memory.wf_write hm a v) _

/-- A read of an address that a list of bytes does not cover. -/
theorem Memory.read_writeList_outside {m : List Host.Cell} (hm : Memory.wf m) (a : Nat) (vs : List Byte)
    (b : Nat) (hb : b < a ∨ a + vs.length ≤ b) :
    Memory.read (Memory.writeList m a vs) b = Memory.read m b := by
  induction vs generalizing m a with
  | nil => rfl
  | cons v vs ih =>
    simp only [List.length_cons] at hb
    simp only [Memory.writeList]
    rw [ih (Memory.wf_write hm a v) (a + 1) (by omega), Memory.read_write hm, if_neg (by omega)]

/-- A read of an address that a list of bytes covers. -/
theorem Memory.read_writeList_inside {m : List Host.Cell} (hm : Memory.wf m) (a : Nat) (vs : List Byte)
    (i : Nat) (hi : i < vs.length) :
    Memory.read (Memory.writeList m a vs) (a + i) = vs[i] := by
  induction vs generalizing m a i with
  | nil => simp at hi
  | cons v vs ih =>
    simp only [Memory.writeList]
    cases i with
    | zero =>
      rw [Memory.read_writeList_outside (Memory.wf_write hm a v) (a + 1) vs _ (by omega),
        Memory.read_write hm]
      simp
    | succ i =>
      have h := ih (Memory.wf_write hm a v) (a + 1) i (by simpa using hi)
      rw [show a + (i + 1) = a + 1 + i by omega, h]
      simp

/-! ## The stored bytes after operations -/

theorem wf_writeAnswer (off : Nat) (a : Answer) (s : State) (h : Memory.wf s.swm.mem) :
    Memory.wf (writeAnswer off a s).swm.mem :=
  Memory.wf_write (Memory.wf_writeList (Memory.wf_write h _ _) _ _) _ _

theorem wf_land (a : Nat) (v : Byte) (s : State) (h : Memory.wf s.swm.mem) :
    Memory.wf (land a v s).swm.mem := by
  unfold land
  repeat' split
  all_goals first | exact h | exact Memory.wf_write h _ _

theorem wf_landBytes (bs : List (Nat × Byte)) (s : State) (h : Memory.wf s.swm.mem) :
    Memory.wf (landBytes bs s).swm.mem := by
  unfold landBytes
  generalize bs.filter (fun x => s.mayWrite x.1 x.2) = xs
  induction xs generalizing s with
  | nil => exact h
  | cons x xs ih => exact ih _ (wf_land _ _ _ h)

end Sys2Proof.Machine
end

