-- ==== Sys2Proof/Laws/Orders.lean ====
section
/-! SUPPORT. What the walker's dispatch and its answer come to (R166, R168): once `reaches` holds, a dispatch is
the owner's decision followed by the answer, and an answer writes what `answers` says. -/

namespace Sys2Proof.Machine

/-- A grant taken leaves the charge state and the demand of the bay. -/
theorem takeGrant_state (c : ChargeBay) (now g : Nat) :
    (c.takeGrant now g).state = c.state ∧ (c.takeGrant now g).demand = c.demand := by
  have h := takeGrant_body c now g
  simp only [ChargeBay.body, ChargeBay.mk.injEq] at h
  exact ⟨h.1, h.2.1⟩

theorem grantsTaken_state (s : State) (p : PAlloc) (b : Bay) :
    (s.grantsTaken p)[b].state = s.cctl[b].state ∧ (s.grantsTaken p)[b].demand = s.cctl[b].demand := by
  simp only [State.grantsTaken, Fin.getElem_fin, Vector.getElem_ofFn]
  split
  · exact ⟨rfl, rfl⟩
  · exact takeGrant_state _ _ _

theorem pass_tierOf (s : State) (b : Bay) : (pass s).tierOf b = s.tierOf b := by
  have hm : s.passed.bays[b].toppedMark = s.palloc.bays[b].toppedMark := by simp [State.passed]
  have hr : (pass s).reservationTest b = s.reservationTest b := by
    simp [State.reservationTest, State.minute]
  unfold State.tierOf
  rw [hr, pass_psched, pass_palloc, pass_bmon, hm]

theorem pass_wantOf (s : State) (b : Bay) (t : Tier) : (pass s).wantOf b t = s.wantOf b t := by
  have h := grantsTaken_state s s.passed b
  unfold State.wantOf
  rw [pass_cctl, pass_bmon, h.1, h.2]

theorem pass_passInputs (s : State) : (pass s).passInputs = s.passInputs := by
  unfold State.passInputs
  simp only [pass_tierOf, pass_wantOf]

/-- A pass leaves N, the tiers, the wants and the grants those of the inputs as they stand. -/
theorem pass_settled (s : State) : (pass s).settled := by
  have hn : s.passed.netBudget = s.palloc.netBudget := rfl
  refine ⟨?_, fun b => ?_⟩
  · rw [pass_palloc, hn]; rfl
  · rw [pass_tierOf, pass_wantOf, pass_passInputs, pass_palloc, hn]
    refine ⟨?_, ?_, ?_⟩
    · simp [State.passed, State.passInputs]
    · simp [State.passed, State.passInputs]
    · simp only [State.passed, Fin.getElem_fin, Vector.getElem_ofFn]

/-- A change that took no pass although one was offered left the inputs alone, so what was settled stays so. -/
theorem passIfChanged_cases (s : State) :
    (s.inputsChanged = true ∧ passIfChanged s = pass s) ∨
      (s.inputsChanged = false ∧ passIfChanged s = s) := by
  unfold passIfChanged; cases s.inputsChanged <;> simp

/-- Two states with the same tiers, wants and grants of the last pass, whose inputs are unchanged. -/
theorem settled_of_same {s t : State} (h : s.settled) (hnet : t.palloc.net = s.palloc.net)
    (hn : t.palloc.netBudget = s.palloc.netBudget) (hc : t.palloc.caps = s.palloc.caps)
    (hb : ∀ b : Bay, t.palloc.bays[b].tier = s.palloc.bays[b].tier ∧
      t.palloc.bays[b].want = s.palloc.bays[b].want ∧ t.palloc.bays[b].grant = s.palloc.bays[b].grant)
    (hi : ∀ b : Bay, t.tierOf b = s.tierOf b ∧ t.wantOf b (t.tierOf b) = s.wantOf b (s.tierOf b)) :
    t.settled := by
  have hp : t.passInputs = s.passInputs := by
    unfold State.passInputs
    congr 1; funext b; rw [(hi b).2, (hi b).1]
  refine ⟨by rw [hnet, hn, h.1], fun b => ?_⟩
  obtain ⟨h1, h2, h3⟩ := h.2 b
  rw [(hb b).1, (hb b).2.1, (hb b).2.2, (hi b).2, (hi b).1, hn, hc, hp]
  exact ⟨h1, h2, h3⟩

/-- A change of inputs offered to PALLOC leaves the grants settled. -/
theorem passIfChanged_settled {s t : State} (h : s.settled) (hnet : t.palloc.net = s.palloc.net)
    (hn : t.palloc.netBudget = s.palloc.netBudget) (hc : t.palloc.caps = s.palloc.caps)
    (hb : ∀ b : Bay, t.palloc.bays[b].tier = s.palloc.bays[b].tier ∧
      t.palloc.bays[b].want = s.palloc.bays[b].want ∧ t.palloc.bays[b].grant = s.palloc.bays[b].grant) :
    (passIfChanged t).settled := by
  rcases passIfChanged_cases t with ⟨-, he⟩ | ⟨hf, he⟩
  · rw [he]; exact pass_settled t
  · rw [he]
    refine settled_of_same h hnet hn hc hb fun b => ?_
    have hx : t.tierOf b = t.palloc.bays[b].tier ∧ t.wantOf b (t.tierOf b) = t.palloc.bays[b].want := by
      simp only [State.inputsChanged, List.any_eq_false, List.mem_finRange, true_implies, Bool.or_eq_true,
        bne_iff_ne, ne_eq, not_or, not_not] at hf
      exact hf b
    obtain ⟨h1, h2, -⟩ := h.2 b
    rw [hx.2, hx.1, (hb b).1, (hb b).2.1, h1, h2]
    exact ⟨rfl, rfl⟩

/-- A change of inputs with PALLOC's state as it was. -/
theorem passIfChanged_settled' {s t : State} (h : s.settled) (hp : t.palloc = s.palloc) :
    (passIfChanged t).settled :=
  passIfChanged_settled h (by rw [hp]) (by rw [hp]) (by rw [hp]) fun b => by rw [hp]; exact ⟨rfl, rfl, rfl⟩

/-! ## The walker -/

theorem dispatch_reaches {s : State} {i : ListId} {k : OrderKind} {off n : Nat}
    (h : s.reaches i k off n) (f : Nat → State → State × Answer) :
    dispatch k f s = answered i off n (s.linkOf off) (f off s).2 (f off s).1 := by
  obtain ⟨hr, ho, ha⟩ := h
  simp only [dispatch, hr, ha, ho, if_true]

/-- Little-endian bytes spell their number, modulo their width. -/
theorem leNat_leBytes (n v : Nat) : leNat (leBytes n v) = v % 256 ^ n := by
  induction n generalizing v with
  | zero => simp [leBytes, leNat, Nat.mod_one]
  | succ n ih =>
    have h : (byteOf v).toNat = v % 256 := by simp [byteOf]
    rw [leBytes, leNat, ih, h, pow_succ, Nat.mul_comm (256 ^ n) 256, Nat.mod_mul]

theorem leBytes_length (n v : Nat) : (leBytes n v).length = n := by
  induction n generalizing v with
  | zero => rfl
  | succ n ih => simp [leBytes, ih]

/-- The stored bytes after an answer. -/
theorem writeAnswer_read (off : Nat) (a : Answer) (s : State) (h : Memory.wf s.swm.mem) (x : Nat) :
    Memory.read (writeAnswer off a s).swm.mem x =
      if x = off then a.outcome.recordState
      else if x = off + 3 then a.outcome.code
      else if x = off + 4 then byteOf a.detail
      else if x = off + 5 then byteOf (a.detail / 256)
      else Memory.read s.swm.mem x := by
  have h1 := Memory.wf_write h (off + 3) a.outcome.code
  have h2 := Memory.wf_write h1 (off + 4) (byteOf a.detail)
  have h3 := Memory.wf_write h2 (off + 4 + 1) (byteOf (a.detail / 256))
  simp only [writeAnswer, leBytes, Memory.writeList, State.withMem, State.withSwm]
  rw [Memory.read_write h3, Memory.read_write h2, Memory.read_write h1, Memory.read_write h]
  split
  · rfl
  · split <;> rename_i h5
    · have : ¬ x = off + 3 := by omega
      have : ¬ x = off + 4 := by omega
      have h6 : x = off + 5 := by omega
      simp_all
    · split <;> rename_i h6
      · have : ¬ x = off + 3 := by omega
        simp_all
      · split <;> rename_i h7
        · simp_all
        · have : ¬ x = off + 5 := by omega
          simp_all

/-- An answer after an owner's decision that left the stored bytes and the lists alone. -/
theorem answered_answers (i : ListId) (off n : Nat) (a : Answer) (s u : State) (hm : s.memGood)
    (hf : u.swm.mem = s.swm.mem) (hl : u.owalk = s.owalk) :
    s.answers i off n a.outcome a.detail (answered i off n (s.linkOf off) a u) := by
  have hm' : Memory.wf u.swm.mem := by rw [hf]; exact hm
  have hr : ∀ x : Nat, Memory.read (answered i off n (s.linkOf off) a u).swm.mem x =
      Memory.read (writeAnswer off a u).swm.mem x := fun x => by simp [answered, State.setList]
  refine ⟨?_, ?_, ?_, ?_, ?_⟩
  · simp [State.field1, hr, writeAnswer_read off a u hm']
  · simp [State.field1, hr, writeAnswer_read off a u hm']
  · have h4 : Memory.read (answered i off n (s.linkOf off) a u).swm.mem (off + 4) = byteOf a.detail := by
      rw [hr, writeAnswer_read off a u hm']; simp
    have h5 : Memory.read (answered i off n (s.linkOf off) a u).swm.mem (off + 5) = byteOf (a.detail / 256) := by
      rw [hr, writeAnswer_read off a u hm']; simp
    have he : Memory.bytes (answered i off n (s.linkOf off) a u).swm.mem (off + 4) 2 =
        [byteOf a.detail, byteOf (a.detail / 256)] := by
      simp [Memory.bytes, List.range_succ, h4, h5, Nat.add_assoc]
    simp only [State.fieldN, Memory.field, he, leNat, byteOf, BitVec.toNat_ofNat]
    omega
  · intro x hx
    simp only [answerBytes, List.mem_cons, List.not_mem_nil, or_false, not_or] at hx
    rw [hr, writeAnswer_read off a u hm']
    simp [hx.1, hx.2.1, hx.2.2.1, hx.2.2.2, hf]
  · simp [answered, State.setList, writeAnswer, State.withMem, hl]

/-- What an answered order may change: what its owner changed, the record and its list. -/
theorem answered_changes {l : List Part} {s u : State} (h : s.changedOnly l u) (i : ListId) (off n : Nat)
    (k : Half) (a : Answer) : s.changedOnly (.stored :: .lists :: l) (answered i off n k a u) := by
  refine (h.mono (by simp)).trans ?_
  exact (answered_frame i off n k a u).mono (by simp)

/-- A refused order. -/
theorem refused_refuses {s : State} {i : ListId} {k : OrderKind} {off n : Nat} (h : s.reaches i k off n)
    (hm : s.memGood) (f : Nat → State → State × Answer) (a : Answer) (hf : f off s = refuse a s) :
    s.refuses i off n a.outcome a.detail (dispatch k f s) := by
  rw [dispatch_reaches h, hf]
  exact ⟨answered_answers i off n a s s hm rfl rfl, answered_frame i off n _ a s⟩

end Sys2Proof.Machine
end

