-- ==== Sys2Proof/Laws/Quiet.lean ====
section
/-! SUPPORT. Updates that change no field the cart computer can see: they are no update of a page, so the change
counts stay (R24, R179). -/

namespace Sys2Proof.Machine

@[simp] theorem withPending_withPending (s : State) (x y : List Instr) :
    (s.withPending x).withPending y = s.withPending y := rfl

theorem setEntry_quiet {b : Bay} {e : BayEntry} {s : State} (h : e.fields = s.bmon[b].fields) :
    s.setEntry b e = s.withBmon (s.bmon.set b e) := by
  simp [State.setEntry, State.bumpBay, h]

/-- An update of a bay entry that the mirror does not show, away from the data path. -/
theorem setEntry_quiet_frame {b : Bay} {e : BayEntry} {s : State} (h : e.fields = s.bmon[b].fields)
    (hp : e.path = s.bmon[b].path ∧ e.joined = s.bmon[b].joined ∧ e.silence = s.bmon[b].silence ∧
      e.faultTimer = s.bmon[b].faultTimer) : s.changedOnly [.bays] (s.setEntry b e) := by
  rw [setEntry_quiet h]
  intro x hx
  cases x <;> first | exact absurd (by decide) hx | simp [Part.same]
  intro y
  by_cases hy : y = b
  · subst hy; simpa using hp
  · have : (b : Nat) ≠ y := fun h => hy (Fin.ext h.symm)
    simp [this]

/-- An update of a bay's line timers that the mirror does not show. -/
theorem setEntry_quiet_path_frame {b : Bay} {e : BayEntry} {s : State} (h : e.fields = s.bmon[b].fields)
    (hp : e.body = s.bmon[b].body) : s.changedOnly [.paths] (s.setEntry b e) := by
  rw [setEntry_quiet h]
  intro x hx
  cases x <;> first | exact absurd (by decide) hx | simp [Part.same]
  intro y
  by_cases hy : y = b
  · subst hy; simpa using hp
  · have : (b : Nat) ≠ y := fun h => hy (Fin.ext h.symm)
    simp [this]

theorem setCharge_quiet {b : Bay} {e : ChargeBay} {s : State} (h : e.fields = s.cctl[b].fields) :
    s.setCharge b e = s.withCctl (s.cctl.set b e) := by
  simp [State.setCharge, State.bumpBay, h]

/-- An update of a bay's delivery state that the mirror does not show. -/
theorem setCharge_quiet_frame {b : Bay} {e : ChargeBay} {s : State} (h : e.fields = s.cctl[b].fields)
    (hp : e.body = s.cctl[b].body) : s.changedOnly [.delivery] (s.setCharge b e) := by
  rw [setCharge_quiet h]
  intro x hx
  cases x <;> first | exact absurd (by decide) hx | simp [Part.same]
  intro y
  by_cases hy : y = b
  · subst hy; simpa using hp
  · have : (b : Nat) ≠ y := fun h => hy (Fin.ext h.symm)
    simp [this]

/-- An update of a bay's delivery state and of its bay record. -/
theorem setCharge_body_frame {b : Bay} {e : ChargeBay} {s : State} (hp : e.body = s.cctl[b].body) :
    s.changedOnly [.delivery, .counts] (s.setCharge b e) := by
  unfold State.setCharge
  refine State.changedOnly.then ?_ (bumpBay_frame _ _ _)
  intro x hx
  cases x <;> first | exact absurd (by decide) hx | simp [Part.same]
  intro y
  by_cases hy : y = b
  · subst hy; simpa using hp
  · have : (b : Nat) ≠ y := fun h => hy (Fin.ext h.symm)
    simp [this]

/-! ## A raised notice -/

/-- A notice whose capture is on has its request set; no other source changes (R172). -/
theorem event_request (n : Nctl) (i : Fin 16) (h : n.sources[i].capture = true) :
    (n.event i).sources[i].request = true := by
  rw [Nctl.event, if_pos h]; simp

theorem event_keeps_request (n : Nctl) (i j : Fin 16) (h : n.sources[j].request = true) :
    (n.event i).sources[j].request = true := by
  unfold Nctl.event
  split
  · by_cases hj : i = j
    · subst hj; simp
    · have : (i : Nat) ≠ j := fun h => hj (Fin.ext h)
      simp [this]; exact h
  · exact h

theorem event_capture (n : Nctl) (i j : Fin 16) : (n.event i).sources[j].capture = n.sources[j].capture := by
  unfold Nctl.event
  split
  · by_cases hj : i = j
    · subst hj; simp
    · have : (i : Nat) ≠ j := fun h => hj (Fin.ext h)
      simp [this]
  · rfl

end Sys2Proof.Machine
end

