-- ==== Sys2Proof/Laws/Readiness.lean ====
section
/-! SUPPORT. The tests that blocks make of a bay (R40, R74, R111, Table 6-2), each said once as the conditions that
the spec lists, and the consideration of PSCHED that grants nothing (R75). -/

namespace Sys2Proof.Machine

/-- A record in `state` is located at a bay: the slot of its record holds one. -/
theorem recordAt_eq_some (c : Cust) (b : Bay) (x : CustodyRecord) :
    c.recordAt b = some x ↔ ∃ i : Fin 48, c.slotAt b = some i ∧ c.slots[i].record = some x := by
  unfold Cust.recordAt
  exact Option.bind_eq_some_iff

/-- A slot that is found holds a record, and the record is located at the bay. -/
theorem slotAt_record (c : Cust) (b : Bay) (i : Fin 48) (h : c.slotAt b = some i) :
    ∃ x : CustodyRecord, c.slots[i].record = some x ∧ x.locatedAt b = true := by
  have hp := List.find?_some h
  split at hp
  · exact ⟨_, ‹_›, hp⟩
  · exact absurd hp (by simp)

theorem inCartAt_iff (c : Cust) (b : Bay) :
    c.inCartAt b = true ↔ ∃ (i : Fin 48) (x : CustodyRecord), c.slotAt b = some i ∧
      c.slots[i].record = some x ∧ x.state = .inCart := by
  unfold Cust.inCartAt
  constructor
  · intro h
    split at h
    · next x hx =>
      obtain ⟨i, hi, hr⟩ := (recordAt_eq_some c b x).mp hx
      exact ⟨i, x, hi, hr, by simpa using h⟩
    · exact absurd h (by simp)
  · rintro ⟨i, x, hi, hr, hs⟩
    rw [(recordAt_eq_some c b x).mpr ⟨i, hi, hr⟩]
    simpa using hs

theorem slotDrives_iff (l : Ldrv) (k : Slot) (b : Bay) :
    l.slotDrives k b = true ↔ ∃ d : Drive, l.slots[k] = some d ∧ d.bay = b := by
  unfold Ldrv.slotDrives
  split
  · next d hd => simp [hd]
  · next hd => simp [hd]

theorem driving_eq_false (l : Ldrv) (b : Bay) :
    l.driving b = false ↔ ∀ (k : Slot) (d : Drive), l.slots[k] = some d → d.bay ≠ b := by
  have h : l.driving b = true ↔ ∃ (k : Slot) (d : Drive), l.slots[k] = some d ∧ d.bay = b := by
    rw [Ldrv.driving, Bool.or_eq_true, slotDrives_iff, slotDrives_iff]
    constructor
    · rintro (⟨d, h⟩ | ⟨d, h⟩)
      · exact ⟨0, d, h⟩
      · exact ⟨1, d, h⟩
    · rintro ⟨k, d, h⟩
      match k with
      | 0 => exact .inl ⟨d, h⟩
      | 1 => exact .inr ⟨d, h⟩
  rw [← Bool.not_eq_true, h]
  simp only [not_exists, not_and, ne_eq]

/-- R40. -/
theorem reservationTest_iff (s : State) (b : Bay) : s.reservationTest b = true ↔ s.reservationNear b := by
  unfold State.reservationTest State.reservationNear minutesAhead
  cases hr : s.acc.reservations[b] with
  | none => simp
  | some r =>
    cases hm : s.minute with
    | none => simp
    | some m =>
      cases hl : s.bmon[b].level with
      | none =>
        by_cases h : m ≤ r.deadline <;> simp [Config.week, h] <;> omega
      | some l =>
        by_cases h : m ≤ r.deadline <;> simp [Config.week, h] <;> omega

/-- R74. -/
theorem eligible_iff (s : State) (b : Bay) : s.eligible b = true ↔ s.mayJoin b := by
  unfold State.eligible State.mayJoin
  rw [← driving_eq_false, ← inCartAt_iff]
  cases hl : s.bmon[b].level with
  | none => simp
  | some l => simp [and_assoc]

/-- R75, R89: the tests of a consideration that grants nothing. -/
theorem grantsNothing_iff (s : State) : s.grantsNothing ↔
    s.psched.mode = .standalone ∨ s.psched.firstIdle = none ∨ s.psched.queue.find? s.eligible = none := by
  unfold State.grantsNothing PSched.firstIdle
  simp only [List.find?_eq_none, List.mem_finRange, true_implies, eligible_iff, Option.isNone_iff_eq_none, ne_eq]

/-- R75: a consideration that grants nothing changes nothing. -/
theorem consider_of_grantsNothing (s : State) (h : s.grantsNothing) : consider s = s := by
  have hc : considerCore s = s := by
    unfold considerCore scanCore
    rcases (grantsNothing_iff s).mp h with h | h | h
    · rw [if_pos h]
    · simp [h]
    · simp only [h]
      split <;> simp
  have hb : s.bumpBays (fun _ => false) = s := by
    simp only [State.bumpBays, Bool.false_eq_true, if_false, Fin.getElem_fin, Vector.ofFn_getElem]
    rfl
  simp [consider, pschedEvent, hc, hb]

/-- R111. -/
theorem ready_iff (s : State) (b : Bay) (token : Token) : s.ready b token = true ↔ s.readyFor b token := by
  have hc : s.chargedEnough b = true ↔
      ∃ l : Nat, s.bmon[b].level = some l ∧ s.psched.releaseThreshold ≤ l := by
    unfold State.chargedEnough
    cases s.bmon[b].level <;> simp
  have ho : s.reservedForOther b token = false ↔ ∀ (r : Reservation) (x : Token),
      s.acc.reservations[b] = some r → r.token = some x → x = token := by
    unfold State.reservedForOther
    cases s.acc.reservations[b] with
    | none => simp
    | some r =>
      constructor
      · rintro h r' x ⟨⟩ hx
        simpa [hx] using h
      · intro h
        cases hx : r.token with
        | none => simp [hx]
        | some x => simp [hx, h r x rfl hx]
  unfold State.ready State.readyFor ProvRecord.ready
  rw [← inCartAt_iff, ← hc, ← ho]
  simp [and_assoc]

/-- Table 6-2: the reason of a bay that is not ready. -/
theorem homeReason_is (s : State) (b : Bay) (token : Token) : s.homeReasonIs b token (s.homeReason b token).code := by
  have hn : s.cust.recordAt b = none ↔ s.cust.slotAt b = none := by
    cases h : s.cust.slotAt b with
    | none => simp [Cust.recordAt, h]
    | some i =>
      obtain ⟨x, hx, -⟩ := slotAt_record _ b i h
      simp [(recordAt_eq_some _ b x).mpr ⟨i, h, hx⟩]
  have hp : s.cust.slotAt b ≠ none → (s.cust.inCartAt b = false ↔ ∃ (i : Fin 48) (x : CustodyRecord),
      s.cust.slotAt b = some i ∧ s.cust.slots[i].record = some x ∧ x.state = .pendingRelease) := by
    intro h
    obtain ⟨i, hi⟩ := Option.ne_none_iff_exists'.mp h
    obtain ⟨x, hx, hl⟩ := slotAt_record _ b i hi
    have hs : x.state = .inCart ∨ x.state = .pendingRelease := by
      simp only [CustodyRecord.locatedAt, Bool.and_eq_true, Bool.or_eq_true, beq_iff_eq] at hl
      exact hl.1
    rw [← Bool.not_eq_true, inCartAt_iff]
    simp only [hi, Option.some.injEq, exists_and_left, exists_eq_left', hx]
    rcases hs with hs | hs <;> simp [hs]
  have ho : s.reservedForOther b token = true ↔ ∃ (r : Reservation) (x : Token),
      s.acc.reservations[b] = some r ∧ r.token = some x ∧ x ≠ token := by
    unfold State.reservedForOther
    cases s.acc.reservations[b] with
    | none => simp
    | some r => cases h : r.token <;> simp [h]
  have hr : s.psched.records[b].ready = false ↔ s.homeProvisioning b := by
    unfold ProvRecord.ready State.homeProvisioning
    cases s.psched.records[b].state <;> simp
  unfold State.homeReason
  by_cases h1 : s.bmon[b].occupancy = .empty ∨ s.bmon[b].occupancy = .settling
  · rw [if_pos h1]
    exact ⟨fun _ => rfl, fun h2 h3 => absurd h1 (not_or.mpr ⟨h2, h3⟩)⟩
  rw [if_neg h1]
  refine ⟨fun h => absurd h h1, fun _ _ => ?_⟩
  by_cases h2 : s.homeFault b
  · rw [if_pos (by rw [hn]; exact h2)]
    exact ⟨fun _ => rfl, fun h => absurd h2 h, fun h => absurd h2 h, fun h => absurd h2 h⟩
  rw [if_neg (by rw [hn]; exact h2)]
  have hs : s.cust.slotAt b ≠ none := fun h => h2 (.inr (.inr (.inl h)))
  by_cases h3 : s.homeTaken b token
  · rw [if_pos (by rw [hp hs, ho]; exact h3)]
    exact ⟨fun h => absurd h h2, fun _ _ => rfl, fun _ h => absurd h3 h, fun _ h => absurd h3 h⟩
  rw [if_neg (by rw [hp hs, ho]; exact h3)]
  by_cases h4 : s.homeProvisioning b
  · rw [if_pos (hr.mpr h4)]
    exact ⟨fun h => absurd h h2, fun _ h => absurd h h3, fun _ _ _ => rfl, fun _ _ h => absurd h4 h⟩
  · rw [if_neg (fun h => h4 (hr.mp h))]
    exact ⟨fun h => absurd h h2, fun _ h => absurd h h3, fun _ _ h => absurd h h4, fun _ _ _ => rfl⟩

end Sys2Proof.Machine
end

