-- ==== Sys2Proof/Tests/Slice0.lean ====
section
/-! SUPPORT. Small tests of the model, by the kernel's own evaluation: ill-formed commands, port bytes written
out from R180, one or two steps for each command with the outcome that the cited rule states, and for every
statement with hypotheses a theorem `witness_…` with states and operands that meet them. -/

namespace Sys2Proof.Tests

open Sys2Proof.Machine

set_option maxRecDepth 20000

/-! ## Helpers -/

/-- The command answers a next state of which `f` holds. -/
def gives (i : Instr) (s : State) (f : State → Bool) : Bool :=
  match exec i s with
  | .next t => f t
  | .fault _ => false
  | .refused _ => false

/-- After reset, memory ready, 100 s later. -/
def base : State := { State.reset with now := 100000, swm := { Swm.reset with ready := true } }

def bayBy (f : BayEntry → BayEntry) (s : State) : State :=
  s.withBmon (s.bmon.set (0 : Bay) (f s.bmon[(0 : Bay)]))

def pinsBy (f : BayPins → BayPins) (s : State) : State :=
  s.withPins (s.pins.set (0 : Bay) (f s.pins[(0 : Bay)]))

def chargeBy (f : ChargeBay → ChargeBay) (s : State) : State :=
  s.withCctl (s.cctl.set (0 : Bay) (f s.cctl[(0 : Bay)]))

def provBy (f : ProvRecord → ProvRecord) (s : State) : State :=
  s.setProv (0 : Bay) (f s.psched.records[(0 : Bay)])

def recordIs (r : CustodyRecord) (s : State) : State :=
  s.withCust { s.cust with slots := s.cust.slots.set (0 : Fin 48) { record := some r, count := 0 } }

def releaseIs (r : Release) (s : State) : State :=
  s.withCust { s.cust with releases := s.cust.releases.set (0 : Bay) (some r) }

def sourceBy (i : Fin 16) (f : NoticeSource → NoticeSource) (s : State) : State :=
  s.withNctl { s.nctl with sources := s.nctl.sources.set i (f s.nctl.sources[i]) }

/-- List 0 RUNNING, about to reach the bytes of a record at 0x1800. -/
def orderState (bytes : List Byte) (s : State) : State :=
  (s.withMem (Memory.writeList [] 0x1800 bytes)).setList 0
    { OrderList.reset with state := .running, first := 0x1800, next := 0x1800 }

/-- A POSTED record (Table 11-9): kind, units, detail, link 0 and the order's own bytes from 0x0C. -/
def posted (kind units : Byte) (body : List Byte) (detail : Byte := 0) : List Byte :=
  [1, kind, units, 0, detail, 0, 0, 0, 0, 0, 0, 0] ++ body

/-- A session of bay 1 on channel 1, its path JOINED. -/
def joinedState : State :=
  let s := bayBy (fun e => { e with
    occupancy := .present, path := .joined, joined := some 0
    silence := some ⟨70000, 30⟩ }) base
  let s := provBy (fun r => { r with state := .active, wanted := 7, attempts := 2 }) s
  let x : Session := { bay := 0, start := none, wanted := 7, sessionLimit := 1, silenceLimit := 30, since := 40000 }
  s.setChannel 0 { lastEnded := none, session := some x }

/-- A record located at bay 1. -/
def inCart : CustodyRecord where
  tag := 5
  state := .inCart
  bay := some 0
  lastBay := none
  holder := none
  since := none

/-- A recorded release of bay 1 in a stage. -/
def release (stage : ReleaseStage) : Release where
  stage := stage
  kind := .student
  holder := some 1
  recorded := true
  held := some 0
  window := if stage = .window then some 90000 else none

theorem memGood_writeList (a : Nat) (bs : List Byte) (s : State) (h : s.swm.mem = Memory.writeList [] a bs) :
    s.memGood := by
  unfold State.memGood
  rw [h]
  exact Memory.wf_writeList (by decide) a bs

theorem queueGood_of_none (s : State) (h : s.psched.queue = [])
    (hr : ∀ b : Bay, s.psched.records[b].state ≠ .waiting ∧ s.psched.records[b].state ≠ .active)
    (hc : ∀ c : Chan, s.psched.channels[c].session = none) (hp : ∀ b : Bay, s.bmon[b].path ≠ .joined) :
    s.queueGood := by
  refine ⟨by simp [h], fun b => ?_, fun c x hx => ?_, fun c d x y hx => ?_, fun b hb => ?_, fun b hb => ?_⟩
  · rw [h]
    exact ⟨fun hm => absurd hm (by simp), fun hw => absurd hw (hr b).1⟩
  · rw [hc c] at hx
    exact absurd hx (by simp)
  · rw [hc c] at hx
    exact absurd hx (by simp)
  · exact absurd hb (hr b).2
  · exact absurd hb (hp b)

theorem queueGood_base : base.queueGood :=
  queueGood_of_none _ (by decide) (by decide) (by decide) (by decide)

theorem queueGood_joined : joinedState.queueGood := by
  have hc : ∀ c : Chan, c ≠ 0 → joinedState.psched.channels[c].session = none := by decide
  have h0 : joinedState.psched.channels[(0 : Chan)].session = some
    { bay := 0, start := none, wanted := 7, sessionLimit := 1, silenceLimit := 30, since := 40000 } := by decide
  have hr : ∀ b : Bay, joinedState.psched.records[b].state = .active ↔ b = 0 := by decide
  have hw : ∀ b : Bay, joinedState.psched.records[b].state ≠ .waiting := by decide
  have hp : ∀ b : Bay, joinedState.bmon[b].path = .joined → b = 0 := by decide
  have hq : joinedState.psched.queue = [] := by decide
  have on : ∀ (c : Chan) (x : Session), joinedState.psched.channels[c].session = some x → c = 0 ∧ x.bay = 0 := by
    intro c x hx
    by_cases h : c = 0
    · subst h
      rw [h0] at hx
      exact ⟨rfl, by rw [← Option.some.inj hx]⟩
    · rw [hc c h] at hx
      exact absurd hx (by simp)
  refine ⟨by simp [hq], fun b => ?_, fun c x hx => ?_, fun c d x y hx hy _ => ?_, fun b hb => ?_, fun b hb => ?_⟩
  · rw [hq]
    exact ⟨fun hm => absurd hm (by simp), fun h => absurd h (hw b)⟩
  · exact (hr x.bay).mpr (on c x hx).2
  · rw [(on c x hx).1, (on d y hy).1]
  · have : b = 0 := (hr b).mp hb
    subst this
    decide
  · rw [hp b hb]
    exact (hr 0).mpr rfl

/-! ## Well-formed commands -/

theorem test_wellFormed_refuses_read_without_data : (Instr.memoryRead 0 0).wellFormed = false := by decide
theorem test_wellFormed_refuses_empty_burst :
    (Instr.memoryWrite { offset := 0x1800, data := [] }).wellFormed = false := by decide
theorem test_wellFormed_refuses_empty_cut_burst :
    (Instr.resetnPartReset (some { offset := 0x1800, data := [] })).wellFormed = false := by decide
theorem test_wellFormed_refuses_register_read_without_data :
    (Instr.registerRead 0 0).wellFormed = false := by decide
theorem test_wellFormed_refuses_empty_register_write :
    (Instr.registerWrite 0x02 []).wellFormed = false := by decide
/-- Table 11-14: 0x96 to CONTROL is the part reset, not a register write. -/
theorem test_wellFormed_refuses_part_reset_as_register_write :
    (Instr.registerWrite 0x02 [0x96]).wellFormed = false := by decide
theorem test_wellFormed_refuses_short_frame :
    (Instr.tokenArrival [1, 0, 0, 0, 0, 0, 0, 0, 0xFF]).wellFormed = false := by decide

/-! ## Port bytes (R156, R180), written out from Table 11-13 -/

theorem test_decodePort_memory_read :
    decodePort [0x10, 0x40, 0x01, 0x00, 0, 0, 0] = some (.memoryRead 0x000140 1) := by decide
theorem test_decodePort_memory_write :
    decodePort [0x11, 0x00, 0x18, 0x00, 0xAB, 0xCD] =
      some (.memoryWrite { offset := 0x001800, data := [0xAB, 0xCD] }) := by decide
theorem test_decodePort_register_read : decodePort [0x20, 0x01, 0, 0, 0] = some (.registerRead 1 2) := by decide
theorem test_decodePort_part_reset : decodePort [0x21, 0x02, 0x96, 0x11] = some (.controlPartReset [0x11]) := by
  decide
theorem test_decodePort_register_write : decodePort [0x21, 0x02, 0x95] = some (.registerWrite 2 [0x95]) := by decide
/-- R156: no data byte, no access. -/
theorem test_decodePort_without_data : decodePort [0x11, 0x00, 0x18, 0x00] = none := by decide
theorem test_decodePort_unknown_code : decodePort [0x12, 0, 0, 0, 0] = none := by decide

/-! ## The machine -/

theorem test_step_takes_front :
    step (State.reset.withPending [.memoryReady]) = exec .memoryReady State.reset := by rfl
theorem test_idle_step_ticks : step State.reset = .next (State.reset.withNow 1) := by rfl

theorem witness_StepTakesFrontCommand : State.reset.pending = [] := by rfl

/-- The laws of the EveryStep statements hold of a state that steps. -/
theorem witness_EveryStepKeeps : ∃ s t : State, s.memGood ∧ s.powerGood ∧ s.settled ∧ s.listsGood ∧
    s.queueGood ∧ s.custodyGood ∧ s.bankGood ∧ step s = .next t := by
  refine ⟨base.withPending [.startByte], _, ?_, ?_, ?_, ?_, ?_, ?_, ?_, rfl⟩
  · exact memGood_writeList 0 [] _ rfl
  · unfold State.powerGood
    decide
  · unfold State.settled
    decide
  · unfold State.listsGood
    decide
  · exact queueGood_of_none _ (by decide) (by decide) (by decide) (by decide)
  · have h : ∀ i : Fin 48, (base.withPending [.startByte]).cust.slots[i].record = none := by decide
    intro i j x y _ hx
    rw [h i] at hx
    exact absurd hx (by simp)
  · have h : (base.withPending [.startByte]).acc.activeBank = none := by rfl
    intro k hk
    rw [h] at hk
    exact absurd hk (by simp)

/-- After a pass: bay 1 in a session; bay 2 with a deadline 60 minutes ahead across the week's end; bay 3 with one 61
ahead, the topped mark and a demand of 60; bays 4 and 5 at 29 and 30 %. -/
def tiered : State :=
  let s := joinedState.withAcc { joinedState.acc with
    clock := some ⟨10070, 0, 99000⟩
    reservations := (joinedState.acc.reservations.set (1 : Bay) (some ⟨50, none⟩)).set (2 : Bay) (some ⟨51, none⟩) }
  let at' (b : Bay) (n : Nat) (v : Vector BayEntry 36) : Vector BayEntry 36 :=
    v.set b { v[b] with occupancy := .present, door := .closed, level := some n }
  let s := s.withBmon (at' 2 59 (at' 3 29 (at' 4 30 s.bmon)))
  let s := s.withCctl (s.cctl.set (2 : Bay) { s.cctl[(2 : Bay)] with state := .delivering, demand := 60 })
  pass (s.withPalloc { s.palloc with
    bays := s.palloc.bays.set (2 : Bay) { s.palloc.bays[(2 : Bay)] with toppedMark := true } })

theorem witness_NoPowerBehindOpenDoor :
    (base.settled ∧ base.powerGood ∧ base.bmon[(0 : Bay)].door = .opened ∧
      base.bmon[(0 : Bay)].occupancy.attached = false) ∧
    tiered.settled ∧ tiered.psched.channels[(0 : Chan)].session.isSome = true ∧
    (tiered.reservationNear 1 ∧ ¬tiered.reservationNear 2 ∧ ¬tiered.reservationNear 3) ∧
    tiered.palloc.bays[(2 : Bay)].toppedMark = true ∧ tiered.palloc.bays[(3 : Bay)].toppedMark = false ∧
    tiered.bmon[(3 : Bay)].level = some 29 ∧ tiered.bmon[(4 : Bay)].level = some 30 ∧
    (tiered.bmon[(2 : Bay)].occupancy = .present ∧ tiered.bmon[(2 : Bay)].door = .closed ∧
      tiered.cctl[(2 : Bay)].state = .delivering) := by
  refine ⟨?_, ?_, by decide, ⟨?_, ?_, ?_⟩, by decide⟩
  · unfold State.settled State.powerGood
    decide
  · unfold State.settled
    decide
  · exact (reservationTest_iff _ _).mp (by decide)
  · exact fun h => absurd ((reservationTest_iff _ _).mpr h) (by decide)
  · exact fun h => absurd ((reservationTest_iff _ _).mpr h) (by decide)

/-- R38, R40, R41: 60 minutes ahead is DUE, 61 is not; a TOPPED bay wants 8 of its 60 qW; LOW ends below 30 %. -/
theorem test_tiers :
    tiered.palloc.bays[(0 : Bay)].tier = .session ∧ tiered.palloc.bays[(1 : Bay)].tier = .due ∧
    tiered.palloc.bays[(2 : Bay)].tier = .topped ∧ tiered.palloc.bays[(2 : Bay)].want = 8 ∧
    tiered.palloc.bays[(3 : Bay)].tier = .low ∧ tiered.palloc.bays[(4 : Bay)].tier = .normal := by decide

/-- Bay 1 is due and wants 50, bay 2 is normal and wants 20, of a budget of 100. -/
def twoWants : Vector PassInput 36 :=
  (base.passInputs.set (0 : Bay) { base.passInputs[(0 : Bay)] with tier := .due, want := 50 }).set (1 : Bay)
    { base.passInputs[(1 : Bay)] with tier := .normal, want := 20 }

/-- R43: both wants fit, and 30 of 100 remain; of 60, the lower tier gets 10. -/
theorem witness_AllocationLaws :
    let caps : Vector Nat 6 := Vector.replicate 6 600
    (0 < (allocate 100 caps twoWants).remaining ∧ (allocate 100 caps twoWants).remaining = 30) ∧
    (twoWants[(0 : Bay)].tier.rank < twoWants[(1 : Bay)].tier.rank ∧
      (allocate 60 caps twoWants).grants[(0 : Bay)] = 50 ∧
      (allocate 60 caps twoWants).grants[(1 : Bay)] = 10) := by decide

theorem witness_AttnFollowsPresentableSources :
    base.nctl.highest = some 0 ∧ base.nctl.presentable 0 = true ∧
    (sourceBy 0 (fun x => { x with request := false }) base).nctl.highest = none := by decide

/-- A bank of one entry: token 1, STUDENT, group 1, home bay 1, ENABLED; the windows open group 1 all day. -/
def bankState : State :=
  (base.withMem (Memory.writeList [] 0x3800 [1, 0, 0, 0, 0, 0, 0, 0, 1, 1, 1, 1])).withAcc { base.acc with
    activeBank := some .a, activeCount := 1, clock := some { minute := 10079, second := 59, since := 99000 }
    windows := [{ days := 0x7F, start := 0, stop := 1440, groups := 2 }], collecting := some 99950 }

theorem bankGood_bankState : bankState.bankGood := by
  have h : bankState.acc.activeBank = some .a := by rfl
  intro k hk
  rw [h] at hk
  rw [← Option.some.inj hk]
  decide

theorem witness_LookupAndOpenGroups : bankState.bankGood ∧ bankState.acc.activeBank = some .a ∧
    bankState.minute = some 10079 ∧ base.minute = none ∧ base.acc.activeBank = none :=
  ⟨bankGood_bankState, by decide⟩

/-- R97, R99: the token is found with its entry, another is not; on Sunday at 23:59 the group is open. -/
theorem test_lookup_and_group :
    (bankState.lookup 1).isSome = true ∧ (bankState.lookup 2).isSome = false ∧
    bankState.groupOpen 1 = true ∧ bankState.groupOpen 2 = false := by decide

theorem witness_PortCommandsDecodeWhatIsEncoded :
    (Instr.memoryRead 0x000140 1).wellFormed = true ∧
    encodePort (.memoryRead 0x000140 1) = some [0x10, 0x40, 0x01, 0x00, 0, 0, 0] := by decide

/-! ## Resets and the port -/

theorem test_power_on_zeroes_memory :
    gives .powerOn (orderState [1, 2, 3] base) (fun t => t.swm.mem == [] && !t.swm.ready) = true := by decide
theorem test_resetn_keeps_memory :
    gives (.resetnPartReset none) (orderState [1, 2, 3] base)
      (fun t => Memory.read t.swm.mem 0x1801 == 2 && t.swm.resetCause == .pin) = true := by decide
theorem test_memory_ready : gives .memoryReady State.reset (fun t => t.swm.ready) = true := by decide
/-- Table 11-14: PART_ID reads 0x36 then 0x01. -/
theorem test_register_read : gives (.registerRead 0 3) base (fun t => t.out.portData == [0x36, 0x01, 0]) = true := by
  decide
theorem test_register_write : gives (.registerWrite 2 [0x95]) base (fun t => t == base) = true := by decide
theorem test_control_part_reset :
    gives (.controlPartReset []) base (fun t => t.swm.resetCause == .control && !t.swm.ready) = true := by decide
/-- R175: TAKE presents source 1, POWER_ON, which enters service. -/
theorem test_take :
    gives (.memoryRead 0x000140 1) base
      (fun t => t.out.portData == [1] && t.nctl.sources[(0 : Fin 16)].inService) = true := by decide
theorem test_memory_write_lands :
    gives (.memoryWrite { offset := 0x001800, data := [7, 8] }) base
      (fun t => Memory.read t.swm.mem 0x1801 == 8) = true := by decide
/-- R161: a byte of the bay mirror is discarded, and its offset captured. -/
theorem test_memory_write_guarded :
    gives (.memoryWrite { offset := 0x000200, data := [7] }) base
      (fun t => t.swm.guardOffset == some 0x200 && t.swm.mem == []) = true := by decide

/-- R119: FREE into a FILLED entry keeps its other bytes. -/
theorem test_journal_free :
    let e : JournalEntry := { JournalEntry.reset with state := .filled, sequence := some 9 }
    gives (.memoryWrite { offset := 0x0016E0, data := [0] })
      (base.withCust { base.cust with journal := base.cust.journal.set (47 : Fin 48) e })
      (fun t => t.cust.journal[(47 : Fin 48)] == { e with state := .free }) = true := by decide

/-- R52: a below-sag count under way starts over, and the first sample is 1 s away. -/
theorem test_resetn_restarts_supply :
    gives (.resetnPartReset none)
      ((base.withVsense 8000).withPalloc { base.palloc with belowSag := some 99970, invalidSamples := 0 })
      (fun t => t.palloc.belowSag == some 100000 && t.palloc.aboveDeep == some 100000 &&
        t.palloc.invalidSamples == 3 && t.palloc.sampleSince == 100000) = true := by decide

/-- Tables 11-4 and 11-9: slot 0 with tag 5 at bay 1; the header of list 0. -/
theorem test_pages :
    (recordIs inCart base).byteAt 0x0B01 = 1 ∧ (recordIs inCart base).byteAt 0x0B02 = 5 ∧
    (recordIs inCart base).byteAt 0x0B08 = 1 ∧ (recordIs inCart base).byteAt 0x0B09 = 0xFF ∧
    (orderState [] base).byteAt 0x0100 = 2 ∧ (orderState [] base).byteAt 0x0103 = 0x18 := by decide

theorem witness_PartResetsKeepAndRestart : base.swm.ready = true ∧ State.reset.swm.ready = false := by decide

theorem witness_StatusAndRegisterAccess :
    (Instr.registerWrite 0x02 [0x95]).wellFormed = true ∧ base.status0.getLsbD 0 = true := by decide

/-- Each clause: memory ready clear, no presentable source, source 1 and source 16 the highest. -/
theorem witness_MemoryReadAndTake :
    State.reset.swm.ready = false ∧
    (sourceBy 0 (fun x => { x with request := false }) base).nctl.highest = none ∧
    base.nctl.highest = some 0 ∧
    (sourceBy 15 (fun x => { x with request := true, capture := true, level := 0 })
      (sourceBy 0 (fun x => { x with request := false }) base)).nctl.highest = some 15 ∧
    (0x000140 : BitVec 24).toNat % 0x8000 = 0x0140 := by decide

theorem witness_MemoryWriteLandsAsGuardAllows :
    let w : Burst := { offset := 0x0037FF, data := [1, 2] }
    let g : Burst := { offset := 0x000200, data := [1] }
    base.memGood ∧ w.data ≠ [] ∧ State.reset.swm.ready = false ∧ base.swm.ready = true ∧
    base.firstHit (burstBytes w) = none ∧ base.firstHit (burstBytes g) = some 0x200 ∧
    base.swm.guardArmed = true ∧
    (base.withSwm { base.swm with guardArmed := false }).swm.guardArmed = false ∧
    base.nctl.sources[(15 : Fin 16)].capture = false ∧
    (sourceBy 15 (fun x => { x with capture := true }) base).nctl.sources[(15 : Fin 16)].capture = true ∧
    base.mayWrite 0x1800 5 = true ∧ base.mayWrite 0x17FF 5 = false ∧
    bankState.mayWrite 0x3800 5 = false ∧ bankState.mayWrite 0x57FF 5 = false ∧
    bankState.mayWrite 0x5800 5 = true ∧ bankState.mayWrite 0x7FFF 5 = true ∧
    (base.mayWrite 0x0121 7 = true ∧ base.mayWrite 0x0123 7 = true ∧
      (orderState [] base).mayWrite 0x0101 7 = false ∧ (orderState [] base).mayWrite 0x0103 7 = false) ∧
    base.cust.journal[(47 : Fin 48)].state ≠ .held :=
  ⟨memGood_writeList 0 [] _ rfl, by decide⟩

/-- R176: END of source 1, of the lowest level in service, and of a value that names none. -/
theorem witness_EndWordEndsService :
    let s := sourceBy 0 (fun x => { x with inService := true }) base
    let t := sourceBy 15 (fun x => { x with inService := true }) base
    s.swm.ready = true ∧ s.nctl.sources[(0 : Fin 16)].inService = true ∧
    (∀ j : Fin 16, s.nctl.sources[j].inService = true → s.nctl.sources[(0 : Fin 16)].level <
      s.nctl.sources[j].level ∨ (s.nctl.sources[(0 : Fin 16)].level = s.nctl.sources[j].level ∧ 0 ≤ j)) ∧
    t.nctl.sources[(15 : Fin 16)].inService = true ∧ ((16 : Byte).toNat = (15 : Fin 16).val + 1) ∧
    (∀ i : Fin 16, base.nctl.sources[i].inService = false) := by decide

theorem test_end_word :
    gives (.memoryWrite { offset := 0x000142, data := [0xFF] })
      (sourceBy 0 (fun x => { x with inService := true }) base)
      (fun t => !t.nctl.sources[(0 : Fin 16)].inService && t.swm.endWord == 0xFF) = true := by decide

def smonBy (f : Smon → Smon) : State := base.withSmon (f base.smon)

/-- The five cases: stopped attended, OPEN, CLOSED with no HOST_LATE outstanding, with one, and STANDALONE. -/
theorem witness_HeartbeatIsRuledByWindow :
    (base.smon.phase = .stopped ∧ base.smon.mode = .attended ∧ base.swm.ready = true) ∧
    (smonBy fun m => { m with phase := .opened, since := some 0 }).smon.phase = .opened ∧
    ((smonBy fun m => { m with phase := .closed, since := some 0 }).smon.phase = .closed ∧
      base.nctl.sources[(2 : Fin 16)].request = false ∧ base.nctl.sources[(2 : Fin 16)].inService = false) ∧
    (sourceBy 2 (fun x => { x with request := true })
      (smonBy fun m => { m with phase := .closed, since := some 0 })).nctl.sources[(2 : Fin 16)].request = true ∧
    (smonBy fun m => { m with mode := .standalone }).smon.mode = .standalone ∧
    joinedState.psched.channels[(0 : Chan)].session.isSome = true := by decide

/-- R149, R150: a heartbeat in OPEN starts a new window, CLOSED first when there is a closed phase. -/
theorem test_heartbeat_in_open :
    gives (.memoryWrite { offset := 0x000143, data := [0] })
      (smonBy fun m => { m with phase := .opened, closedPhase := 5, since := some 0 })
      (fun t => t.smon.phase == .closed && t.smon.since == some 100000) = true := by decide

def listIs (i : ListId) (l : OrderList) (s : State) : State := s.setList i l

/-- List 1 is ARMED with a chain at 0x2000. -/
def otherArmed (s : State) : State := listIs 1 { OrderList.reset with state := .armed, first := 0x2000 } s

theorem witness_ArmAndAbortRuleAList :
    (base.listsGood ∧ base.owalk[(0 : ListId)].state = .idle ∧ base.owalk[(0 : ListId)].first = 0 ∧
      base.owalk[(1 : ListId)].state ≠ .running ∧ base.owalk[(1 : ListId)].state ≠ .stalled) ∧
    ((orderState [] base).listsGood ∧ (orderState [] base).owalk[(0 : ListId)].state = .running ∧
      (orderState [] base).owalk[(1 : ListId)].state = .idle) ∧
    ((listIs 0 { OrderList.reset with state := .stalled } base).listsGood ∧
      (listIs 0 { OrderList.reset with state := .stalled } base).owalk[(0 : ListId)].state = .stalled) ∧
    ((listIs 0 { OrderList.reset with state := .armed, first := 0x1800 } (listIs 1
      { OrderList.reset with state := .running } base)).listsGood) ∧
    ((otherArmed (orderState [] base)).listsGood ∧
      (otherArmed (orderState [] base)).owalk[(0 : ListId)].state = .running ∧
      (otherArmed (orderState [] base)).owalk[otherList 0].state = .armed) := by
  unfold State.listsGood
  decide

/-- R163, R164: ARM of an idle list with a chain runs it; ABORT of a running list ends it in FAULT. -/
theorem test_arm :
    gives (.memoryWrite { offset := 0x000100, data := [0xA1] })
      (listIs 0 { OrderList.reset with first := 0x1800 } base)
      (fun t => t.owalk[(0 : ListId)].state == .running && t.owalk[(0 : ListId)].next == 0x1800) = true := by decide
theorem test_abort :
    gives (.memoryWrite { offset := 0x000100, data := [0xA2] }) (orderState [] base)
      (fun t => t.owalk[(0 : ListId)].state == .fault && t.owalk[(0 : ListId)].faultCode == some .aborted) = true := by
  decide

/-! ## Bays -/

/-- Presence of bay 1 is lost for less than 50 ms behind its CLOSED door, in a release in OPENED. -/
def abandoned : State :=
  releaseIs (release .opened) (recordIs { inCart with state := .pendingRelease }
    (bayBy (fun e => { e with occupancy := .present, door := .closed, presenceDebounce := some 99990 }) base))

theorem witness_InputPinsStartTheirCounts :
    (base.pins[(0 : Bay)].door ≠ doorReading false ∧ base.pins[(0 : Bay)].latch ≠ latchReading false ∧
      base.pins[(0 : Bay)].atFault ≠ true ∧ base.pins[(0 : Bay)].presence ≠ true ∧
      base.cust.releases[(0 : Bay)] = none ∧ base.bmon[(0 : Bay)].path = .dark) ∧
    (bayBy (fun e => { e with path := .watch }) base).bmon[(0 : Bay)].path = .watch ∧
    (abandoned.pins[(0 : Bay)].presence ≠ true ∧ abandoned.bmon[(0 : Bay)].occupancy ≠ .empty ∧
      abandoned.bmon[(0 : Bay)].presenceDebounce ≠ none ∧ abandoned.bmon[(0 : Bay)].door = .closed ∧
      abandoned.cust.releases[(0 : Bay)] = some (release .opened) ∧ (release .opened).recorded = true ∧
      (release .opened).held = some 0 ∧ abandoned.cust.slotAt 0 = some 0 ∧
      abandoned.cust.slots[(0 : Fin 48)].record = some { inCart with state := .pendingRelease }) := by decide

theorem test_presence_starts_debounce :
    gives (.presenceInputChange 0 true) base
      (fun t => t.bmon[(0 : Bay)].presenceDebounce == some 100000 && t.pins[(0 : Bay)].presence) = true := by decide
/-- R122: the release ends unopened. -/
theorem test_presence_returns :
    gives (.presenceInputChange 0 true) abandoned
      (fun t => t.cust.releases[(0 : Bay)] == none && t.cust.slots[(0 : Fin 48)].record == some inCart) = true := by
  decide
theorem test_door_input :
    gives (.doorInputChange 0 false) base (fun t => t.bmon[(0 : Bay)].doorDebounce == some 100000) = true := by decide
theorem test_latch_input :
    gives (.latchSenseInputChange 0 false) base
      (fun t => t.bmon[(0 : Bay)].latchDebounce == some 100000) = true := by decide
theorem test_fault_level_in_watch :
    gives (.faultLevelChange 0 true) (bayBy (fun e => { e with path := .watch }) base)
      (fun t => t.bmon[(0 : Bay)].faultTimer == some 100000) = true := by decide

/-- A presence debounce at its 50 ms. -/
def inserted : State := bayBy (fun e => { e with presenceDebounce := some 99950 }) base

theorem witness_AttachStartsTheTagRead : inserted.bmon[(0 : Bay)].occupancy = .empty ∧
    inserted.bmon[(0 : Bay)].presenceDebounce = some 99950 ∧ 99950 + 50 ≤ inserted.now := by decide

/-- R2, R53. -/
theorem test_attach :
    gives (.attach 0) inserted
      (fun t => t.bmon[(0 : Bay)].tagRead == some ⟨1, 100000⟩ && t.cctl[(0 : Bay)].state == .negotiating) = true := by
  decide
/-- R1: 49 ms are not enough. -/
theorem test_attach_too_early : gives (.attach 0) (inserted.withNow 99999) (fun t => t == inserted.withNow 99999) =
    true := by decide

/-- A PRESENT bay with a loss debounce at its 50 ms. -/
def removed (s : State) : State :=
  bayBy (fun e => { e with occupancy := .present, presenceDebounce := some 99950 }) s

/-- A release of bay 1 in LATCH_WAIT, its student waiting. -/
def queuedFor (since : Nat) : State :=
  let s := releaseIs (release .latchWait) (recordIs { inCart with state := .pendingRelease } base)
  (s.withLdrv { s.ldrv with queue := [{ bay := 0, since := since }] }).withAcc { s.acc with
    transaction := some ⟨1, 0⟩ }

theorem witness_DetachEmptiesTheBay :
    ((removed base).queueGood ∧ (removed base).powerGood ∧ (removed base).bmon[(0 : Bay)].occupancy ≠ .empty ∧
      (removed base).bmon[(0 : Bay)].presenceDebounce = some 99950 ∧ 99950 + 50 ≤ (removed base).now) ∧
    (let s := releaseIs (release .opened) (recordIs inCart (removed base));
      s.cust.slotAt 0 = some 0 ∧ s.cust.slots[(0 : Fin 48)].record = some inCart ∧
      s.cust.releases[(0 : Bay)] = some (release .opened) ∧ (release .opened).recorded = true ∧
      (release .opened).held = some 0 ∧ s.cust.nextSequence < 4294967295) ∧
    (let s := recordIs inCart (removed base);
      s.cust.releases[(0 : Bay)] = none ∧ s.bmon[(0 : Bay)].door = .opened ∧ s.cust.slotAt 0 = some 0) ∧
    (bayBy (fun e => { e with door := .closed }) (recordIs inCart (removed base))).bmon[(0 : Bay)].door = .closed ∧
    (∀ stage : ReleaseStage, (releaseIs (release stage) (removed (queuedFor 99000))).cust.releases[(0 : Bay)] =
      some (release stage)) ∧
    ((removed (queuedFor 99000)).acc.transaction = some ⟨1, 0⟩ ∧
      (removed (queuedFor 99000)).cust.slotAt 0 = some 0 ∧ (release .latchWait).held = some 0 ∧
      (removed base).acc.transaction = none) ∧
    (let r : Release := { release .opened with recorded := false, held := none };
      (releaseIs r (removed base)).cust.releases[(0 : Bay)] = some r ∧ r.recorded = false) :=
  ⟨⟨queueGood_of_none _ (by decide) (by decide) (by decide) (by decide),
    by unfold State.powerGood; decide, by decide⟩, by decide, by decide, by decide,
    fun stage => by cases stage <;> decide, by decide, by decide⟩

/-- R1: a loss that has not stood for 50 ms is no detach. -/
theorem test_detach_too_early :
    gives (.detach 0) ((removed base).withNow 99999) (fun t => t == (removed base).withNow 99999) = true := by decide

/-- A SETTLING bay in its third tag-read attempt. -/
def reading (attempt : Nat) : State :=
  bayBy (fun e => { e with occupancy := .settling, tagRead := some ⟨attempt, 99750⟩ }) base

/-- Bay 2 PRESENT with tag 5. -/
def secondPresent (s : State) : State :=
  s.withBmon (s.bmon.set (1 : Bay) { s.bmon[(1 : Bay)] with occupancy := .present, tag := some 5 })

def outRecord : CustodyRecord := { inCart with state := .out, bay := none, lastBay := some 1 }

/-- Every custody slot has a record, none of tag 5. -/
def fullCustody (s : State) : State :=
  s.withCust { s.cust with
    slots := Vector.ofFn fun i => { record := some { outRecord with tag := BitVec.ofNat 48 (100 + i.val) }, count := 0 } }

theorem witness_TagReadPlacesTheTablet :
    ((reading 1).bmon[(0 : Bay)].occupancy = .settling ∧ (reading 1).bmon[(0 : Bay)].tagRead = some ⟨1, 99750⟩ ∧
      (reading 1).now ≤ 99750 + 250 ∧ (5 : Tag) ≠ BitVec.allOnes 48 ∧ (reading 1).cust.slotOf 5 = none ∧
      (reading 1).cust.freeSlot = some 0 ∧
      ∀ x : Bay, x ≠ 0 → (reading 1).bmon[x].occupancy ≠ .present) ∧
    (secondPresent (reading 1)).bmon[(1 : Bay)].tag = some 5 ∧
    ((recordIs outRecord (reading 1)).cust.slotOf 5 = some 0 ∧
      (recordIs outRecord (reading 1)).cust.freeEntry = some 0 ∧
      (recordIs outRecord (reading 1)).cust.nextSequence < 4294967295) ∧
    ((recordIs { inCart with tag := 6 } (reading 1)).cust.slotAt 0 = some 0 ∧
      ({ inCart with tag := 6 } : CustodyRecord).tag ≠ 5) ∧
    ((fullCustody (reading 1)).cust.slotOf 5 = none ∧ (fullCustody (reading 1)).cust.freeSlot = none) ∧
    ((recordIs { inCart with bay := some 1 } (reading 1)).cust.slotOf 5 = some 0 ∧
      (recordIs inCart (reading 1)).cust.slotOf 5 = some 0) := by decide

/-- R3, R70, R127: PRESENT, path WATCH, a new record in slot 1. -/
theorem test_tag_read :
    gives (.tagFrame 0 5 true) (reading 1)
      (fun t => t.bmon[(0 : Bay)].occupancy == .present && t.bmon[(0 : Bay)].path == .watch &&
        t.cust.slots[(0 : Fin 48)].record == some inCart) = true := by decide
/-- R4. -/
theorem test_tag_read_duplicate :
    gives (.tagFrame 0 5 true) (secondPresent (reading 1))
      (fun t => t.bmon[(0 : Bay)].occupancy == .duplicate) = true := by decide

theorem witness_FailedTagReadsEndInAnon :
    (reading 3).bmon[(0 : Bay)].occupancy = .settling ∧ (reading 3).bmon[(0 : Bay)].tagRead = some ⟨3, 99750⟩ ∧
    99750 + 250 ≤ (reading 3).now ∧ (reading 3).now ≤ 99750 + 250 ∧
    (reading 2).bmon[(0 : Bay)].tagRead = some ⟨2, 99750⟩ ∧
    (recordIs inCart (reading 3)).cust.slotAt 0 = some 0 := by decide

/-- R3, R5. -/
theorem test_tag_attempt_expiry :
    gives (.tagReadAttemptExpiry 0) (reading 2)
      (fun t => t.bmon[(0 : Bay)].tagRead == some ⟨3, 100000⟩) = true ∧
    gives (.tagReadAttemptExpiry 0) (reading 3) (fun t => t.bmon[(0 : Bay)].occupancy == .anon) = true := by decide

/-- A CLOSED door whose input reads OPEN for 20 ms. -/
def openingOf (s : State) : State :=
  bayBy (fun e => { e with door := .closed, doorDebounce := some 99980 }) s

def opening : State := openingOf base

/-- An OPEN door whose input reads CLOSED for 20 ms. -/
def closing : State :=
  pinsBy (fun p => { p with door := .closed }) (bayBy (fun e => { e with doorDebounce := some 99980 }) base)

def driveOf (s : State) : State :=
  s.withLdrv { s.ldrv with
    slots := s.ldrv.slots.set (0 : Slot)
      (some { bay := 0, mode := .pulse, pulse := 300, since := 99700, releasedSeen := false }) }

/-- Bay 1 is driven in HOLD, and bay 2 waits. -/
def holdDrive : Drive := { bay := 0, mode := .hold, pulse := 300, since := 97000, releasedSeen := true }
def holding (s : State) : State :=
  s.withLdrv { s.ldrv with
    mode := .hold, queue := [{ bay := 1, since := 99000 }], slots := s.ldrv.slots.set (0 : Slot) (some holdDrive) }

theorem witness_ForcedOpeningIsReported :
    opening.powerGood ∧ opening.queueGood ∧ opening.bmon[(0 : Bay)].door = .closed ∧
    opening.pins[(0 : Bay)].door = .opened ∧ opening.bmon[(0 : Bay)].doorDebounce = some 99980 ∧
    99980 + 20 ≤ opening.now ∧ opening.ldrv.driving 0 = false ∧ opening.cust.releases[(0 : Bay)] = none ∧
    opening.cust.freeEntry = some 0 ∧ opening.cust.nextSequence < 4294967295 ∧
    ((openingOf (queuedFor 99000)).powerGood ∧ (openingOf (queuedFor 99000)).queueGood ∧
      (openingOf (queuedFor 99000)).cust.releases[(0 : Bay)] = some (release .latchWait) ∧
      (openingOf (queuedFor 99000)).acc.transaction = some ⟨1, 0⟩ ∧
      (openingOf (queuedFor 99000)).ldrv.driving 0 = false ∧
      (openingOf (queuedFor 99000)).cust.slotAt 0 = some 0) :=
  ⟨by unfold State.powerGood; decide,
    queueGood_of_none _ (by decide) (by decide) (by decide) (by decide), by decide, by decide, by decide,
    by decide, by decide, by decide, by decide, by decide, by unfold State.powerGood; decide,
    queueGood_of_none _ (by decide) (by decide) (by decide) (by decide), by decide⟩

theorem witness_DoorsOfAReleaseOpenAndClose :
    (driveOf opening).powerGood ∧ (driveOf opening).ldrv.driving 0 = true ∧
    (releaseIs (release .window) opening).cust.releases[(0 : Bay)] = some (release .window) ∧
    ((holding opening).powerGood ∧ (holding opening).queueGood ∧
      (holding opening).ldrv.slots[(0 : Slot)] = some holdDrive ∧ (holding opening).ldrv.slotDrives (1 - 0) 0 = false) ∧
    (closing.bmon[(0 : Bay)].door = .opened ∧ closing.pins[(0 : Bay)].door = .closed ∧
      closing.bmon[(0 : Bay)].doorDebounce = some 99980 ∧ 99980 + 20 ≤ closing.now) ∧
    (let s := releaseIs (release .opened) (recordIs inCart closing);
      s.cust.releases[(0 : Bay)] = some (release .opened) ∧ (release .opened).recorded = true ∧
      s.bmon[(0 : Bay)].presenceDebounce = none ∧ s.cust.slotAt 0 = some 0 ∧
      s.cust.slots[(0 : Fin 48)].record = some inCart) :=
  ⟨by unfold State.powerGood; decide, by decide, by decide, ⟨by unfold State.powerGood; decide,
    queueGood_of_none _ (by decide) (by decide) (by decide) (by decide), by decide⟩, by decide⟩

/-- R11, R12, R125: FORCED, FORCED_OPEN requested, entry 1 FILLED. -/
theorem test_forced_open :
    gives (.doorEvent 0) opening
      (fun t => t.bmon[(0 : Bay)].lastOpen == some .forced && t.nctl.sources[(1 : Fin 16)].request &&
        t.cust.journal[(0 : Fin 48)].state == .filled) = true := by decide

/-- R114, R123: DENY_NOT_READY with FAULT, the record IN_CART. -/
theorem test_forced_open_in_latch_wait :
    gives (.doorEvent 0) (openingOf (queuedFor 99000))
      (fun t => t.out.txd == [⟨0x16, 1, 4⟩] && t.cust.slots[(0 : Fin 48)].record == some inCart &&
        t.cust.releases[(0 : Bay)] == none) = true := by decide

def sensing : State := bayBy (fun e => { e with latch := .locked, latchDebounce := some 99980 }) base

theorem witness_LatchSenseChangesAfterItsHold :
    (driveOf sensing).bmon[(0 : Bay)].latchDebounce = some 99980 ∧ 99980 + 20 ≤ (driveOf sensing).now ∧
    (driveOf sensing).pins[(0 : Bay)].latch ≠ (driveOf sensing).bmon[(0 : Bay)].latch ∧
    (driveOf sensing).ldrv.slots[(0 : Slot)].isSome = true := by decide

/-- Bay 1 waits for a channel, and all that it needs is the latch sense LOCKED, which has held for 20 ms. -/
def nearlyEligible (mode : Mode) : State :=
  let s := recordIs inCart (pinsBy (fun p => { p with latch := .locked }) (bayBy (fun e => { e with
    occupancy := .present, tag := some 5, door := .closed, latchDebounce := some 99980, level := some 40
    path := .watch }) base))
  let s := provBy (fun r => { r with state := .waiting, wanted := 7 }) s
  s.withPsched { s.psched with queue := [0], mode := mode }

/-- R74, R75: the first bay and the first channel of a consideration in ATTENDED. -/
theorem witness_considers :
    let s := nearlyEligible .attended
    let u := s.setEntry 0 { s.bmon[(0 : Bay)] with latch := .locked, latchDebounce := none }
    s.bmon[(0 : Bay)].latchDebounce = some 99980 ∧ s.pins[(0 : Bay)].latch ≠ s.bmon[(0 : Bay)].latch ∧
    u.psched.mode = .attended ∧ u.psched.queue.Nodup ∧ u.mayJoin 0 ∧
    (∀ b : Bay, u.eligible b = true ↔ u.mayJoin b) ∧ u.grantPairs u.eligible = [(0, 0)] ∧
    (nearlyEligible .standalone).psched.mode = .standalone :=
  ⟨by decide, by decide, by decide, by decide, (eligible_iff _ _).mp (by decide), eligible_iff _, by decide,
    by decide⟩

/-- R75, R76, R89: ACTIVE on channel 1 in ATTENDED, still WAITING in STANDALONE. -/
theorem test_grant :
    gives (.latchSenseChange 0) (nearlyEligible .attended)
      (fun t => t.psched.records[(0 : Bay)].state == .active && t.bmon[(0 : Bay)].path == .joined &&
        (t.psched.channels[(0 : Chan)].session.map fun x => (x.bay, x.wanted, x.since)) == some (0, 7, 100000)) =
      true ∧
    gives (.latchSenseChange 0) (nearlyEligible .standalone)
      (fun t => t.psched.records[(0 : Bay)].state == .waiting &&
        t.psched.channels[(0 : Chan)].session == none) = true := by decide

/-- R13, R141. -/
theorem test_latch_sense :
    gives (.latchSenseChange 0) (driveOf sensing)
      (fun t => t.bmon[(0 : Bay)].latch == .released &&
        (t.ldrv.slots[(0 : Slot)].map fun d => d.releasedSeen) == some true) = true := by decide

/-- A PRESENT bay at level 10, its report awaited for 250 ms, its poll 30 s and its report 90 s old. -/
def polling : State :=
  bayBy (fun e => { e with
    occupancy := .present, level := some 10, levelAge := some 10000, pollTimer := some 70000
    reportWait := some 99750 }) base

theorem witness_LevelsAreReportedAndGoStale :
    polling.settled ∧ polling.bmon[(0 : Bay)].occupancy = .present ∧
    (polling.bmon[(0 : Bay)].pollTimer = some 70000 ∧ 70000 + 30000 ≤ polling.now) ∧
    (polling.bmon[(0 : Bay)].reportWait = some 99750 ∧ 99750 + 250 ≤ polling.now ∧ polling.now ≤ 99750 + 250) ∧
    (polling.bmon[(0 : Bay)].levelAge = some 10000 ∧ 10000 + 90000 ≤ polling.now) ∧
    polling.bmon[(0 : Bay)].level = some (10 : Byte).toNat ∧ polling.bmon[(0 : Bay)].level ≠ some (100 : Byte).toNat ∧
    base.bmon[(0 : Bay)].occupancy ≠ .present := by
  unfold State.settled
  decide

theorem test_level_poll :
    gives (.levelPoll 0) polling (fun t => t.bmon[(0 : Bay)].pollTimer == some 100000 &&
      t.bmon[(0 : Bay)].reportWait == some 100000) = true := by decide
theorem test_level_report_restarts_age :
    gives (.levelReport 0 10 true) polling (fun t => t.bmon[(0 : Bay)].levelAge == some 100000) = true := by decide
theorem test_level_report_above_100 : gives (.levelReport 0 101 true) polling (fun t => t == polling) = true := by decide
theorem test_report_wait_expiry :
    gives (.levelReportWaitExpiry 0) polling (fun t => t.bmon[(0 : Bay)].reportWait == none) = true := by decide
theorem test_level_stale_too_early :
    gives (.levelStale 0) (polling.withNow 99999) (fun t => t == polling.withNow 99999) = true := by decide

def theSession : Session :=
  { bay := 0, start := none, wanted := 7, sessionLimit := 1, silenceLimit := 30, since := 40000 }

theorem witness_SilentAndLongSessionsEnd :
    joinedState.queueGood ∧ joinedState.psched.channels[(0 : Chan)].session = some theSession ∧
    theSession.bay = 0 ∧ joinedState.bmon[(0 : Bay)].path = .joined ∧
    joinedState.bmon[(0 : Bay)].joined = some 0 ∧ joinedState.bmon[(0 : Bay)].silence = some ⟨70000, 30⟩ ∧
    70000 + 1000 * 30 ≤ joinedState.now ∧ theSession.since + 60000 * theSession.sessionLimit ≤ joinedState.now ∧
    2 ≤ joinedState.psched.records[(0 : Bay)].attempts :=
  ⟨queueGood_joined, by decide⟩

theorem test_line_activity :
    gives (.lineActivity 0) joinedState
      (fun t => t.bmon[(0 : Bay)].silence == some ⟨100000, 30⟩) = true := by decide
/-- R20, R78, R80: STALLED, and FAILED at the third attempt. -/
theorem test_silence :
    gives (.silenceEvent 0) joinedState
      (fun t => t.psched.records[(0 : Bay)].lastOutcome == some .stalled &&
        t.psched.records[(0 : Bay)].state == .failed) = true := by decide
theorem test_session_limit :
    gives (.sessionTimerExpiry 0) joinedState
      (fun t => t.psched.records[(0 : Bay)].lastOutcome == some .expired &&
        t.psched.channels[(0 : Chan)].session == none) = true := by decide

def atFault (s : State) : State := bayBy (fun e => { e with faultTimer := some 99200 }) s

theorem witness_FaultLevelCutsThePath :
    ((atFault joinedState).bmon[(0 : Bay)].faultTimer = some 99200 ∧ 99200 + 800 ≤ (atFault joinedState).now ∧
      (atFault joinedState).bmon[(0 : Bay)].path = .joined ∧
      (atFault joinedState).psched.channels[(0 : Chan)].session = some theSession) ∧
    (atFault (bayBy (fun e => { e with path := .watch }) base)).bmon[(0 : Bay)].path = .watch := by decide

theorem test_fault_level :
    gives (.faultLevelExpiry 0) (atFault joinedState)
      (fun t => t.bmon[(0 : Bay)].path == .cut &&
        t.psched.records[(0 : Bay)].lastOutcome == some .linkFault) = true := by decide

/-! ## Power -/

def supplyBy (f : PAlloc → PAlloc) (s : State) : State := s.withPalloc (f s.palloc)

/-- The input at 70 % for 40 ms; at 78 % for 40 ms; above both thresholds for 2 s in SAG and in DEEP_SAG. -/
def falling : State := (supplyBy (fun p => { p with belowSag := some 99960, belowDeep := some 99960 }) base)
def sagging : State := (supplyBy (fun p => { p with belowSag := some 99960 }) base)
def rising (x : SupplyState) : State :=
  supplyBy (fun p => { p with supply := x, aboveSag := some 98000, aboveDeep := some 98000 }) base

theorem witness_SupplyFallsAndRises :
    (falling.palloc.supply = .nominal ∧ due falling.palloc.belowSag 40 falling.now = true ∧
      due falling.palloc.belowDeep 40 falling.now = true) ∧
    (sagging.palloc.supply = .nominal ∧ due sagging.palloc.belowSag 40 sagging.now = true ∧
      due sagging.palloc.belowDeep 40 sagging.now = false) ∧
    ((rising .deepSag).palloc.supply = .deepSag ∧
      due (rising .deepSag).palloc.aboveDeep 2000 (rising .deepSag).now = true) ∧
    ((rising .sag).palloc.supply = .sag ∧ due (rising .sag).palloc.aboveSag 2000 (rising .sag).now = true) := by decide

/-- R29: at 87.99 % the sag timer starts, the deep one does not. -/
theorem test_supply_crossing :
    gives (.supplyInputCrossing 8799) base
      (fun t => t.palloc.belowSag == some 100000 && t.palloc.belowDeep == none) = true := by decide
theorem test_supply_fall : gives .supplyFall sagging (fun t => t.palloc.supply == .sag) = true := by decide
theorem test_supply_rise :
    gives .supplyRise (rising .deepSag) (fun t => t.palloc.supply == .sag) = true := by decide

theorem witness_ThermalSamplesDecideTheState :
    base.settled ∧ base.palloc.sampleSince + 1000 ≤ base.now ∧ ¬base.palloc.invalidSamples < 2 ∧
    (supplyBy (fun p => { p with invalidSamples := 1 }) base).palloc.invalidSamples < 2 := by
  unfold State.settled
  decide

/-- Table 2-4: 35.5 °C is 36 °C, DERATED with factor 15; 49.5 °C is HOLD. -/
theorem test_thermal_sample :
    gives (.thermalSample (.value 35500)) base
      (fun t => t.palloc.thermal == .derated && t.palloc.thermalFactor == 15) = true ∧
    gives (.thermalSample (.value 49500)) base (fun t => t.palloc.thermal == .hold) = true := by decide

/-- Bay 1 NEGOTIATING since 400 ms; COOLDOWN since 30 s; DELIVERING. -/
def negotiating : State := chargeBy (fun c => { c with state := .negotiating, negotiation := some 99600 }) base
def cooling : State := chargeBy (fun c => { c with state := .cooldown, cooldown := some 70000 }) base
def delivering : State := chargeBy (fun c => { c with state := .delivering, demand := 20 }) base

theorem witness_DemandsAreAgreed :
    (negotiating.settled ∧ negotiating.cctl[(0 : Bay)].state = .negotiating ∧
      negotiating.cctl[(0 : Bay)].negotiation = some 99600 ∧ 99600 + 400 ≤ negotiating.now) ∧
    (cooling.settled ∧ cooling.cctl[(0 : Bay)].state = .cooldown ∧
      cooling.cctl[(0 : Bay)].cooldown = some 70000 ∧ 70000 + 30000 ≤ cooling.now) ∧
    (delivering.settled ∧ delivering.cctl[(0 : Bay)].state = .delivering ∧
      delivering.cctl[(0 : Bay)].demand = min 20 120) := by
  unfold State.settled
  decide

/-- R54: at most 120 qW. -/
theorem test_agreement :
    gives (.agreement 0 121) negotiating (fun t => t.cctl[(0 : Bay)].demand == 120) = true := by decide
/-- R55: the basic rate. -/
theorem test_negotiation_expiry :
    gives (.negotiationExpiry 0) negotiating (fun t => t.cctl[(0 : Bay)].demand == 20) = true := by decide
theorem test_announcement :
    gives (.demandAnnouncement 0 60) delivering (fun t => t.cctl[(0 : Bay)].demand == 60) = true := by decide
theorem test_cooldown_expiry :
    gives (.cooldownExpiry 0) cooling (fun t => t.cctl[(0 : Bay)].state == .negotiating) = true := by decide

/-- Bay 1 at 20 of 30 qW with its ramp timer due; and after two high samples and two trips. -/
def ramping : State :=
  chargeBy (fun c => { c with state := .delivering, grant := 30, applied := 20, ramp := some 99900 }) base
def overCurrent (trips : Nat) : State :=
  chargeBy (fun c => { c with
    state := .delivering, grant := 30, applied := 30, trips := trips, highSamples := 2, lastSample := some 99999 }) base

/-- A tablet charges behind a CLOSED door with two high samples standing, as the door opens. -/
def cutByDoor : State :=
  pass (chargeBy (fun c => { c with
      state := .delivering, demand := 30, applied := 20, highSamples := 2, lastSample := some 99999 })
    (bayBy (fun e => { e with
      occupancy := .present, tag := some 5, level := some 10, door := .closed, doorDebounce := some 99980 }) base))

theorem witness_RampAndTripOfAppliedPower :
    (ramping.cctl[(0 : Bay)].state = .delivering ∧ ramping.cctl[(0 : Bay)].ramp = some 99900 ∧
      99900 + 100 ≤ ramping.now ∧ ramping.cctl[(0 : Bay)].applied < ramping.cctl[(0 : Bay)].grant ∧
      ramping.cctl[(0 : Bay)].grant ≤ 120) ∧
    ((overCurrent 2).cctl[(0 : Bay)].state = .delivering ∧ 0 < (overCurrent 2).cctl[(0 : Bay)].applied ∧
      (overCurrent 2).cctl[(0 : Bay)].lastSample = some 99999 ∧ 99999 + 1 ≤ (overCurrent 2).now ∧
      2 ≤ (overCurrent 2).cctl[(0 : Bay)].highSamples ∧ ¬(overCurrent 2).cctl[(0 : Bay)].trips < 2 ∧
      (overCurrent 1).cctl[(0 : Bay)].trips < 2) ∧
    (cutByDoor.powerGood ∧ cutByDoor.settled ∧ cutByDoor.bmon[(0 : Bay)].door = .closed ∧
      cutByDoor.pins[(0 : Bay)].door = .opened ∧ cutByDoor.bmon[(0 : Bay)].doorDebounce = some 99980 ∧
      99980 + 20 ≤ cutByDoor.now ∧ cutByDoor.cctl[(0 : Bay)].state = .delivering ∧
      0 < cutByDoor.cctl[(0 : Bay)].applied ∧ cutByDoor.cctl[(0 : Bay)].highSamples = 2 ∧
      cutByDoor.cctl[(0 : Bay)].lastSample = some 99999 ∧
      cutByDoor.cctl[(0 : Bay)].trips < 2 ∧ cutByDoor.cctl[(0 : Bay)].thirdDue ≠ some cutByDoor.now) := by
  refine ⟨by decide, by decide, ?_⟩
  unfold State.powerGood State.settled
  decide

/-- After the door OPEN of a bay with two trips no bay is queued, so the lockout's consideration grants nothing. -/
theorem witness_grantsNothing :
    (chargeBy (fun c => { c with trips := 2 }) cutByDoor).cctl[(0 : Bay)].trips = 2 ∧
    ∃ t, exec (.doorEvent 0) (chargeBy (fun c => { c with trips := 2 }) cutByDoor) = .next t ∧ t.grantsNothing := by
  refine ⟨by decide, _, rfl, .inr (.inr fun b hb => absurd hb ?_)⟩
  revert b
  decide

/-- R58, R59: 10 qW more, code floor(30 × 4095 / 120) = 1023. -/
theorem test_ramp :
    gives (.rampStep 0) ramping
      (fun t => t.cctl[(0 : Bay)].applied == 30 && t.cctl[(0 : Bay)].setpoint == 1023 &&
        t.cctl[(0 : Bay)].ramp == none) = true := by decide
/-- R61, R63: the third trip locks out. -/
theorem test_trip :
    gives (.overCurrentSample 0 true) (overCurrent 2)
      (fun t => t.cctl[(0 : Bay)].state == .lockedOut && t.cctl[(0 : Bay)].applied == 0) = true ∧
    gives (.overCurrentSample 0 true) (overCurrent 1) (fun t => t.cctl[(0 : Bay)].state == .cooldown) = true := by decide

/-- R46: the door's pass cuts the power first, and the third high sample of that millisecond still trips. -/
theorem test_trip_after_door :
    gives (.doorEvent 0) cutByDoor (fun t => t.cctl[(0 : Bay)].applied == 0 &&
      gives (.overCurrentSample 0 true) t (fun u => u.cctl[(0 : Bay)].trips == 1 &&
        u.cctl[(0 : Bay)].state == .cooldown)) = true := by decide

/-- R60: a cut to 0 by the thermal state ends the sampling, and the third high sample is not taken. -/
theorem test_no_trip_after_thermal_cut :
    gives (.thermalSample (.value 50000)) cutByDoor (fun t => t.cctl[(0 : Bay)].applied == 0 &&
      gives (.overCurrentSample 0 true) t (fun u => u.cctl[(0 : Bay)].trips == 0)) = true := by decide

/-! ## The reader and the clock -/

/-- R181: the frame of token 1; its bytes add up to 0. -/
theorem test_frame_bytes : frameOfToken 1 = [0x01, 1, 0, 0, 0, 0, 0, 0, 0, 0xFE] := by decide
/-- R181: the verdict RELEASE of bay 1: 0xA5, 0x02, 0x01, 0x01, 0x00 and the check 0xFC. -/
theorem test_verdict_bytes : (VerdictFrame.mk 0x01 1 0).bytes = [0xA5, 0x02, 0x01, 0x01, 0x00, 0xFC] := by decide

/-- No frame; one whose start byte is 50 ms, 51 ms, 5 ms and 6 ms old. -/
theorem witness_ReaderFramesAreChecked :
    base.acc.collecting = none ∧ (bankState.acc.collecting = some 99950 ∧ ¬99950 + 50 < bankState.now ∧
      99950 + 50 < (bankState.withNow 100001).now ∧ (bankState.withNow 99955).now ≤ 99950 + 5 ∧
      99950 + 5 < (bankState.withNow 99956).now) ∧
    tokenOfFrame [0x02, 1, 0, 0, 0, 0, 0, 0, 0, 0xFD] = none ∧
    ([0x02, 1, 0, 0, 0, 0, 0, 0, 0, 0xFD] : List Byte).head? ≠ some 0x01 := by decide

theorem test_start_byte : gives .startByte base (fun t => t.acc.collecting == some 100000) = true := by decide
/-- R181: more than 5 ms after the start byte. -/
theorem test_reader_gap :
    gives .readerByteGap (bankState.withNow 99956) (fun t => t.acc.collecting == none) = true ∧
    gives .readerByteGap (bankState.withNow 99955) (fun t => t.acc.collecting == some 99950) = true := by decide
theorem test_frame_discarded :
    gives (.frameDiscarded .badCheck) bankState (fun t => t.acc.collecting == none && t.out.txd == []) = true := by decide

def entryOne (role status : Byte) (homeBay : Byte := 1) : List Byte := [1, 0, 0, 0, 0, 0, 0, 0, role, 1, homeBay, status]
def bankOf (role status : Byte) : State := bankState.withMem (Memory.writeList [] 0x3800 (entryOne role status))
def credential (role status : Byte) : CredentialEntry :=
  { token := 1, role := role, group := 1, homeBay := 1, status := status }
def service (s : State) : State := s.withAcc { s.acc with service := true }

/-- Each clause's state: a transaction that is DECIDING, an unknown token, a suspended one, a closed group,
SERVICE, a holder, a full journal, a teacher in and out of SERVICE, and a technician. -/
theorem witness_TokensGetTheirVerdicts :
    (bankState.acc.collecting = some 99950 ∧ bankState.now ≤ 99950 + 50 ∧ bankState.acc.transaction = none ∧
      bankState.lookup 2 = none) ∧
    (bankState.withAcc { bankState.acc with transaction := some ⟨1, 0⟩ }).acc.transaction.isSome = true ∧
    (bankOf 1 2).lookup 1 = some (credential 1 2) ∧
    ((bankOf 1 1).lookup 1 = some (credential 1 1) ∧ (bankOf 1 1).groupOpen 1 = true ∧
      (bankOf 1 1).acc.service = false ∧ (service (bankOf 1 1)).acc.service = true) ∧
    ((bankOf 1 1).withAcc { (bankOf 1 1).acc with clock := none }).groupOpen 1 = false ∧
    (recordIs { outRecord with holder := some 1 } (bankOf 1 1)).cust.holds 1 none = true ∧
    ((bankOf 1 1).withCust { base.cust with
      journal := Vector.replicate 48 { JournalEntry.reset with state := .filled } }).cust.freeEntry = none ∧
    ((service (bankOf 2 1)).lookup 1 = some (credential 2 1) ∧ (bankOf 2 1).acc.service = false) ∧
    (bankOf 3 1).lookup 1 = some (credential 3 1) := by decide

/-- R110, R116. -/
theorem test_token_verdicts :
    gives (.tokenArrival (frameOfToken 2)) bankState (fun t => t.out.txd == [⟨0x10, 0, 0⟩]) = true ∧
    gives (.tokenArrival (frameOfToken 1)) (bankOf 3 1)
      (fun t => t.out.txd == [⟨0x03, 0, 0⟩] && t.acc.service) = true := by decide

/-- Bay 1 ready: PRESENT, door CLOSED, latch LOCKED, level 60, its record IN_CART. -/
def readyIn (s : State) : State :=
  recordIs inCart (bayBy (fun e => { e with
    occupancy := .present, tag := some 5, door := .closed, latch := .locked, level := some 60 }) s)

def readyBay : State := readyIn (bankOf 1 1)

/-- Bay 1 ready and of group 1, for a token of the role without a home bay. -/
def pooled (role status : Byte) : State :=
  bayBy (fun e => { e with pool := some 1 })
    (readyIn (bankState.withMem (Memory.writeList [] 0x3800 (entryOne role status 0))))

/-- R115: bay 1 of the teacher's group is enqueued and driven, and GROUP carries the count 1. -/
theorem test_group_release :
    gives (.tokenArrival (frameOfToken 1)) (pooled 2 1)
      (fun t => t.out.txd == [⟨0x02, 1, 0⟩] &&
        (t.cust.slots[(0 : Fin 48)].record.map CustodyRecord.state) == some .pendingRelease &&
        (t.ldrv.slots[(0 : Slot)].map Drive.bay) == some 0) = true := by decide

def fullLatches : State :=
  readyBay.withLdrv { readyBay.ldrv with queue := (List.range 12).map fun _ => { bay := 1, since := 0 } }

/-- The record at bay 1 is PENDING_RELEASE, so the bay is not ready. -/
def busyRecord (s : State) : State := recordIs { inCart with state := .pendingRelease } s

def busySlots : State :=
  let d : Drive := { bay := 1, mode := .pulse, pulse := 300, since := 99900, releasedSeen := false }
  readyBay.withLdrv { readyBay.ldrv with slots := #v[some d, some { d with bay := 2 }], reserveHeld := true }

/-- One slot drives bay 2, and the mode is HOLD. -/
def busySlot : State :=
  readyBay.withLdrv { readyBay.ldrv with
    mode := .hold
    slots := #v[some { bay := 1, mode := .hold, pulse := 300, since := 99900, releasedSeen := false }, none] }

/-- Bay selection: the home bay not ready; no bay of the pool ready; one of them ready. Takes: the queue full; slot 1
idle; both slots busy; slot 2 idle in HOLD. -/
theorem witness_StudentChecksOutTheHomeBay :
    (readyBay.acc.collecting = some 99950 ∧ readyBay.now ≤ 99950 + 50 ∧ readyBay.acc.transaction = none ∧
      readyBay.lookup 1 = some (credential 1 1) ∧ (credential 1 1).homeBay.toNat = (0 : Bay).val + 1 ∧
      readyBay.groupOpen 1 = true ∧ readyBay.acc.service = false ∧ readyBay.cust.holds 1 none = false ∧
      readyBay.cust.freeEntry = some 0) ∧
    (¬(bankOf 1 1).readyFor 0 1 ∧ (bankOf 1 1).homeReasonIs 0 1 1) ∧
    ((pooled 1 1).lookup 1 = some { credential 1 1 with homeBay := 0 } ∧ (pooled 1 1).groupOpen 1 = true ∧
      (pooled 1 1).readyFor 0 1 ∧ (∀ x : Bay, x ≠ 0 → ¬(pooled 1 1).readyFor x 1) ∧
      (pooled 1 1).bmon[(0 : Bay)].pool = some 1 ∧ ∀ x : Bay, ¬(busyRecord (pooled 1 1)).readyFor x 1) ∧
    (fullLatches.readyFor 0 1 ∧ fullLatches.ldrv.canTake 0 = false) ∧
    (readyBay.readyFor 0 1 ∧ readyBay.ldrv.canTake 0 = true ∧ readyBay.queueBlocked ∧ ¬readyBay.mustWait 0) ∧
    (busySlots.readyFor 0 1 ∧ busySlots.ldrv.canTake 0 = true ∧ busySlots.queueBlocked ∧ busySlots.mustWait 0) ∧
    (busySlot.readyFor 0 1 ∧ busySlot.ldrv.canTake 0 = true ∧ busySlot.queueBlocked ∧ ¬busySlot.mustWait 0 ∧
      busySlot.ldrv.slots[(0 : Slot)] ≠ none ∧ busySlot.ldrv.mode = .hold) := by
  have empty : ∀ s : State, s.ldrv.queue = [] → s.queueBlocked := fun s h => .inr (by simp [h])
  simp only [← ready_iff]
  refine ⟨by decide, ⟨by decide, homeReason_is (bankOf 1 1) 0 1⟩, by decide, by decide, ?_, ?_, ?_⟩
  · exact ⟨by decide, by decide, empty _ rfl, by unfold State.mustWait; decide⟩
  · exact ⟨by decide, by decide, empty _ rfl, by unfold State.mustWait; decide⟩
  · exact ⟨by decide, by decide, empty _ rfl, by unfold State.mustWait; decide, by decide⟩

/-- Table 6-2: EMPTY, FAULT, NONE_FREE, PROVISIONING and CHARGING at the home bay. -/
theorem test_home_reasons :
    let denies (s : State) (r : Byte) : Bool :=
      gives (.tokenArrival (frameOfToken 1)) s (fun t => t.out.txd == [⟨0x16, 1, r⟩])
    denies (bankOf 1 1) 1 = true ∧ denies (bayBy (fun e => { e with door := .opened }) readyBay) 4 = true ∧
    denies (busyRecord readyBay) 5 = true ∧ denies (provBy (fun r => { r with state := .failed }) readyBay) 3 = true ∧
    denies (bayBy (fun e => { e with level := some 59 }) readyBay) 2 = true := by decide

/-- R48, R136: the second slot takes the request, with 56 qW in reserve. -/
theorem test_second_slot :
    gives (.tokenArrival (frameOfToken 1)) busySlot
      (fun t => (t.ldrv.slots[(1 : Slot)].map Drive.bay) == some 0 && t.palloc.reserve == 56 &&
        t.out.txd == [⟨0x01, 1, 0⟩]) = true := by decide

/-- R47, R179: with N at 0, in HOLD, a change of the reserve is one counted update of the cart page. -/
theorem test_reserve_counts_in_hold :
    let s := pass (supplyBy (fun p => { p with thermal := .hold }) base)
    s.palloc.net = 0 ∧ (requestReserve s).swm.cartCount = s.swm.cartCount + 1 ∧
    (requestReserve s).byteAt 0x18 = 56 := by decide

/-- R113, R118: RELEASE of bay 1, the record PENDING_RELEASE, entry 1 HELD. -/
theorem test_checkout :
    gives (.tokenArrival (frameOfToken 1)) readyBay
      (fun t => t.out.txd == [⟨0x01, 1, 0⟩] &&
        (t.cust.slots[(0 : Fin 48)].record.map CustodyRecord.state) == some .pendingRelease &&
        t.cust.journal[(0 : Fin 48)].state == .held) = true := by decide

def clockAt (minute second : Nat) : State :=
  base.withAcc { base.acc with
    clock := some ⟨minute, second, 99000⟩
    reservations := base.acc.reservations.set (0 : Bay) (some { deadline := 10079, token := none }) }

theorem witness_ClockAdvancesAndLapses :
    (clockAt 10079 58).acc.clock = some ⟨10079, 58, 99000⟩ ∧ 99000 + 1000 ≤ (clockAt 10079 58).now ∧
    (clockAt 10079 59).acc.clock = some ⟨10079, 59, 99000⟩ := by decide

theorem test_clock_second :
    gives .clockSecond (clockAt 10079 58) (fun t => t.acc.clock == some ⟨10079, 59, 100000⟩) = true := by decide
/-- R100, R105: the week wraps and the reservation lapses. -/
theorem test_change_of_minute :
    gives .changeOfMinute (clockAt 10079 59)
      (fun t => t.acc.clock == some ⟨0, 0, 100000⟩ && t.acc.reservations[(0 : Bay)] == none) = true := by decide

/-! ## Latches and supervision -/

def windowed : State := releaseIs (release .window) (recordIs { inCart with state := .pendingRelease } base)

theorem witness_UnopenedReleasesRevert :
    (windowed.cust.releases[(0 : Bay)] = some (release .window) ∧ (release .window).recorded = true ∧
      (release .window).held = some 0 ∧ windowed.cust.slotAt 0 = some 0 ∧
      windowed.cust.slots[(0 : Fin 48)].record = some { inCart with state := .pendingRelease } ∧
      (release .window).window = some 90000 ∧ 90000 + 10000 ≤ windowed.now) ∧
    ((queuedFor 98000).cust.releases[(0 : Bay)] = some (release .latchWait) ∧
      (queuedFor 98000).ldrv.queue = [{ bay := 0, since := 98000 }] ∧ 98000 + 2000 ≤ (queuedFor 98000).now ∧
      (queuedFor 98000).acc.transaction = some ⟨1, 0⟩) := by decide

theorem test_release_window :
    gives (.releaseWindowExpiry 0) windowed
      (fun t => t.cust.releases[(0 : Bay)] == none &&
        t.cust.slots[(0 : Fin 48)].record == some inCart) = true := by decide
/-- R114, R137: DENY_LATCH_TIMEOUT. -/
theorem test_latch_wait :
    gives (.latchWaitExpiry 0) (queuedFor 98000)
      (fun t => t.out.txd == [⟨0x18, 1, 0⟩] && t.ldrv.queue == []) = true := by decide

theorem witness_DriveEndsByTime :
    ((driveOf base).queueGood ∧ busySlots.queueGood ∧ (driveOf (queuedFor 99000)).queueGood ∧
      joinedState.queueGood ∧ (holding base).queueGood) ∧
    (driveOf base).ldrv.slots[(0 : Slot)] =
      some { bay := 0, mode := .pulse, pulse := 300, since := 99700, releasedSeen := false } ∧
    99700 + 300 ≤ (driveOf base).now ∧ (driveOf base).ldrv.queue = [] ∧
    busySlots.ldrv.slots[(1 : Slot)].isSome = true ∧ busySlots.ldrv.reserveHeld = true ∧
    (let s := driveOf (queuedFor 99000);
      s.ldrv.queue = [] ++ { bay := 0, since := 99000 } :: [] ∧ s.ldrv.slotDrives (1 - 0) 0 = false ∧
      s.psched.records[(0 : Bay)].state ≠ .active ∧ s.psched.records[(0 : Bay)].state ≠ .waiting ∧
      s.cust.releases[(0 : Bay)] = some (release .latchWait) ∧ s.acc.transaction = some ⟨1, 0⟩) ∧
    joinedState.psched.records[(0 : Bay)].state = .active ∧
    (let s := busySlots.withLdrv { busySlots.ldrv with
        queue := [{ bay := 0, since := 99000 }, { bay := 3, since := 99000 }] };
      s.ldrv.slots[1 - (0 : Slot)] ≠ none ∧ s.ldrv.slotDrives (1 - 0) 0 = false ∧ s.ldrv.mode ≠ .hold ∧
      s.psched.records[(0 : Bay)].state ≠ .active ∧ s.psched.records[(0 : Bay)].state ≠ .waiting) ∧
    (busySlots.ldrv.slotDrives (1 - 0) 2 = true ∧
      ((holding base).ldrv.slots[(0 : Slot)] = some holdDrive ∧ 97000 + 3000 ≤ (holding base).now)) :=
  have h {s : State} := queueGood_of_none s
  ⟨⟨h (by decide) (by decide) (by decide) (by decide), h (by decide) (by decide) (by decide) (by decide),
    h (by decide) (by decide) (by decide) (by decide), queueGood_joined,
    h (by decide) (by decide) (by decide) (by decide)⟩, by decide⟩

/-- R141: never seen RELEASED, so stuck. -/
theorem test_drive_end :
    gives (.driveTimeEnd 0) (driveOf base)
      (fun t => t.ldrv.slots[(0 : Slot)] == none && t.ldrv.stuck[(0 : Bay)]) = true := by decide

/-- R135, R138: the end of the drive takes the waiting request, and the student is answered. -/
theorem test_drive_end_takes_next :
    gives (.driveTimeEnd 0) (driveOf (queuedFor 99000))
      (fun t => (t.ldrv.slots[(0 : Slot)].map Drive.since) == some 100000 && t.ldrv.queue == [] &&
        t.out.txd == [⟨0x01, 1, 0⟩]) = true := by decide

def window (phase : WindowPhase) (since : Nat) : State :=
  smonBy fun m => { m with phase := phase, closedPhase := 5, maximum := 10, since := some since }

theorem witness_HeartbeatWindowExpires :
    ((window .closed 99500).smon.phase = .closed ∧
      99500 + 100 * (window .closed 99500).smon.closedPhase ≤ (window .closed 99500).now) ∧
    ((window .opened 90000).smon.since = some 90000 ∧
      90000 + 1000 * (window .opened 90000).smon.maximum ≤ (window .opened 90000).now ∧
      (window .opened 90000).nctl.sources[(2 : Fin 16)].request = false ∧
      (window .opened 90000).nctl.sources[(2 : Fin 16)].inService = false) ∧
    (sourceBy 2 (fun x => { x with request := true }) (window .opened 90000)).nctl.sources[(2 : Fin 16)].request =
      true ∧
    joinedState.psched.channels[(0 : Chan)].session.isSome = true := by decide

theorem test_closed_phase_end :
    gives .closedPhaseEnd (window .closed 99500) (fun t => t.smon.phase == .opened) = true := by decide
/-- R151: HOST_LATE, and a new window in OPEN. -/
theorem test_window_expiry :
    gives .windowExpiry (window .opened 90000)
      (fun t => t.nctl.sources[(2 : Fin 16)].request && t.smon.since == some 100000) = true := by decide

/-! ## The walker -/

def listAt (next : Half) (policy : Byte) (taken : Nat) (bytes : List Byte) : State :=
  let s := orderState bytes base
  s.setList 0 { s.owalk[(0 : ListId)] with next := next, policy := policy, taken := taken }

def stalled : State := base.setList 0 { OrderList.reset with state := .stalled, stall := some 99500, next := 0x1800 }

/-- The last 16 bytes of the order heap hold the head of a record of two units. -/
def pastEnd : State := (listAt 0x37F0 0 0 []).withMem (Memory.writeList [] 0x37F0 (posted 0x0A 2 []))

theorem witness_WalksEndAndStall :
    ((listAt 0 0 0 []).memGood ∧ (listAt 0 0 0 []).runningList = some 0 ∧
      (listAt 0 0 0 []).owalk[(1 : ListId)].state ≠ .armed ∧
      (otherArmed (listAt 0 0 0 [])).owalk[otherList 0].state = .armed) ∧
    (0x17F0 : Half).toNat < 0x1800 ∧ (0x37F0 : Half).toNat ≤ 0x37FF ∧
    ((listAt 0x37F0 0 0 []).field1 0x37F0 0 ≠ 1 ∧ (listAt 0x37F0 1 0 []).owalk[(0 : ListId)].policy = 1) ∧
    (listAt 0x1800 0 255 (posted 0x0A 1 [])).field1 0x1800 0 = 1 ∧
    ((listAt 0x1800 0 0 (posted 0x0A 17 [])).field1 0x1800 2).toNat = 17 ∧
    OrderKind.ofCode ((listAt 0x1800 0 0 (posted 0xFF 16 [])).field1 0x1800 1) = none ∧
    (pastEnd.memGood ∧ pastEnd.runningList = some 0 ∧ pastEnd.owalk[(0 : ListId)].next.toNat = 0x37F0 ∧
      pastEnd.field1 0x37F0 0 = 1 ∧ (pastEnd.field1 0x37F0 2).toNat = 2 ∧ 0x3800 < 0x37F0 + 16 * 2) ∧
    (OrderKind.ofCode ((listAt 0x1800 0 0 (posted 0x01 1 [])).field1 0x1800 1) = some .setLimits ∧
      1 < OrderKind.setLimits.units 0) ∧
    (stalled.owalk[(0 : ListId)].state = .stalled ∧ stalled.owalk[(0 : ListId)].stall = some 99500 ∧
      99500 + 500 ≤ stalled.now) :=
  ⟨⟨memGood_writeList 0x1800 [] _ rfl, by decide⟩, by decide, by decide, by decide, by decide, by decide, by decide,
    ⟨memGood_writeList 0x37F0 _ _ rfl, by decide⟩, by decide⟩

/-- R165: the ARMED list starts at the other's end. -/
theorem test_armed_list_starts :
    gives .linkOf0Followed (otherArmed (listAt 0 0 0 []))
      (fun t => t.owalk[(0 : ListId)].state == .done && t.owalk[(1 : ListId)].state == .running &&
        t.owalk[(1 : ListId)].next == 0x2000) = true := by decide

theorem test_link_of_0 :
    gives .linkOf0Followed (listAt 0 0 0 []) (fun t => t.owalk[(0 : ListId)].state == .done) = true := by decide
/-- R166, R167: a record of state 0 stalls under WAIT; one of a bad link ends the walk. -/
theorem test_record_not_dispatched :
    gives .recordNotDispatched (listAt 0x37F0 0 0 []) (fun t => t.owalk[(0 : ListId)].stall == some 100000) = true ∧
    gives .recordNotDispatched (listAt 0x17F0 0 0 [])
      (fun t => t.owalk[(0 : ListId)].faultCode == some .badLink) = true ∧
    gives .recordNotDispatched pastEnd (fun t => t.owalk[(0 : ListId)].faultCode == some .badLink) = true := by decide
theorem test_stall_expiry :
    gives (.stallTimerExpiry 0) stalled (fun t => t.owalk[(0 : ListId)].faultCode == some .notPosted) = true := by decide

/-! ## Orders -/

theorem memGood_order (bytes : List Byte) (s : State) : (orderState bytes s).memGood :=
  memGood_writeList 0x1800 bytes _ rfl

/-- SET_LIMITS: the limit, six caps, the two selects (Table 11-9). -/
def limits (limitLo limitHi sag deep : Byte) : List Byte :=
  posted 0x01 2 [limitLo, limitHi, 40, 0, 40, 0, 40, 0, 40, 0, 40, 0, 40, 0, sag, deep]

theorem witness_LimitsAndThresholdsAreClamped :
    (orderState (limits 0x90 0x01 2 1) base).memGood ∧ (orderState (limits 0x90 0x01 2 1) base).settled ∧
    (orderState (limits 0x90 0x01 2 1) base).reaches 0 .setLimits 0x1800 32 ∧
    2 < ((orderState (limits 0 0 3 0) base).field1 0x1800 0x1A).toNat ∧
    1 < ((orderState (limits 0 0 2 2) base).field1 0x1800 0x1B).toNat ∧
    (orderState (posted 0x02 1 [101, 100]) base).settled ∧
    (orderState (posted 0x02 1 [101, 100]) base).reaches 0 .setThresholds 0x1800 16 := by
  refine ⟨memGood_order _ _, ?_⟩
  unfold State.settled State.reaches
  decide

/-- R50: 399 is clamped to 400 and named in bit 0. -/
theorem test_set_limits :
    gives .setLimits (orderState (limits 0x8F 0x01 2 1) base)
      (fun t => t.palloc.limit == 400 && t.field1 0x1800 3 == OrderOutcome.doneClamped.code &&
        t.fieldN 0x1800 4 2 == 1) = true := by decide
/-- R29, R50: new selects restart the deep timers, the selects in force keep them. -/
theorem test_set_limits_timers :
    let s := supplyBy (fun p => { p with belowDeep := some 99990, aboveDeep := some 90000 }) base
    gives .setLimits (orderState (limits 0x90 0x01 2 1) s)
      (fun t => t.palloc.belowDeep == none && t.palloc.aboveDeep == some 100000) = true ∧
    gives .setLimits (orderState (limits 0x90 0x01 1 1) s)
      (fun t => t.palloc.belowDeep == some 99990 && t.palloc.aboveDeep == some 90000) = true := by decide
/-- R87. -/
theorem test_set_thresholds :
    gives .setThresholds (orderState (posted 0x02 1 [101, 100]) base)
      (fun t => t.psched.releaseThreshold == 100 && t.fieldN 0x1800 4 2 == 1) = true := by decide

theorem witness_BayConfigSetsThePoolGroup :
    (orderState (posted 0x03 1 [36, 15]) base).memGood ∧
    (orderState (posted 0x03 1 [36, 15]) base).reaches 0 .bayConfig 0x1800 16 ∧
    ((orderState (posted 0x03 1 [36, 15]) base).field1 0x1800 0x0C).toNat = (35 : Bay).val + 1 ∧
    ((orderState (posted 0x03 1 [36, 15]) base).field1 0x1800 0x0D).toNat ≤ 15 ∧
    (orderState (posted 0x03 1 [36, 15]) base).bmon[(35 : Bay)].pool = none ∧
    36 < ((orderState (posted 0x03 1 [37, 15]) base).field1 0x1800 0x0C).toNat ∧
    ((orderState (posted 0x03 1 [36, 254]) base).field1 0x1800 0x0D).toNat = 254 := by
  refine ⟨memGood_order _ _, ?_⟩
  unfold State.reaches
  decide

theorem test_bay_config :
    gives .bayConfig (orderState (posted 0x03 1 [36, 15]) base)
      (fun t => t.bmon[(35 : Bay)].pool == some 15 && t.field1 0x1800 0 == 2) = true := by decide

def reserveOrder (bay lo hi : Byte) : List Byte := posted 0x04 2 [bay, 0, lo, hi, 1, 0, 0, 0, 0, 0, 0, 0]

theorem witness_ReserveSetsOrClears :
    (orderState (reserveOrder 1 0x5F 0x27) base).memGood ∧
    (orderState (reserveOrder 1 0x5F 0x27) base).reaches 0 .reserve 0x1800 32 ∧
    (orderState (reserveOrder 1 0x5F 0x27) base).fieldN 0x1800 0x0E 2 = 10079 ∧
    (orderState (reserveOrder 1 0x60 0x27) base).fieldN 0x1800 0x0E 2 = 10080 ∧
    (orderState (reserveOrder 1 0xFF 0xFF) base).fieldN 0x1800 0x0E 2 = 65535 ∧
    36 < ((orderState (reserveOrder 37 0 0) base).field1 0x1800 0x0C).toNat := by
  refine ⟨memGood_order _ _, ?_⟩
  unfold State.reaches
  decide

theorem test_reserve :
    gives .reserve (orderState (reserveOrder 1 0x5F 0x27) base)
      (fun t => t.acc.reservations[(0 : Bay)] == some { deadline := 10079, token := some 1 }) = true := by decide

def provisionOrder (kind version lim sil m0 m4 : Byte) : List Byte :=
  posted kind 2 [version, 0, lim, sil, m0, 0, 0, 0, m4]

theorem witness_ProvisionVisitsTheMask :
    (orderState (provisionOrder 0x05 7 45 30 1 0) base).memGood ∧
    (orderState (provisionOrder 0x05 7 45 30 1 0) base).queueGood ∧
    (orderState (provisionOrder 0x05 7 45 30 1 0) base).reaches 0 .provision 0x1800 32 ∧
    (orderState (provisionOrder 0x05 7 45 30 1 0) base).fieldN 0x1800 0x10 5 < 2 ^ 36 ∧
    (7 : Half).toNat = (orderState (provisionOrder 0x05 7 45 30 1 0) base).fieldN 0x1800 0x0C 2 ∧
    2 ^ 36 ≤ (orderState (provisionOrder 0x05 7 45 30 0 16) base).fieldN 0x1800 0x10 5 ∧
    (orderState (provisionOrder 0x05 0 45 30 1 0) base).fieldN 0x1800 0x0C 2 = 0 := by
  refine ⟨memGood_order _ _, queueGood_of_none _ (by decide) (by decide) (by decide) (by decide), ?_⟩
  unfold State.reaches
  decide

/-- R83: a PRESENT bay waits; its limits are clamped. -/
theorem test_provision :
    gives .provision (orderState (provisionOrder 0x05 7 0 30 1 0) (removed base))
      (fun t => t.psched.records[(0 : Bay)].wanted == 7 && t.psched.records[(0 : Bay)].sessionLimit == 1 &&
        t.field1 0x1800 3 == OrderOutcome.doneClamped.code && t.fieldN 0x1800 4 2 == 1) = true := by decide

/-- R75, R83: an eligible bay that PROVISION appends is granted channel 1 in the same event. -/
theorem test_provision_grants :
    let s := provBy (fun r => { r with state := .none, wanted := 0 })
      (bayBy (fun e => { e with latch := .locked }) (nearlyEligible .attended))
    gives .provision (orderState (provisionOrder 0x05 7 45 30 1 0) (s.setQueue []))
      (fun t => t.psched.records[(0 : Bay)].state == .active && t.psched.queue == [] &&
        (t.psched.channels[(0 : Chan)].session.map fun x => (x.bay, x.wanted)) == some (0, 7)) = true := by decide

theorem witness_CancelProvisionWithdraws :
    (orderState (provisionOrder 0x06 0 0 0 1 15) joinedState).memGood ∧
    (orderState (provisionOrder 0x06 0 0 0 1 15) joinedState).queueGood ∧
    (orderState (provisionOrder 0x06 0 0 0 1 15) joinedState).reaches 0 .cancelProvision 0x1800 32 ∧
    (orderState (provisionOrder 0x06 0 0 0 1 15) joinedState).fieldN 0x1800 0x10 5 < 2 ^ 36 ∧
    ((orderState (provisionOrder 0x06 0 0 0 1 15) joinedState).fieldN 0x1800 0x10 5).testBit 0 = true ∧
    joinedState.psched.records[(0 : Bay)].state = .active ∧
    2 ^ 36 ≤ (orderState (provisionOrder 0x06 0 0 0 1 16) base).fieldN 0x1800 0x10 5 := by
  refine ⟨memGood_order _ _, queueGood_joined, ?_⟩
  unfold State.reaches
  decide

/-- R84. -/
theorem test_cancel_provision :
    gives .cancelProvision (orderState (provisionOrder 0x06 0 0 0 1 0) joinedState)
      (fun t => t.psched.records[(0 : Bay)].lastOutcome == some .cancelled &&
        t.psched.channels[(0 : Chan)].session == none && t.fieldN 0x1800 4 2 == 1) = true := by decide

/-- SESSION_END: channel, bay, version; the result stands in the detail. -/
def sessionEndOrder (chan bay result version : Byte) : List Byte := posted 0x07 1 [chan, bay, version, 0] result

theorem witness_SessionEndIsRuled :
    (orderState (sessionEndOrder 1 1 1 7) joinedState).memGood ∧
    (orderState (sessionEndOrder 1 1 1 7) joinedState).queueGood ∧
    (orderState (sessionEndOrder 1 1 1 7) joinedState).reaches 0 .sessionEnd 0x1800 16 ∧
    (orderState (sessionEndOrder 1 1 1 7) joinedState).fieldN 0x1800 4 2 = 1 ∧
    (7 : Half).toNat = (orderState (sessionEndOrder 1 1 1 7) joinedState).fieldN 0x1800 0x0E 2 ∧
    (orderState (sessionEndOrder 1 1 2 0) joinedState).fieldN 0x1800 4 2 = 2 ∧
    4 < ((orderState (sessionEndOrder 5 1 1 7) base).field1 0x1800 0x0C).toNat ∧
    36 < ((orderState (sessionEndOrder 1 37 1 7) base).field1 0x1800 0x0D).toNat ∧
    (orderState (sessionEndOrder 1 1 3 7) base).fieldN 0x1800 4 2 = 3 ∧
    (orderState (sessionEndOrder 1 1 1 0) base).fieldN 0x1800 0x0E 2 = 0 ∧
    base.psched.channels[(0 : Chan)].session = none ∧ base.psched.channels[(0 : Chan)].lastEnded = none ∧
    (base.setChannel 0 { session := none, lastEnded := some ⟨0, .stalled⟩ }).psched.channels[(0 : Chan)].lastEnded =
      some ⟨0, .stalled⟩ ∧ theSession.bay ≠ 1 := by
  refine ⟨memGood_order _ _, queueGood_joined, ?_⟩
  unfold State.reaches
  decide

/-- R85, R79: the wanted version was reported, so the record is CURRENT. -/
theorem test_session_end :
    gives .sessionEnd (orderState (sessionEndOrder 1 1 1 7) joinedState)
      (fun t => t.psched.records[(0 : Bay)].state == .current && t.psched.records[(0 : Bay)].installed == 7) = true := by
  decide

/-- COMMIT_CREDENTIALS of bank A with a count, over one entry in the bank. -/
def commitState (bank count role : Byte) : State :=
  let s := orderState (posted 0x08 1 [bank, 0, count, 0]) base
  s.withMem (Memory.writeList s.swm.mem 0x3800 (entryOne role 1))

def windowsOrder (count days : Byte) : List Byte :=
  posted 0x09 2 [count, 0, 0, 0, days, 0, 0, 0, 0xA0, 0x05, 2, 0]

theorem witness_CommitsTestEveryEntry :
    ((commitState 1 1 1).memGood ∧ (commitState 1 1 1).reaches 0 .commitCredentials 0x1800 16 ∧
      Bank.code .a = (commitState 1 1 1).field1 0x1800 0x0C ∧ (commitState 1 1 1).fieldN 0x1800 0x0E 2 = 1 ∧
      (credentialAt (commitState 1 1 1).swm.mem .a 0).role = 1 ∧
      (credentialAt (commitState 1 1 4).swm.mem .a 0).role = 4 ∧
      (commitState 3 1 1).field1 0x1800 0x0C = 3) ∧
    ((orderState (windowsOrder 1 0x7F) base).memGood ∧
      (orderState (windowsOrder 1 0x7F) base).reaches 0 .commitWindows 0x1800 32 ∧
      ((orderState (windowsOrder 1 0x7F) base).field1 0x1800 0x0C).toNat = 1 ∧
      (orderState (windowsOrder 1 0x7F) base).fieldN 0x1800 0x14 2 = 1440 ∧
      (orderState (windowsOrder 1 0x80) base).field1 0x1800 0x10 = 0x80) := by
  unfold State.reaches State.memGood
  decide

/-- R95, R98. -/
theorem test_commit_credentials :
    gives .commitCredentials (commitState 1 1 1)
      (fun t => t.acc.activeBank == some .a && t.acc.activeCount == 1) = true := by decide
theorem test_commit_credentials_bad_role :
    gives .commitCredentials (commitState 1 1 4)
      (fun t => t.acc.activeBank == none && t.field1 0x1800 3 == OrderOutcome.badField.code) = true := by decide
theorem test_commit_windows :
    gives .commitWindows (orderState (windowsOrder 1 0x7F) base)
      (fun t => t.acc.windows == [{ days := 0x7F, start := 0, stop := 1440, groups := 2 }]) = true := by decide

def clockOrder (lo hi second : Byte) : List Byte := posted 0x0A 1 [lo, hi, second]

theorem witness_SetClockSetsAndRestarts :
    (orderState (clockOrder 0x5F 0x27 59) base).memGood ∧
    (orderState (clockOrder 0x5F 0x27 59) base).reaches 0 .setClock 0x1800 16 ∧
    (orderState (clockOrder 0x5F 0x27 59) base).fieldN 0x1800 0x0C 2 < 10080 ∧
    ((orderState (clockOrder 0x5F 0x27 59) base).field1 0x1800 0x0E).toNat = 59 ∧
    ((orderState (clockOrder 0x5F 0x27 58) base).field1 0x1800 0x0E).toNat < 59 ∧
    10080 ≤ (orderState (clockOrder 0x60 0x27 0) base).fieldN 0x1800 0x0C 2 ∧
    60 ≤ ((orderState (clockOrder 0x5F 0x27 60) base).field1 0x1800 0x0E).toNat := by
  refine ⟨memGood_order _ _, ?_⟩
  unfold State.reaches
  decide

theorem test_set_clock :
    gives .setClock (orderState (clockOrder 0x5F 0x27 59) base)
      (fun t => t.acc.clock == some ⟨10079, 59, 100000⟩ &&
        gives .clockSecond (t.withNow 100999) (fun u => u.acc.clock == some ⟨10079, 59, 100000⟩) &&
        gives .clockSecond (t.withNow 101000) (fun u => u.acc.clock == some ⟨0, 0, 101000⟩)) = true := by decide

/-- RELEASE_BAY: bay, force, holder. -/
def releaseOrder (bay force holder : Byte) : List Byte :=
  posted 0x0B 2 [bay, force, 0, 0, holder, 0, 0, 0, 0, 0, 0, 0]

theorem witness_ReleaseBayOpensAStaffRelease :
    let s := orderState (releaseOrder 1 0 2) (removed (recordIs inCart base))
    (s.memGood ∧ s.queueGood ∧ s.reaches 0 .releaseBay 0x1800 32 ∧
      (s.field1 0x1800 0x0C).toNat = (0 : Bay).val + 1 ∧ s.bmon[(0 : Bay)].occupancy = .present ∧
      s.cust.releases[(0 : Bay)] = none ∧ s.psched.records[(0 : Bay)].state ≠ .active ∧
      s.cust.freeEntry = some 0 ∧ s.ldrv.canTake 0 = true ∧ s.holderBusy 0 (s.fieldToken 0x1800 0x10) = false ∧
      s.cust.slotAt 0 = some 0 ∧ s.ldrv.queue = []) ∧
    (removed base).cust.slotAt 0 = none ∧ base.bmon[(0 : Bay)].occupancy = .empty ∧
    (releaseIs (release .window) base).cust.releases[(0 : Bay)] = some (release .window) ∧
    joinedState.psched.records[(0 : Bay)].state = .active ∧
    (orderState (releaseOrder 1 1 2) base).field1 0x1800 0x0D ≠ 0 ∧
    fullLatches.ldrv.canTake 0 = false ∧
    (let t := recordIs inCart (bankOf 1 1);
      let u := t.withCust { t.cust with
        slots := t.cust.slots.set (1 : Fin 48) { record := some { outRecord with tag := 6, holder := some 1 }, count := 0 } }
      u.holderBusy 0 (some 1) = true) := by
  refine ⟨⟨memGood_order _ _, queueGood_of_none _ (by decide) (by decide) (by decide) (by decide), ?_⟩, by decide⟩
  unfold State.reaches
  decide

/-- R129. -/
theorem test_release_bay :
    gives .releaseBay (orderState (releaseOrder 1 0 2) (removed (recordIs inCart base)))
      (fun t => (t.cust.releases[(0 : Bay)].map Release.kind) == some .staff &&
        t.cust.journal[(0 : Fin 48)].state == .held && t.field1 0x1800 0 == 2) = true := by decide

/-- CUSTODY_RESTORE and FORGET_TABLET: the tag, and the holder. -/
def tagOrder (kind tag : Byte) : List Byte :=
  posted kind 2 [0, 0, 0, 0, tag, 0, 0, 0, 0, 0, 2, 0, 0, 0, 0, 0, 0, 0]

theorem witness_CustodyOrdersSetAndFreeSlots :
    let s := orderState (tagOrder 0x0C 5) base
    (s.memGood ∧ s.reaches 0 .custodyRestore 0x1800 32 ∧ s.fieldTag 0x1800 0x10 ≠ BitVec.allOnes 48 ∧
      s.restoreBusy (s.fieldTag 0x1800 0x10) = false ∧
      s.restoreHolderBusy (s.fieldTag 0x1800 0x10) (s.fieldToken 0x1800 0x16) = false ∧
      s.cust.slotOf (s.fieldTag 0x1800 0x10) = none ∧ s.cust.freeSlot = some 0) ∧
    (recordIs outRecord base).cust.slotOf 5 = some 0 ∧ (recordIs inCart base).restoreBusy 5 = true ∧
    ((orderState (tagOrder 0x0D 5) (recordIs outRecord base)).memGood ∧
      (orderState (tagOrder 0x0D 5) (recordIs outRecord base)).reaches 0 .forgetTablet 0x1800 32) ∧
    (orderState (tagOrder 0x0D 5) base).cust.slotOf 5 = none := by
  refine ⟨⟨memGood_order _ _, ?_⟩, by decide, by decide, ⟨memGood_order _ _, ?_⟩, by decide⟩
  · unfold State.reaches
    decide
  · unfold State.reaches
    decide

theorem test_custody_restore :
    gives .custodyRestore (orderState (tagOrder 0x0C 5) base)
      (fun t => t.cust.slots[(0 : Fin 48)].record ==
        some { inCart with state := .out, bay := none, holder := some 2 }) = true := by decide
theorem test_forget_tablet :
    gives .forgetTablet (orderState (tagOrder 0x0D 5) (recordIs outRecord base))
      (fun t => t.cust.slots[(0 : Fin 48)].record == none) = true := by decide

def latchOrder (mode lo hi : Byte) : List Byte := posted 0x0E 1 [mode, 0, lo, hi]

theorem witness_SetLatchModeSetsOrStops :
    (orderState (latchOrder 0 0xFF 0) base).memGood ∧
    (orderState (latchOrder 0 0xFF 0) base).reaches 0 .setLatchMode 0x1800 16 ∧
    (orderState (latchOrder 1 0 0) base).field1 0x1800 0x0C = 1 ∧
    (orderState (latchOrder 2 0 0) busySlots).field1 0x1800 0x0C = 2 ∧
    (orderState (latchOrder 2 0 0) busySlots).ldrv.reserveHeld = true ∧
    2 < ((orderState (latchOrder 3 0 0) base).field1 0x1800 0x0C).toNat ∧
    ((queuedFor 99000).acc.transaction = some ⟨1, 0⟩ ∧ (queuedFor 99000).ldrv.queued 0 = true) := by
  refine ⟨memGood_order _ _, ?_⟩
  unfold State.reaches
  decide

/-- R143: 255 becomes 250. -/
theorem test_set_latch_mode :
    gives .setLatchMode (orderState (latchOrder 0 0xFF 0) base)
      (fun t => t.ldrv.pulse == 250 && t.field1 0x1800 3 == OrderOutcome.doneClamped.code) = true := by decide

def locked : State := bayBy (fun e => { e with occupancy := .present, path := .cut })
  (chargeBy (fun c => { c with state := .lockedOut, trips := 3 }) base)

theorem witness_ClearFaultClears :
    (orderState (posted 0x0F 1 [1]) locked).memGood ∧ (orderState (posted 0x0F 1 [1]) locked).queueGood ∧
    (orderState (posted 0x0F 1 [1]) locked).reaches 0 .clearFault 0x1800 16 ∧
    locked.cctl[(0 : Bay)].state = .lockedOut ∧ locked.bmon[(0 : Bay)].path = .cut ∧
    base.cctl[(0 : Bay)].state ≠ .lockedOut ∧ base.bmon[(0 : Bay)].path ≠ .cut ∧
    ((orderState (posted 0x0F 1 [0]) base).field1 0x1800 0x0C).toNat = 0 := by
  refine ⟨memGood_order _ _, queueGood_of_none _ (by decide) (by decide) (by decide) (by decide), ?_⟩
  unfold State.reaches
  decide

/-- R22, R66: both are cleared, detail 3. -/
theorem test_clear_fault :
    gives .clearFault (orderState (posted 0x0F 1 [1]) locked)
      (fun t => t.cctl[(0 : Bay)].state == .negotiating && t.bmon[(0 : Bay)].path == .watch &&
        t.fieldN 0x1800 4 2 == 3) = true := by decide

def noticeOrder (source level capture threshold : Byte) : List Byte :=
  posted 0x10 1 [source, level, capture, threshold]

theorem witness_SetNoticeConfiguresASource :
    (orderState (noticeOrder 16 7 0 7) base).memGood ∧
    (orderState (noticeOrder 16 7 0 7) base).reaches 0 .setNotice 0x1800 16 ∧
    ((orderState (noticeOrder 16 7 0 7) base).field1 0x1800 0x0C).toNat = (15 : Fin 16).val + 1 ∧
    16 < ((orderState (noticeOrder 17 7 0 7) base).field1 0x1800 0x0C).toNat ∧
    7 < ((orderState (noticeOrder 16 8 0 7) base).field1 0x1800 0x0D).toNat ∧
    1 < ((orderState (noticeOrder 16 7 2 7) base).field1 0x1800 0x0E).toNat ∧
    (orderState (noticeOrder 2 7 0 7) base).field1 0x1800 0x0E = 0 ∧
    7 < ((orderState (noticeOrder 16 7 1 8) base).field1 0x1800 0x0F).toNat := by
  refine ⟨memGood_order _ _, ?_⟩
  unfold State.reaches
  decide

theorem test_set_notice :
    gives .setNotice (orderState (noticeOrder 5 6 1 4) base)
      (fun t => t.nctl.sources[(4 : Fin 16)] == NoticeSource.atReset 6 true && t.nctl.threshold == 4) = true := by
  decide

def supervisionOrder (lo hi maximum enable : Byte) : List Byte := posted 0x11 1 [lo, hi, maximum, enable]

theorem witness_SetSupervisionActsByMode :
    (orderState (supervisionOrder 30 0 2 1) base).memGood ∧
    (orderState (supervisionOrder 30 0 2 1) base).reaches 0 .setSupervision 0x1800 16 ∧
    ((orderState (supervisionOrder 30 0 2 1) base).field1 0x1800 0x0F = 1 ∧ base.smon.mode = .attended) ∧
    (smonBy fun m => { m with mode := .standalone }).smon.mode = .standalone ∧
    (orderState (supervisionOrder 30 0 2 0) base).field1 0x1800 0x0F = 0 ∧
    1 < ((orderState (supervisionOrder 30 0 2 2) base).field1 0x1800 0x0F).toNat := by
  refine ⟨memGood_order _ _, ?_⟩
  unfold State.reaches
  decide

/-- R147: with a maximum of 2 s the closed phase is at most 19. -/
theorem test_set_supervision :
    gives .setSupervision (orderState (supervisionOrder 30 0 2 1) base)
      (fun t => t.smon.closedPhase == 19 && t.smon.maximum == 2 && t.smon.phase == .opened &&
        t.fieldN 0x1800 4 2 == 2) = true := by decide
end Sys2Proof.Tests
end

section
/-! PROOF. BAY_CONFIG (R17): what its two fields decide, how the pool group shows in the bay mirror (Table 11-3), and
the one update of the mirror that a new group makes (R24). -/

namespace Sys2Proof.Machine

/-! ## The fields of the order -/

theorem bayOfNumber_eq_none {n : Nat} (h : n = 0 ∨ 36 < n) : bayOfNumber n = none :=
  dif_neg (by omega)

theorem bayOfNumber_val_add_one (b : Bay) : bayOfNumber (b.val + 1) = some b :=
  dif_pos ⟨by omega, by omega⟩

theorem poolOfField_eq_none {n : Nat} (hlo : 16 ≤ n) (hhi : n ≤ 254) : poolOfField n = none := by
  rw [poolOfField, if_neg (by omega), if_neg (by omega)]

theorem poolOfField_eq_some {n : Nat} {g : Option Nat} (h : n ≤ 15 ∧ g = some n ∨ n = 255 ∧ g = none) :
    poolOfField n = some g := by
  obtain ⟨hn, rfl⟩ | ⟨rfl, rfl⟩ := h
  · exact if_pos hn
  · rfl

/-! ## The bay mirror -/

/-- A byte of the bay mirror is the byte of its bay's record. -/
theorem byteAt_bayRecord (s : State) (b : Bay) {i : Nat} (hi : i < 0x40) :
    s.byteAt (0x0200 + i + 0x40 * b.val) = byteIn (s.bayRecord b) i := by
  have hb := b.isLt
  have hbay : min ((0x0200 + i + 0x40 * b.val - 0x0200) / 0x40) 35 = b.val := by omega
  have hpos : (0x0200 + i + 0x40 * b.val - 0x0200) % 0x40 = i := by omega
  rw [State.byteAt, if_neg (by omega), if_neg (by omega), if_neg (by omega), if_neg (by omega),
    dif_pos (by omega), hpos]
  simp only [hbay]

/-- The byte by which the mirror shows a pool group: the group, or 0xFF for UNPOOLED (R17). -/
def poolByte (g : Option Nat) : Byte := (g.map byteOf).getD 0xFF

theorem byteAt_pool (s : State) (b : Bay) : s.byteAt (0x020C + 0x40 * b.val) = poolByte s.bmon[b].pool := by
  rw [byteAt_bayRecord s b (i := 0x0C) (by decide)]
  unfold State.bayRecord BayEntry.fields
  cases s.bmon[b].tag <;> rfl

/-- The field of a good order is the byte that the mirror shows for its group. -/
theorem poolByte_of_field {x : Byte} {g : Option Nat}
    (h : x.toNat ≤ 15 ∧ g = some x.toNat ∨ x.toNat = 255 ∧ g = none) : poolByte g = x := by
  obtain ⟨-, rfl⟩ | ⟨hx, rfl⟩ := h
  · simp [poolByte, byteOf]
  · exact BitVec.eq_of_toNat_eq hx.symm

/-- A new pool group changes what the mirror shows of an entry exactly if it changes the group's byte. -/
theorem fields_withPool_iff (e : BayEntry) (g : Option Nat) :
    { e with pool := g }.fields = e.fields ↔ poolByte g = poolByte e.pool := by
  simp [BayEntry.fields, poolByte]

/-! ## The update of a bay entry -/

@[simp] theorem bumpBay_swm_bayCounts (s : State) (b : Bay) (p : Bool) :
    (s.bumpBay b p).swm.bayCounts =
      if p then s.swm.bayCounts.set b (s.swm.bayCounts[b] + 1) else s.swm.bayCounts := by
  cases p <;> rfl

@[simp] theorem bumpBay_swm_cartCount (s : State) (b : Bay) (p : Bool) :
    (s.bumpBay b p).swm.cartCount = s.swm.cartCount := by
  cases p <;> rfl

/-- An update of a bay entry counts once if the mirror shows it (R24). -/
theorem setEntry_swm_bayCounts (s : State) (b : Bay) (e : BayEntry) :
    (s.setEntry b e).swm.bayCounts =
      if e.fields = s.bmon[b].fields then s.swm.bayCounts
      else s.swm.bayCounts.set b (s.swm.bayCounts[b] + 1) := by
  rw [State.setEntry, bumpBay_swm_bayCounts, withBmon_swm]
  by_cases h : e.fields = s.bmon[b].fields
  · rw [if_pos h, if_neg (by simp [h])]
  · rw [if_neg h, if_pos (bne_iff_ne.2 h)]

theorem setEntry_swm_cartCount (s : State) (b : Bay) (e : BayEntry) :
    (s.setEntry b e).swm.cartCount = s.swm.cartCount := by
  rw [State.setEntry, bumpBay_swm_cartCount, withBmon_swm]

/-- An entry set to what it holds is no update. -/
theorem setEntry_self (s : State) (b : Bay) : s.setEntry b s.bmon[b] = s := by
  rw [setEntry_quiet rfl]
  simp [State.withBmon]

/-! ## The answer

The walker's answer writes the record and its list, and no count and no block's state. -/

section
variable (i : ListId) (off n : Nat) (l : Half) (a : Answer) (s : State)

@[simp] theorem answered_bmon : (answered i off n l a s).bmon = s.bmon := rfl
@[simp] theorem answered_psched : (answered i off n l a s).psched = s.psched := rfl
@[simp] theorem answered_swm_bayCounts : (answered i off n l a s).swm.bayCounts = s.swm.bayCounts := rfl
@[simp] theorem answered_swm_cartCount : (answered i off n l a s).swm.cartCount = s.swm.cartCount := rfl

end

/-! ## The order -/

theorem exec_bayConfig (s : State) : exec .bayConfig s = .next (dispatch .bayConfig orderBayConfig s) := rfl

/-- The state with a new pool group at a bay: what BAY_CONFIG comes to before its answer (`orderBayConfig_done`). -/
def State.withPool (s : State) (b : Bay) (g : Option Nat) : State := s.setEntry b { s.bmon[b] with pool := g }

theorem orderBayConfig_badBay {s : State} {off : Nat}
    (h : (s.field1 off 0x0C).toNat = 0 ∨ 36 < (s.field1 off 0x0C).toNat) :
    orderBayConfig off s = refuse (.badField 1) s := by
  simp only [orderBayConfig, bayOfNumber_eq_none h]

theorem orderBayConfig_badGroup {s : State} {off : Nat} {b : Bay} (hb : (s.field1 off 0x0C).toNat = b.val + 1)
    (hlo : 16 ≤ (s.field1 off 0x0D).toNat) (hhi : (s.field1 off 0x0D).toNat ≤ 254) :
    orderBayConfig off s = refuse (.badField 2) s := by
  simp only [orderBayConfig, hb, bayOfNumber_val_add_one, poolOfField_eq_none hlo hhi]

theorem orderBayConfig_done {s : State} {off : Nat} {b : Bay} {g : Option Nat}
    (hb : (s.field1 off 0x0C).toNat = b.val + 1)
    (hg : (s.field1 off 0x0D).toNat ≤ 15 ∧ g = some (s.field1 off 0x0D).toNat ∨
      (s.field1 off 0x0D).toNat = 255 ∧ g = none) :
    orderBayConfig off s = (s.withPool b g, .done) := by
  simp only [orderBayConfig, hb, bayOfNumber_val_add_one, poolOfField_eq_some hg, State.withPool]

theorem withPool_bmon (s : State) (b : Bay) (g : Option Nat) :
    (s.withPool b g).bmon = s.bmon.set b { s.bmon[b] with pool := g } := setEntry_bmon s b _

/-- BAY_CONFIG that changes no group changes nothing at the bay. -/
theorem withPool_self {s : State} {b : Bay} {g : Option Nat} (h : s.bmon[b].pool = g) : s.withPool b g = s := by
  subst h; exact setEntry_self s b

theorem withPool_frame (s : State) (b : Bay) (g : Option Nat) :
    s.changedOnly [.bays, .counts] (s.withPool b g) :=
  setEntry_body_frame b _ s ⟨rfl, rfl, rfl, rfl⟩

/-- The bay's change count rises by one exactly if the mirror's byte changes. -/
theorem withPool_swm_bayCounts (s : State) (b : Bay) (g : Option Nat) :
    (s.withPool b g).swm.bayCounts =
      if s.byteAt (0x020C + 0x40 * b.val) = poolByte g then s.swm.bayCounts
      else s.swm.bayCounts.set b (s.swm.bayCounts[b] + 1) := by
  rw [State.withPool, setEntry_swm_bayCounts, byteAt_pool]
  simp only [fields_withPool_iff, eq_comm (a := poolByte g)]

/-- Settles O49: a bad bay and a bad group are refused by the order's fields alone; a good order is the update of one
bay entry, whose mirror byte, count and frame are those of `withPool`, and the walker's answer touches none of them. -/
theorem bayConfigSetsThePoolGroup : Obligations.BayConfigSetsThePoolGroup := by
  intro s i off n hm hr
  refine ⟨fun hbay => ?_, fun b hb hlo hhi => ?_, fun b g hb hg => ?_⟩
  · exact ⟨_, exec_bayConfig s, refused_refuses hr hm _ _ (orderBayConfig_badBay hbay)⟩
  · exact ⟨_, exec_bayConfig s, refused_refuses hr hm _ _ (orderBayConfig_badGroup hb hlo hhi)⟩
  · have hbyte := poolByte_of_field hg
    have hexec : exec .bayConfig s = .next (answered i off n (s.linkOf off) .done (s.withPool b g)) := by
      rw [exec_bayConfig, dispatch_reaches hr, orderBayConfig_done hb hg]
    refine ⟨_, hexec, ?_, ?_, ?_, ?_, ?_, ?_, ?_, ?_⟩
    · exact answered_answers i off n .done s _ hm (setEntry_swm_mem s b _) (setEntry_owalk s b _)
    · rw [answered_bmon, withPool_bmon]
    · intro hsame
      rw [withPool_self hsame]
      exact answered_frame i off n _ _ s
    · rw [byteAt_pool, answered_bmon, withPool_bmon, getElem_set_fin, if_pos rfl, hbyte]
    · rw [answered_swm_bayCounts, withPool_swm_bayCounts, hbyte]
    · rw [answered_swm_cartCount, State.withPool, setEntry_swm_cartCount]
    · rw [answered_psched, State.withPool, setEntry_psched]
    · exact (answered_changes (withPool_frame s b g) i off n _ _).mono (by decide)

end Sys2Proof.Machine
end

section
/-! PROOF. RESERVE (R103): what its bay, deadline and token fields decide, and the change of one reservation, offered to
PALLOC (R45, R102), that a good order comes to. -/

namespace Sys2Proof.Machine

/-! ## The fields of the order -/

theorem fieldOpt_eq_none {s : State} {off pos n : Nat} (h : s.fieldN off pos n = 256 ^ n - 1) :
    s.fieldOpt off pos n = none := if_pos h

theorem fieldOpt_eq_some {s : State} {off pos n : Nat} (h : s.fieldN off pos n ≠ 256 ^ n - 1) :
    s.fieldOpt off pos n = some (s.fieldN off pos n) := if_neg h

/-- A token field holds a token unless each of its eight bytes is 0xFF (R179). -/
theorem fieldToken_eq (s : State) (off pos : Nat) :
    s.fieldToken off pos =
      if s.fieldN off pos 8 = 2 ^ 64 - 1 then none else some (BitVec.ofNat 64 (s.fieldN off pos 8)) := by
  by_cases h : s.fieldN off pos 8 = 2 ^ 64 - 1
  · rw [if_pos h, State.fieldToken, fieldOpt_eq_none h, Option.map_none]
  · rw [if_neg h, State.fieldToken, fieldOpt_eq_some h, Option.map_some]

/-! ## The change of a reservation -/

/-- A reservation set to what the bay holds is no change. -/
theorem changeReservation_self {s : State} {b : Bay} {r : Option Reservation} (h : s.acc.reservations[b] = r) :
    changeReservation b r s = s := if_pos h.symm

/-- A change is the update of the bay's reservation, offered to PALLOC (R102). -/
theorem changeReservation_of_ne {s : State} {b : Bay} {r : Option Reservation} (h : s.acc.reservations[b] ≠ r) :
    changeReservation b r s = passIfChanged (s.setReservation b r) := if_neg h.symm

theorem changeReservation_frame (b : Bay) (r : Option Reservation) (s : State) :
    s.changedOnly (.reservations :: passParts) (changeReservation b r s) := by
  by_cases h : s.acc.reservations[b] = r
  · rw [changeReservation_self h]
    exact .refl s _
  · rw [changeReservation_of_ne h]
    exact ((setReservation_frame b r s).mono (by decide)).then (passIfChanged_frame _)

theorem changeReservation_reservations (b : Bay) (r : Option Reservation) (s : State) :
    (changeReservation b r s).acc.reservations = s.acc.reservations.set b r := by
  by_cases h : s.acc.reservations[b] = r
  · rw [changeReservation_self h, ← h]
    simp
  · have hpass : (passIfChanged (s.setReservation b r)).acc.reservations =
        (s.setReservation b r).acc.reservations := passIfChanged_frame _ .reservations (by decide)
    rw [changeReservation_of_ne h, hpass, setReservation_acc]

theorem changeReservation_settled {s : State} (h : s.settled) (b : Bay) (r : Option Reservation) :
    (changeReservation b r s).settled := by
  by_cases hr : s.acc.reservations[b] = r
  · rwa [changeReservation_self hr]
  · rw [changeReservation_of_ne hr]
    exact passIfChanged_settled' h (setReservation_palloc s b r)

/-! ## The answer -/

/-- The walker's answer writes nothing that a pass reads. -/
theorem answered_settled {s : State} (h : s.settled) (i : ListId) (off n : Nat) (l : Half) (a : Answer) :
    (answered i off n l a s).settled :=
  settled_of_same h rfl rfl rfl (fun _ => ⟨rfl, rfl, rfl⟩) (fun _ => ⟨rfl, rfl⟩)

@[simp] theorem answered_acc (i : ListId) (off n : Nat) (l : Half) (a : Answer) (s : State) :
    (answered i off n l a s).acc = s.acc := rfl

/-! ## The order -/

theorem exec_reserve (s : State) : exec .reserve s = .next (dispatch .reserve orderReserve s) := rfl

theorem orderReserve_badBay {s : State} {off : Nat}
    (h : (s.field1 off 0x0C).toNat = 0 ∨ 36 < (s.field1 off 0x0C).toNat) :
    orderReserve off s = refuse (.badField 1) s := by
  simp only [orderReserve, bayOfNumber_eq_none h]

section
variable {s : State} {off : Nat} {b : Bay} (hb : (s.field1 off 0x0C).toNat = b.val + 1)
include hb

theorem orderReserve_badDeadline (hpresent : s.fieldN off 0x0E 2 ≠ 65535) (hd : 10080 ≤ s.fieldN off 0x0E 2) :
    orderReserve off s = refuse (.badField 2) s := by
  simp only [orderReserve, hb, bayOfNumber_val_add_one, fieldOpt_eq_some (n := 2) hpresent]
  exact if_pos hd

theorem orderReserve_clears (hd : s.fieldN off 0x0E 2 = 65535) :
    orderReserve off s = (changeReservation b none s, .done) := by
  simp only [orderReserve, hb, bayOfNumber_val_add_one, fieldOpt_eq_none (n := 2) hd]

theorem orderReserve_sets (hd : s.fieldN off 0x0E 2 < 10080) :
    orderReserve off s =
      (changeReservation b (some { deadline := s.fieldN off 0x0E 2, token := s.fieldToken off 0x10 }) s, .done) := by
  have hpresent : s.fieldN off 0x0E 2 ≠ 65535 := by omega
  simp only [orderReserve, hb, bayOfNumber_val_add_one, fieldOpt_eq_some (n := 2) hpresent]
  exact if_neg (Nat.not_le.2 hd)

end

/-- Settles O50: a bad bay and a bad deadline are refused by the order's fields alone; a good order, which clears or
sets, is one `changeReservation`, whose reservations, grants and frame the walker's answer leaves as they are. -/
theorem reserveSetsOrClears : Obligations.ReserveSetsOrClears := by
  intro s i off n hm hr
  refine ⟨fun hbay => ?_, fun b hb hpresent hd => ?_, fun b r hb hgood => ?_⟩
  · exact ⟨_, exec_reserve s, refused_refuses hr hm _ _ (orderReserve_badBay hbay)⟩
  · exact ⟨_, exec_reserve s, refused_refuses hr hm _ _ (orderReserve_badDeadline hb hpresent hd)⟩
  · have horder : orderReserve off s = (changeReservation b r s, .done) := by
      obtain ⟨hd, rfl⟩ | ⟨hd, rfl⟩ := hgood
      · exact orderReserve_clears hb hd
      · rw [← fieldToken_eq]
        exact orderReserve_sets hb hd
    have hexec : exec .reserve s = .next (answered i off n (s.linkOf off) .done (changeReservation b r s)) := by
      rw [exec_reserve, dispatch_reaches hr, horder]
    have hframe := changeReservation_frame b r s
    have hstored : Part.stored.same s (changeReservation b r s) := hframe .stored (by decide)
    have hlists : Part.lists.same s (changeReservation b r s) := hframe .lists (by decide)
    refine ⟨_, hexec, ?_, ?_, ?_, ?_, ?_⟩
    · exact answered_answers i off n .done s _ hm hstored.1 hlists
    · rw [answered_acc, changeReservation_reservations]
    · exact fun hs => answered_settled (changeReservation_settled hs b r) i off n _ _
    · intro hsame
      rw [changeReservation_self hsame]
      exact answered_frame i off n _ _ s
    · exact (answered_changes hframe i off n _ _).mono (by decide)

end Sys2Proof.Machine
end

section
/-! PROOF. SET_NOTICE (R177): what its source and capture fields decide, which bad field a refusal names, and the one
update of NCTL that a good order comes to. -/

namespace Sys2Proof.Machine

/-! ## The fields of the order -/

theorem sourceOfNumber_eq_none {n : Nat} (h : n = 0 ∨ 16 < n) : sourceOfNumber n = none :=
  dif_neg (by omega)

theorem sourceOfNumber_val_add_one (k : Fin 16) : sourceOfNumber (k.val + 1) = some k :=
  dif_pos ⟨by omega, by omega⟩

/-- A code of two or more is neither off nor on. -/
theorem onOff_eq_none {x : Byte} (h : 1 < x.toNat) : onOff x = none := by
  rw [onOff]
  split
  · omega
  · omega
  · rfl

theorem onOff_zero : onOff 0 = some false := rfl

theorem onOff_one : onOff 1 = some true := rfl

/-- R177: capture on is allowed for every source. -/
theorem captureAllowed_on (k : Fin 16) : captureAllowed k true = true := rfl

/-- R177: capture off is allowed for all sources but the first two. -/
theorem captureAllowed_off (k : Fin 16) : captureAllowed k false = decide (2 ≤ k.val) := rfl

/-- A good capture field (R177): it codes the capture that the byte shows, and the source may have that capture. -/
theorem onOff_allowed {x : Byte} {k : Fin 16} (h : x = 1 ∨ (x = 0 ∧ 2 ≤ k.val)) :
    onOff x = some (decide (x = 1)) ∧ captureAllowed k (decide (x = 1)) = true := by
  obtain rfl | ⟨rfl, hk⟩ := h
  · exact ⟨onOff_one, captureAllowed_on k⟩
  · exact ⟨onOff_zero, (captureAllowed_off k).trans (decide_eq_true hk)⟩

/-! ## The update of NCTL -/

/-- R177: the pending causes are cleared only by capture off at source 16. -/
theorem configured_pendingCauses (c : Nctl) (k : Fin 16) (level threshold : Nat) {x : Byte} (hx : x = 1 ∨ x = 0) :
    (c.configured k level (decide (x = 1)) threshold).pendingCauses =
      if k = 15 ∧ x = 0 then { order := false, guard := false } else c.pendingCauses := by
  obtain rfl | rfl := hx <;> simp [Nctl.configured]

/-! ## The order -/

theorem exec_setNotice (s : State) : exec .setNotice s = .next (dispatch .setNotice orderSetNotice s) := rfl

theorem orderSetNotice_badSource {s : State} {off : Nat}
    (h : (s.field1 off 0x0C).toNat = 0 ∨ 16 < (s.field1 off 0x0C).toNat) :
    orderSetNotice off s = refuse (.badField 1) s := by
  simp only [orderSetNotice, sourceOfNumber_eq_none h]

section
variable {s : State} {off : Nat} {k : Fin 16} (hk : (s.field1 off 0x0C).toNat = k.val + 1)
include hk

theorem orderSetNotice_badLevel (hl : 7 < (s.field1 off 0x0D).toNat) :
    orderSetNotice off s = refuse (.badField 2) s := by
  simp only [orderSetNotice, hk, sourceOfNumber_val_add_one, if_pos hl]

variable (hl : (s.field1 off 0x0D).toNat ≤ 7)
include hl

/-- A capture field that codes nothing, and capture off for source 1 or 2, are one refusal. -/
theorem orderSetNotice_badCapture
    (hc : 1 < (s.field1 off 0x0E).toNat ∨ (s.field1 off 0x0E = 0 ∧ k.val ≤ 1)) :
    orderSetNotice off s = refuse (.badField 3) s := by
  simp only [orderSetNotice, hk, sourceOfNumber_val_add_one, if_neg (Nat.not_lt.2 hl)]
  obtain hcode | ⟨hoff, hfirst⟩ := hc
  · simp only [onOff_eq_none hcode]
  · have hnot : captureAllowed k false = false :=
      (captureAllowed_off k).trans (decide_eq_false (by omega))
    simp only [hoff, onOff_zero, if_pos hnot]

variable (hc : s.field1 off 0x0E = 1 ∨ (s.field1 off 0x0E = 0 ∧ 2 ≤ k.val))
include hc

theorem orderSetNotice_badThreshold (ht : 7 < (s.field1 off 0x0F).toNat) :
    orderSetNotice off s = refuse (.badField 4) s := by
  obtain ⟨hcode, hallowed⟩ := onOff_allowed hc
  simp only [orderSetNotice, hk, sourceOfNumber_val_add_one, if_neg (Nat.not_lt.2 hl), hcode, hallowed,
    Bool.true_eq_false, if_false, if_pos ht]

theorem orderSetNotice_done (ht : (s.field1 off 0x0F).toNat ≤ 7) :
    orderSetNotice off s =
      (s.withNctl (s.nctl.configured k (s.field1 off 0x0D).toNat (decide (s.field1 off 0x0E = 1))
        (s.field1 off 0x0F).toNat), .done) := by
  obtain ⟨hcode, hallowed⟩ := onOff_allowed hc
  simp only [orderSetNotice, hk, sourceOfNumber_val_add_one, if_neg (Nat.not_lt.2 hl), hcode, hallowed,
    Bool.true_eq_false, if_false, if_neg (Nat.not_lt.2 ht)]

end

/-! ## The answer -/

/-- A dispatch is the answer `a` on the state `u` that the owner's decision comes to (R166, R168). -/
theorem dispatch_eq_answered {s u : State} {i : ListId} {kind : OrderKind} {off n : Nat} {a : Answer}
    {f : Nat → State → State × Answer} (h : s.reaches i kind off n) (hf : f off s = (u, a)) :
    dispatch kind f s = answered i off n (s.linkOf off) a u := by
  rw [dispatch_reaches h, hf]

@[simp] theorem answered_nctl (i : ListId) (off n : Nat) (l : Half) (a : Answer) (s : State) :
    (answered i off n l a s).nctl = s.nctl := rfl

/-- Settles O59: each refusal is decided by the fields up to the first bad one; a good order is one update of NCTL
(`Nctl.configured`), which the walker's answer leaves as it is. -/
theorem setNoticeConfiguresASource : Obligations.SetNoticeConfiguresASource := by
  intro s i off n hm hr
  have hrefuse : ∀ a : Answer, orderSetNotice off s = refuse a s →
      ∃ t, exec .setNotice s = .next t ∧ s.refuses i off n a.outcome a.detail t :=
    fun a horder => ⟨_, exec_setNotice s, refused_refuses hr hm _ a horder⟩
  refine ⟨fun hsource => ?_, fun k hk => ⟨fun hlevel => ?_, fun hlevel => ⟨fun hcapture => ?_, fun hcapture =>
    ⟨fun hthreshold => ?_, fun hthreshold => ?_⟩⟩⟩⟩
  · exact hrefuse _ (orderSetNotice_badSource hsource)
  · exact hrefuse _ (orderSetNotice_badLevel hk hlevel)
  · exact hrefuse _ (orderSetNotice_badCapture hk hlevel hcapture)
  · exact hrefuse _ (orderSetNotice_badThreshold hk hlevel hcapture hthreshold)
  · have hdone := dispatch_eq_answered hr (orderSetNotice_done hk hlevel hcapture hthreshold)
    refine ⟨_, (exec_setNotice s).trans (congrArg Host.Outcome.next hdone), ?_, ?_, ?_, ?_, ?_, ?_⟩
    · exact answered_answers i off n .done s _ hm rfl rfl
    · rw [answered_nctl, withNctl_nctl, Nctl.configured]
    · rw [answered_nctl, withNctl_nctl, Nctl.configured]
    · rw [answered_nctl, withNctl_nctl, configured_pendingCauses _ _ _ _ (hcapture.imp_right And.left)]
    · rw [answered_nctl, withNctl_nctl, Nctl.configured]
    · exact (answered_changes (withNctl_frame _ s) i off n _ _).mono (by decide)

end Sys2Proof.Machine
end

section
/-! PROOF. What each command may change: one frame for each row of the opcode table, put together from the frames of the
operations (Laws/Frames.lean, Laws/Blocks.lean). -/

namespace Sys2Proof.Machine

-- One declaration after the other: the check compiles the whole text within a memory bound.
set_option Elab.async false

/-! ## Bays -/

theorem cctlChange_frame (b : Bay) (ch : ChargeBay) (s : State) :
    s.changedOnly (.charge :: considerParts) (cctlChange b ch s) := by
  have h : s.changedOnly (.charge :: considerParts) (passIfChanged (s.setCharge b ch)) :=
    ((setCharge_frame b ch s).mono (by decide)).then (passIfChanged_frame _)
  unfold cctlChange
  dsimp only
  split
  · exact h.then (consider_frame _)
  · exact h

theorem presenceChange_frame (b : Bay) (v : Bool) (s : State) :
    s.changedOnly (.pins :: .bays :: releaseParts) (presenceChange b v s) := by
  have hp : ∀ (p : BayPins) (e : BayEntry),
      s.changedOnly (.pins :: .bays :: releaseParts) ((s.setPins b p).setEntry b e) := fun p e =>
    ((setPins_frame b p s).mono (by decide)).then (setEntry_frame b e _)
  unfold presenceChange
  dsimp only
  split
  · exact .refl s _
  · split
    · exact hp _ _
    · split
      · split
        · exact (hp _ _).then (custLossAbandoned_frame b _)
        · exact hp _ _
      · exact hp _ _

theorem attachBay_frame (b : Bay) (s : State) :
    s.changedOnly (.bays :: .paths :: .charge :: passParts) (attachBay b s) := by
  unfold attachBay
  split
  · dsimp only
    exact (((setEntry_frame b _ s).mono (by decide)).then (setCharge_frame b _ _)).then (pass_frame _)
  · exact .refl s _

/-- What a detach may change. -/
abbrev detachParts : List Part := .choices :: .limits :: .charge :: .bays :: deskParts

theorem detachBay_frame (b : Bay) (s : State) : s.changedOnly detachParts (detachBay b s) := by
  have h : s.changedOnly detachParts
      (custDetach b s.bmon[b].tag (pschedDetach b (s.setEntry b s.bmon[b].detached))) :=
    (((setEntry_frame b _ s).mono (by decide)).then (pschedDetach_frame b _)).then (custDetach_frame b _ _)
  unfold detachBay
  split
  · dsimp only
    exact h.trans (eitherOrder_frame (fun t => (cctlChange_frame b _ t).mono (by decide))
      (fun t => (pallocDetach_frame b t).mono (by decide)) _)
  · exact .refl s _

/-- What a tag read may change. -/
abbrev tagParts : List Part := .bays :: releaseParts

theorem enterAnon_frame (b : Bay) (s : State) : s.changedOnly tagParts (enterAnon b s) := by
  unfold enterAnon
  exact (((setEntry_frame b _ s).mono (by decide)).then (pass_frame _)).then (custOtherEntry_frame b _ _)

theorem failAttempt_frame (b : Bay) (r : TagRead) (s : State) : s.changedOnly tagParts (failAttempt b r s) := by
  unfold failAttempt
  split
  · exact (setEntry_frame b _ s).mono (by decide)
  · exact enterAnon_frame b s

theorem readTag_frame (b : Bay) (tag : Tag) (s : State) : s.changedOnly tagParts (readTag b tag s) := by
  unfold readTag
  split
  · exact ((((setEntry_frame b _ s).mono (by decide)).then (raise_frame _ _)).then (pass_frame _)).then
      (custOtherEntry_frame b _ _)
  · exact ((((setEntry_frame b _ s).mono (by decide)).then (pass_frame _)).then (pschedPresent_frame b _)).then
      (custTagRead_frame b _ _)

theorem tagFrameArrives_frame (b : Bay) (tag : Tag) (ok : Bool) (s : State) :
    s.changedOnly tagParts (tagFrameArrives b tag ok s) := by
  unfold tagFrameArrives
  split
  · split
    · split
      · exact readTag_frame b tag s
      · exact failAttempt_frame b _ s
    · exact .refl s _
  · exact .refl s _

theorem tagReadExpires_frame (b : Bay) (s : State) : s.changedOnly tagParts (tagReadExpires b s) := by
  unfold tagReadExpires
  split
  · split
    · exact failAttempt_frame b _ s
    · exact .refl s _
  · exact .refl s _

theorem doorInput_frame (b : Bay) (v : Door) (s : State) : s.changedOnly [.pins, .bays] (doorInput b v s) := by
  unfold doorInput
  split
  · exact .refl s _
  · refine State.changedOnly.then ?_ (setEntry_quiet_frame ?_ ?_)
    · exact (setPins_frame b _ s).mono (by decide)
    · rfl
    · exact ⟨rfl, rfl, rfl, rfl⟩

theorem latchInput_frame (b : Bay) (v : LatchSense) (s : State) :
    s.changedOnly [.pins, .bays] (latchInput b v s) := by
  unfold latchInput
  split
  · exact .refl s _
  · refine State.changedOnly.then ?_ (setEntry_quiet_frame ?_ ?_)
    · exact (setPins_frame b _ s).mono (by decide)
    · rfl
    · exact ⟨rfl, rfl, rfl, rfl⟩

/-- What a door event may change. -/
abbrev doorParts : List Part := .choices :: .bays :: ldrvParts

/-- BMON's and CCTL's part of a door OPEN (R12, R46). -/
theorem doorOpened_frame (b : Bay) (e : BayEntry) (s : State)
    (h : e.path = s.bmon[b].path ∧ e.joined = s.bmon[b].joined ∧ e.silence = s.bmon[b].silence ∧
      e.faultTimer = s.bmon[b].faultTimer) :
    s.changedOnly [.bays, .delivery, .counts] (cctlDoorOpen b (s.setEntry b e)) := by
  refine State.changedOnly.then (l := [.bays, .delivery, .counts]) ?_ (cctlDoorOpen_frame b _)
  exact (setEntry_body_frame b e s h).mono (by decide)

theorem doorOpens_frame (b : Bay) (s : State) : s.changedOnly doorParts (doorOpens b s) := by
  have h : ∀ k : OpenClass, s.changedOnly doorParts (cctlDoorOpen b
      (s.setEntry b { s.bmon[b] with door := .opened, doorDebounce := none, lastOpen := some k })) := by
    intro k
    refine State.changedOnly.mono (doorOpened_frame b _ s ?_) (m := doorParts) (by decide)
    exact ⟨rfl, rfl, rfl, rfl⟩
  unfold doorOpens
  dsimp only
  split
  · exact (((((h _).then (raise_frame _ _)).then (pschedForced_frame b _)).then (pass_frame _)).then
      (custForced_frame b _))
  · exact ((h _).then (custDoorReleased_frame b _)).trans (eitherOrder_frame
      (fun t => (pass_frame t).mono (by decide)) (fun t => (ldrvDoorOpen_frame b t).mono (by decide)) _)

theorem doorCloses_frame (b : Bay) (s : State) : s.changedOnly doorParts (doorCloses b s) := by
  unfold doorCloses
  refine State.changedOnly.trans ((setEntry_frame b _ s).mono (by decide)) (eitherOrder_frame
    (fun t => (pass_frame t).mono (by decide)) (fun t => ?_) _)
  exact ((consider_frame t).mono (by decide)).then (custDoorClosed_frame b _)

theorem doorHeld_frame (b : Bay) (s : State) : s.changedOnly doorParts (doorHeld b s) := by
  unfold doorHeld
  split
  · split
    · exact doorOpens_frame b s
    · exact doorCloses_frame b s
  · exact .refl s _

theorem latchHeld_frame (b : Bay) (s : State) :
    s.changedOnly (.bays :: .latches :: considerParts) (latchHeld b s) := by
  unfold latchHeld
  split
  · exact (((setEntry_frame b _ s).mono (by decide)).then (ldrvLatchSense_frame b _)).then (consider_frame _)
  · exact .refl s _

/-- What a level event may change (R16). -/
abbrev levelParts : List Part := .choices :: .bays :: .limits :: considerParts

theorem levelEvent_frame (b : Bay) (s : State) : s.changedOnly levelParts (levelEvent b s) := by
  unfold levelEvent
  exact eitherOrder_frame (fun t => (pallocLevel_frame b t).mono (by decide))
    (fun t => (consider_frame t).mono (by decide)) s

theorem pollBay_frame (b : Bay) (s : State) : s.changedOnly [.bays] (pollBay b s) := by
  unfold pollBay
  repeat' split
  · exact setEntry_quiet_frame rfl ⟨rfl, rfl, rfl, rfl⟩
  all_goals exact .refl s _

theorem levelReported_frame (b : Bay) (n : Nat) (ok : Bool) (s : State) :
    s.changedOnly levelParts (levelReported b n ok s) := by
  unfold levelReported
  split
  · dsimp only
    split
    · exact (setEntry_frame b _ s).mono (by decide)
    · exact ((setEntry_frame b _ s).mono (by decide)).trans (levelEvent_frame b _)
  · exact .refl s _

theorem reportWaitEnds_frame (b : Bay) (s : State) : s.changedOnly [.bays] (reportWaitEnds b s) := by
  unfold reportWaitEnds
  split
  · exact setEntry_quiet_frame rfl ⟨rfl, rfl, rfl, rfl⟩
  · exact .refl s _

theorem levelStales_frame (b : Bay) (s : State) : s.changedOnly levelParts (levelStales b s) := by
  unfold levelStales
  split
  · dsimp only
    split
    · exact (setEntry_frame b _ s).mono (by decide)
    · exact ((setEntry_frame b _ s).mono (by decide)).trans (levelEvent_frame b _)
  · exact .refl s _

theorem lineActive_frame (b : Bay) (s : State) : s.changedOnly [.paths] (lineActive b s) := by
  unfold lineActive
  split
  · apply setEntry_quiet_path_frame
    · rfl
    · rfl
  · exact .refl s _

theorem silenceReached_frame (b : Bay) (s : State) : s.changedOnly endParts (silenceReached b s) := by
  unfold silenceReached
  repeat' split
  · refine State.changedOnly.then ?_ (pschedLineEvent_frame b _ _ _)
    refine State.changedOnly.mono (setEntry_path_frame b _ s ?_) (m := endParts) (by decide)
    rfl
  all_goals exact .refl s _

theorem faultLevel_frame (b : Bay) (v : Bool) (s : State) : s.changedOnly [.pins, .paths] (faultLevel b v s) := by
  unfold faultLevel
  split
  · exact .refl s _
  · dsimp only
    split
    · refine State.changedOnly.then ?_ (setEntry_quiet_path_frame ?_ ?_)
      · exact (setPins_frame b _ s).mono (by decide)
      · rfl
      · rfl
    · exact (setPins_frame b _ s).mono (by decide)

theorem faultReached_frame (b : Bay) (s : State) : s.changedOnly endParts (faultReached b s) := by
  have h : s.changedOnly endParts
      (raise .bayFault (s.setEntry b { s.bmon[b] with path := .cut, faultTimer := none })) := by
    refine State.changedOnly.then ?_ (raise_frame _ _)
    refine State.changedOnly.mono (setEntry_path_frame b _ s ?_) (m := endParts) (by decide)
    rfl
  unfold faultReached
  split
  · dsimp only
    split
    · exact (h.then (pschedLineEvent_frame b _ _ _)).then (consider_frame _)
    · exact h.then (consider_frame _)
  · exact .refl s _

/-! ## Power -/

theorem supplyInput_frame (n : Nat) (s : State) : s.changedOnly [.pins, .limits] (supplyInput n s) := by
  unfold supplyInput
  refine State.changedOnly.trans ((withVsense_frame n s).mono (by decide)) ?_
  refine State.changedOnly.mono (withPalloc_limits_frame _ _ ?_ ?_) (m := [.pins, .limits]) (by decide)
  · rfl
  · exact fun _ => ⟨rfl, rfl, rfl⟩

/-- What a supply event or a thermal sample may change. -/
abbrev supplyParts : List Part := .limits :: .notices :: passParts

theorem supplyEvent_frame (p : PAlloc) (s : State) (hn : p.net = s.palloc.net) (hb : p.bays = s.palloc.bays) :
    s.changedOnly supplyParts (supplyEvent p s) := by
  unfold supplyEvent
  refine State.changedOnly.then ?_ (pass_frame _)
  refine State.changedOnly.then ?_ (raise_frame _ _)
  exact State.changedOnly.mono (setPalloc_limits_frame p s hn fun b => by rw [hb]; exact ⟨rfl, rfl, rfl⟩)
    (by decide)

theorem supplyFalls_frame (s : State) : s.changedOnly supplyParts (supplyFalls s) := by
  unfold supplyFalls
  split
  · exact supplyEvent_frame _ s rfl rfl
  · exact .refl s _

theorem supplyRises_frame (s : State) : s.changedOnly supplyParts (supplyRises s) := by
  unfold supplyRises
  repeat' split
  all_goals first | exact supplyEvent_frame _ s rfl rfl | exact .refl s _

/-- A sample changes nothing of what the last pass decided. -/
theorem sampled_decisions (p : PAlloc) (r : ThermalReading) :
    (p.sampled r).net = p.net ∧ (p.sampled r).bays = p.bays := by
  unfold PAlloc.sampled
  repeat' split
  all_goals exact ⟨rfl, rfl⟩

theorem thermalSampled_frame (r : ThermalReading) (s : State) : s.changedOnly supplyParts (thermalSampled r s) := by
  have h : s.changedOnly supplyParts (s.setPalloc
      { s.palloc.sampled r with sampleSince := s.palloc.sampleSince + Config.thermalPeriod }) := by
    obtain ⟨hn, hb⟩ := sampled_decisions s.palloc r
    refine State.changedOnly.mono (setPalloc_limits_frame _ s hn fun b => ?_) (by decide)
    dsimp only
    rw [hb]
    exact ⟨rfl, rfl, rfl⟩
  have hn : ∀ (p : Prop) [Decidable p] (t : State), s.changedOnly supplyParts t →
      s.changedOnly supplyParts (if p then t else raise .thermal t) := fun p _ t ht => by
    split
    · exact ht
    · exact ht.then (raise_frame _ _)
  have hp : ∀ (p : Prop) [Decidable p] (t : State), s.changedOnly supplyParts t →
      s.changedOnly supplyParts (if p then t else pass t) := fun p _ t ht => by
    split
    · exact ht
    · exact ht.then (pass_frame _)
  unfold thermalSampled
  split
  · exact hp _ _ (hn _ _ h)
  · exact .refl s _

/-! ## Charge control -/

/-- What a change at CCTL may change, with the notice of a trip. -/
abbrev chargeParts : List Part := .charge :: .notices :: considerParts

theorem newDemand_frame (b : Bay) (n : Nat) (s : State) :
    s.changedOnly (.charge :: considerParts) (newDemand b n s) := by
  unfold newDemand
  split
  · exact .refl s _
  · exact cctlChange_frame b _ s

theorem agreed_frame (b : Bay) (n : Nat) (s : State) :
    s.changedOnly (.charge :: considerParts) (agreed b n s) := by
  unfold agreed
  split
  · exact cctlChange_frame b _ s
  · exact newDemand_frame b n s
  all_goals exact .refl s _

theorem negotiationExpires_frame (b : Bay) (s : State) :
    s.changedOnly (.charge :: considerParts) (negotiationExpires b s) := by
  unfold negotiationExpires
  split
  · exact cctlChange_frame b _ s
  · exact .refl s _

theorem announced_frame (b : Bay) (n : Nat) (s : State) :
    s.changedOnly (.charge :: considerParts) (announced b n s) := by
  unfold announced
  split
  · exact newDemand_frame b n s
  · exact .refl s _

theorem rampUp_body (c : ChargeBay) (t : Nat) : (c.rampUp t).body = c.body := by
  simp only [ChargeBay.rampUp, ChargeBay.setApplied, ChargeBay.body]
  split <;> rfl

theorem rampExpires_frame (b : Bay) (s : State) : s.changedOnly [.delivery, .counts] (rampExpires b s) := by
  unfold rampExpires
  repeat' split
  · exact setCharge_body_frame (rampUp_body _ _)
  all_goals exact .refl s _

theorem tripBay_frame (b : Bay) (s : State) : s.changedOnly chargeParts (tripBay b s) := by
  unfold tripBay
  exact ((cctlChange_frame b _ s).mono (by decide)).then (raise_frame _ _)

theorem comparatorSampled_frame (b : Bay) (high : Bool) (s : State) :
    s.changedOnly chargeParts (comparatorSampled b high s) := by
  rcases comparatorSampled_cases b high s with h | ⟨-, h⟩ | ⟨n, -, h⟩ | ⟨-, h⟩ <;> rw [h]
  · exact .refl s _
  · exact tripBay_frame b s
  · exact (setCharge_frame b _ s).mono (by decide)
  · exact (setCharge_frame b _ s).mono (by decide)

theorem cooldownExpires_frame (b : Bay) (s : State) :
    s.changedOnly (.charge :: considerParts) (cooldownExpires b s) := by
  unfold cooldownExpires
  split
  · exact cctlChange_frame b _ s
  · exact .refl s _

theorem sessionTimeExpires_frame (c : Chan) (s : State) : s.changedOnly endParts (sessionTimeExpires c s) := by
  unfold sessionTimeExpires
  split
  · split
    · exact pschedEvent_frame (endSessionCore_frame c _ _ s) (by decide)
    · exact .refl s _
  · exact .refl s _

/-! ## The reader and the clock -/

theorem startByte_frame (s : State) : s.changedOnly [.collecting] (startByte s) := by
  unfold startByte
  split
  · exact withCollecting_frame s _
  · exact .refl s _

theorem byteGap_frame (s : State) : s.changedOnly [.collecting] (byteGap s) := by
  rcases byteGap_cases s with h | ⟨w, -, -, h⟩ <;> rw [h]
  · exact .refl s _
  · exact withCollecting_frame s _

theorem frameComplete_frame (f : List Byte) (s : State) :
    s.changedOnly (.collecting :: arrivalParts) (frameComplete f s) := by
  have h : s.changedOnly (.collecting :: arrivalParts) (discardFrame s) :=
    (withCollecting_frame s none).mono (by decide)
  rcases frameComplete_cases f s with ⟨-, hf⟩ | hf | ⟨w, token, -, -, -, hf⟩ <;> rw [hf]
  · exact .refl s _
  · exact h
  · exact h.then (tokenArrives_frame token _)

theorem clockAdvances_frame (s : State) : s.changedOnly minuteParts (clockAdvances s) := by
  unfold clockAdvances
  repeat' split
  · exact (advanceSecond_frame _ s).mono (by decide)
  · exact changeMinute_frame _ s
  all_goals exact .refl s _

theorem minuteChanges_frame (s : State) : s.changedOnly minuteParts (minuteChanges s) := by
  unfold minuteChanges
  repeat' split
  · exact changeMinute_frame _ s
  all_goals exact .refl s _

/-! ## Latches and supervision -/

theorem windowExpires_frame (b : Bay) (s : State) : s.changedOnly releaseParts (windowExpires b s) := by
  unfold windowExpires
  repeat' split
  · exact endUnopened_frame b s
  all_goals exact .refl s _

theorem latchWaitExpires_frame (b : Bay) (s : State) : s.changedOnly ldrvParts (latchWaitExpires b s) := by
  unfold latchWaitExpires
  split
  · exact waitExpired_frame b s
  · exact .refl s _

theorem driveTimeEnds_frame (k : Slot) (s : State) :
    s.changedOnly (.stuck :: .notices :: driveParts) (driveTimeEnds k s) := by
  unfold driveTimeEnds
  repeat' split
  · exact timeEnd_frame k _ s
  all_goals exact .refl s _

theorem closedPhaseEnds_frame (s : State) : s.changedOnly [.smon, .counts] (closedPhaseEnds s) := by
  unfold closedPhaseEnds
  split
  · exact setSmon_frame _ s
  · exact .refl s _

theorem windowTimeExpires_frame (s : State) : s.changedOnly heartbeatParts (windowTimeExpires s) := by
  unfold windowTimeExpires
  split
  · exact failure_frame _ s
  · exact .refl s _

/-! ## The port -/

theorem withOut_portData_frame (bs : List Byte) (s : State) : s.changedOnly [.portData] (s.drive bs) := by
  intro x hx; cases x <;> first | exact absurd (by decide) hx | simp [Part.same, State.drive]

theorem readBurst_frame (o : BitVec 24) (n : Nat) (s : State) :
    s.changedOnly [.portData, .notices, .guard] (readBurst o n s) := by
  unfold readBurst
  dsimp only
  refine State.changedOnly.then ?_ (withOut_portData_frame _ _)
  split
  · exact (take_frame s).mono (by decide)
  · exact .refl s _

theorem withSwm_words_frame (w : Swm) (s : State)
    (h : w.mem = s.swm.mem ∧ w.ready = s.swm.ready ∧ w.resetCause = s.swm.resetCause ∧
      w.guardArmed = s.swm.guardArmed ∧ w.guardOffset = s.swm.guardOffset ∧ w.bayCounts = s.swm.bayCounts ∧
      w.cartCount = s.swm.cartCount) : s.changedOnly [.words] (s.withSwm w) := by
  intro x hx; cases x <;> first | exact absurd (by decide) hx | simp [Part.same, h]

/-- What the bytes of a write burst may change. -/
abbrev landParts : List Part := [.stored, .lists, .journal, .words]

theorem land_frame (a : Nat) (v : Byte) (s : State) : s.changedOnly landParts (land a v s) := by
  unfold land
  repeat' split
  · exact (setList_frame _ _ s).mono (by decide)
  · exact (setList_frame _ _ s).mono (by decide)
  · exact State.changedOnly.mono (withSwm_words_frame _ s ⟨rfl, rfl, rfl, rfl, rfl, rfl, rfl⟩) (by decide)
  · exact State.changedOnly.mono (withSwm_words_frame _ s ⟨rfl, rfl, rfl, rfl, rfl, rfl, rfl⟩) (by decide)
  · exact (freeJournal_frame _ s).mono (by decide)
  · exact (withMem_frame _ s).mono (by decide)

theorem landBytes_frame (bs : List (Nat × Byte)) (s : State) : s.changedOnly landParts (landBytes bs s) := by
  unfold landBytes
  exact foldl_frame (fun t (x : Nat × Byte) => land_frame x.1 x.2 t) _ s

theorem recordHit_frame (hit : Option Nat) (s : State) :
    s.changedOnly [.guard, .counts, .notices] (recordHit hit s) := by
  unfold recordHit
  split
  · exact .refl s _
  · split
    · dsimp only
      refine State.changedOnly.then ?_ (raiseGuardHit_frame _)
      refine State.changedOnly.then ?_ (bumpCart_frame _ _)
      intro x hx; cases x <;> first | exact absurd (by decide) hx | simp [Part.same]
    · exact .refl s _

theorem watch_frame {l : List Part} {f : Byte → State → State} (bs : List (Nat × Byte)) (a : Nat)
    (hf : ∀ (v : Byte) (t : State), t.changedOnly l (f v t)) (s : State) : s.changedOnly l (watch bs a f s) := by
  unfold watch
  split
  · exact hf _ s
  · exact .refl s _

/-- What the watch events of a write burst may change. -/
abbrev watchParts : List Part := .lists :: heartbeatParts

theorem watchEvents_frame (bs : List (Nat × Byte)) (s : State) : s.changedOnly watchParts (watchEvents bs s) := by
  unfold watchEvents
  refine State.changedOnly.then ?_ (watch_frame _ _ (fun _ t => heartbeat_frame t) _)
  refine State.changedOnly.then ?_ (watch_frame _ _ (fun v t => withNctl_frame _ t) _)
  refine State.changedOnly.then ?_ (watch_frame _ _ (fun v t => listCommand_frame 1 v t) _)
  exact (watch_frame _ _ (fun v t => listCommand_frame 0 v t) s).mono (by decide)

/-- What a write burst may change. -/
abbrev writeParts : List Part := .stored :: .journal :: .words :: .guard :: watchParts

theorem writeBurst_frame (w : Burst) (s : State) : s.changedOnly writeParts (writeBurst w s) := by
  unfold writeBurst
  split
  · exact (((landBytes_frame _ s).mono (by decide)).then (recordHit_frame _ _)).then (watchEvents_frame _ _)
  · exact .refl s _

theorem memoryBecomesReady_frame (s : State) : s.changedOnly [.status] (memoryBecomesReady s) := by
  intro x hx; cases x <;> first | exact absurd (by decide) hx | simp [Part.same, memoryBecomesReady]

/-! ## Resets -/

/-- What a part reset may change: everything but the outside, the count of choices and the outputs (R170). -/
abbrev resetParts : List Part :=
  [.bays, .paths, .limits, .grants, .charge, .delivery, .prov, .provSettings, .counts, .access, .clock,
    .reservations, .reader, .collecting, .custody, .journal, .releases, .latches, .latchMode, .stuck, .smon, .stored,
    .status, .words, .guard, .lists, .notices]

theorem partReset_frame (k : ResetCause) (s : State) : s.changedOnly resetParts (partReset k s) := by
  intro x hx; cases x <;> first | exact absurd (by decide) hx | simp [Part.same, partReset, clearCounts]

theorem cutBurst_frame (w : Option Burst) (s : State) : s.changedOnly landParts (cutBurst w s) := by
  unfold cutBurst
  repeat' split
  · exact landBytes_frame _ s
  all_goals exact .refl s _

/-- What power-on may change: the outputs too. -/
abbrev powerOnParts : List Part := .portData :: .verdicts :: resetParts

theorem powerUp_frame (s : State) : s.changedOnly powerOnParts (powerUp s) := by
  intro x hx; cases x <;> first | exact absurd (by decide) hx | simp [Part.same, powerUp, clearCounts]

theorem writeRegister_frame (n : Byte) (data : List Byte) (s : State) :
    s.changedOnly resetParts (writeRegister n data s) := by
  unfold writeRegister
  split
  · exact partReset_frame _ s
  · exact .refl s _

/-! ## The walker -/

theorem stallExpires_frame (i : ListId) (s : State) : s.changedOnly listParts (stallExpires i s) := by
  unfold stallExpires
  split
  · exact endFault_frame _ _ _ s
  · exact .refl s _

theorem chainEnds_frame (s : State) : s.changedOnly listParts (chainEnds s) := by
  unfold chainEnds
  repeat' split
  · exact endDone_frame _ s
  all_goals exact .refl s _

end Sys2Proof.Machine
end

section
/-! PROOF. What an order's owner may change, order kind by order kind, and with it what each command of the part may
change (`exec_frame`). A command changes neither the queue nor the timebase, so every command completes (O2). -/

namespace Sys2Proof.Machine

-- One declaration after the other: the check compiles the whole text within a memory bound.
set_option Elab.async false

/-! ## The owners of the orders -/

/-- The owner's decision on an order of a kind (Table 9-6). -/
def OrderKind.owner : OrderKind → Nat → State → State × Answer
  | .setLimits => orderSetLimits
  | .setThresholds => orderSetThresholds
  | .bayConfig => orderBayConfig
  | .reserve => orderReserve
  | .provision => orderProvision
  | .cancelProvision => orderCancelProvision
  | .sessionEnd => orderSessionEnd
  | .commitCredentials => orderCommitCredentials
  | .commitWindows => orderCommitWindows
  | .setClock => orderSetClock
  | .releaseBay => orderReleaseBay
  | .custodyRestore => orderCustodyRestore
  | .forgetTablet => orderForgetTablet
  | .setLatchMode => orderSetLatchMode
  | .clearFault => orderClearFault
  | .setNotice => orderSetNotice
  | .setSupervision => orderSetSupervision

/-- An order command is the walker's dispatch to the owner of its kind. -/
theorem exec_command (k : OrderKind) (s : State) : exec k.command s = .next (dispatch k k.owner s) := by
  cases k <;> rfl

/-- What the owner of an order kind may change. -/
def OrderKind.parts : OrderKind → List Part
  | .setLimits => .limits :: passParts
  | .setThresholds => .provSettings :: considerParts
  | .bayConfig => [.bays, .counts]
  | .reserve => .reservations :: passParts
  | .provision => considerParts
  | .cancelProvision => endParts
  | .sessionEnd => endParts
  | .commitCredentials => [.access, .counts]
  | .commitWindows => [.access, .counts]
  | .setClock => .clock :: passParts
  | .releaseBay => ldrvParts
  | .custodyRestore => [.custody, .counts]
  | .forgetTablet => [.custody, .counts]
  | .setLatchMode => .choices :: .latchMode :: ldrvParts
  | .clearFault => .charge :: considerParts
  | .setNotice => [.notices]
  | .setSupervision => heartbeatParts

theorem limited_decisions (p : PAlloc) (l : Nat) (caps : Vector Nat 6) (sag : SagSelect) (deep : DeepSelect)
    (input now : Nat) : (p.limited l caps sag deep input now).net = p.net ∧
      (p.limited l caps sag deep input now).bays = p.bays := by
  unfold PAlloc.limited
  dsimp only
  split <;> exact ⟨rfl, rfl⟩

theorem setLimited_frame (l : Nat) (caps : Vector Nat 6) (sag : SagSelect) (deep : DeepSelect) (s : State) :
    s.changedOnly [.limits, .counts] (s.setPalloc (s.palloc.limited l caps sag deep s.vsense s.now)) := by
  obtain ⟨hn, hb⟩ := limited_decisions s.palloc l caps sag deep s.vsense s.now
  exact setPalloc_limits_frame _ s hn fun b => by rw [hb]; exact ⟨rfl, rfl, rfl⟩

theorem applyLimits_frame (l : Nat) (caps : Vector Nat 6) (sag : SagSelect) (deep : DeepSelect) (s : State) :
    s.changedOnly (.limits :: passParts) (applyLimits l caps sag deep s) := by
  have h := setLimited_frame l caps sag deep s
  unfold applyLimits
  dsimp only
  split
  · exact h.mono (by decide)
  · exact (h.mono (by decide)).then (pass_frame _)

theorem orderSetLimits_frame (off : Nat) (s : State) :
    s.changedOnly (.limits :: passParts) (orderSetLimits off s).1 := by
  unfold orderSetLimits
  split
  · exact .refl s _
  · exact .refl s _
  · exact applyLimits_frame _ _ _ _ s

theorem thresholds_frame (rel mn : Nat) (s : State) :
    s.changedOnly [.provSettings] (s.withPsched { s.psched with releaseThreshold := rel, provMinimum := mn }) := by
  intro x hx; cases x <;> first | exact absurd (by decide) hx | simp [Part.same]

theorem ite_frame {p : Prop} [Decidable p] {l : List Part} {s t u : State} (ht : s.changedOnly l t)
    (hu : s.changedOnly l u) : s.changedOnly l (if p then t else u) := by
  split
  · exact ht
  · exact hu

theorem applyThresholds_frame (rel mn : Nat) (s : State) :
    s.changedOnly (.provSettings :: considerParts) (applyThresholds rel mn s) := by
  have h := (thresholds_frame rel mn s).mono (m := .provSettings :: considerParts) (by decide)
  unfold applyThresholds
  dsimp only
  exact ite_frame (ite_frame h (h.then (passIfChanged_frame _)))
    ((ite_frame h (h.then (passIfChanged_frame _))).then (considerCore_frame _))

theorem orderSetThresholds_frame (off : Nat) (s : State) :
    s.changedOnly (.provSettings :: considerParts) (orderSetThresholds off s).1 :=
  pschedEvent_frame (applyThresholds_frame _ _ s) (by decide)

theorem orderBayConfig_frame (off : Nat) (s : State) : s.changedOnly [.bays, .counts] (orderBayConfig off s).1 := by
  unfold orderBayConfig
  split
  · exact .refl s _
  · split
    · exact .refl s _
    · exact withPool_frame s _ _

theorem orderReserve_frame (off : Nat) (s : State) :
    s.changedOnly (.reservations :: passParts) (orderReserve off s).1 := by
  unfold orderReserve
  split
  · exact .refl s _
  · split
    · exact changeReservation_frame _ _ s
    · split
      · exact .refl s _
      · exact changeReservation_frame _ _ s

theorem provBay_frame (b : Bay) (rev : Half) (n m : Nat) (x : State × Nat) :
    x.1.changedOnly [.prov] (provBay b rev n m x).1 := by
  have hw : ∀ r : ProvRecord, x.1.changedOnly [.prov] (provWanted b r rev x.1) := fun r => by
    unfold provWanted
    dsimp only
    split
    · exact (setProv_frame b _ _).trans (setChannel_frame _ _ _)
    · exact setProv_frame b _ _
  unfold provBay
  dsimp only
  split
  · exact hw _
  · split
    · exact (setQueue_frame _ _).trans (setProv_frame b _ _)
    · exact setProv_frame b _ _
  all_goals
    split
    · exact setProv_frame b _ _
    · exact (setProv_frame b _ _).trans (setQueue_frame _ _)

theorem provVisits_frame (bays : List Bay) (rev : Half) (n m : Nat) (s : State) :
    s.changedOnly [.prov] (provVisits bays rev n m s).1 := by
  have h : ∀ (bs : List Bay) (x : State × Nat), x.1.changedOnly [.prov] (bs.foldl (provVisit rev n m) x).1 := by
    intro bs
    induction bs with
    | nil => exact fun x => .refl _ _
    | cons b bs ih =>
      intro x
      refine State.changedOnly.trans ?_ (ih _)
      unfold provVisit
      split
      · exact provBay_frame b rev n m x
      · exact .refl _ _
  exact h bays (s, 0)

theorem provisionEvent_frame (bays : List Bay) (rev : Half) (n m : Nat) (s : State) :
    s.changedOnly considerParts (provisionEvent bays rev n m s) := by
  have h := (provVisits_frame bays rev n m s).mono (m := considerParts) (by decide)
  unfold provisionEvent
  refine pschedEvent_frame ?_ (by decide)
  dsimp only
  split
  · exact h
  · exact h.then (considerCore_frame _)

theorem orderProvision_frame (off : Nat) (s : State) : s.changedOnly considerParts (orderProvision off s).1 := by
  unfold orderProvision
  split
  · exact .refl s _
  · split
    · exact .refl s _
    · exact provisionEvent_frame _ _ _ _ s

theorem cancelVisit_frame (x : State × Nat) (b : Bay) : x.1.changedOnly endParts (cancelVisit x b).1 := by
  unfold cancelVisit
  split
  · exact (clearCore_frame b _).mono (by decide)
  · exact endBayCore_frame b _ _
  all_goals exact .refl _ _

theorem cancelVisits_frame (bays : List Bay) (s : State) : s.changedOnly endParts (cancelVisits bays s).1 := by
  have h : ∀ (bs : List Bay) (x : State × Nat), x.1.changedOnly endParts (bs.foldl cancelVisit x).1 := by
    intro bs
    induction bs with
    | nil => exact fun x => .refl _ _
    | cons b bs ih => exact fun x => (cancelVisit_frame x b).trans (ih _)
  exact h bays (s, 0)

theorem orderCancelProvision_frame (off : Nat) (s : State) :
    s.changedOnly endParts (orderCancelProvision off s).1 := by
  unfold orderCancelProvision
  split
  · exact .refl s _
  · dsimp only
    exact pschedEvent_frame (cancelVisits_frame _ s) (by decide)

theorem reportSession_frame (c : Chan) (b : Bay) (o : SessionOutcome) (r : Half) (s : State) :
    s.changedOnly endParts (reportSession c b o r s).1 := by
  unfold reportSession
  repeat' split
  · exact pschedEvent_frame (endSessionCore_frame c o r s) (by decide)
  all_goals exact .refl s _

theorem orderSessionEnd_frame (off : Nat) (s : State) : s.changedOnly endParts (orderSessionEnd off s).1 := by
  unfold orderSessionEnd
  split
  · exact .refl s _
  · split
    · exact .refl s _
    · dsimp only
      split
      · split
        · exact .refl s _
        · exact reportSession_frame _ _ _ _ s
      · exact reportSession_frame _ _ _ _ s
      · exact .refl s _

/-- ACC's update of its tables and SERVICE alone. -/
theorem setAcc_access_frame (a : Acc) (s : State) (h : a.clock = s.acc.clock ∧
    a.reservations = s.acc.reservations ∧ a.transaction = s.acc.transaction ∧ a.collecting = s.acc.collecting) :
    s.changedOnly [.access, .counts] (s.setAcc a) := by
  obtain ⟨hc, hr, ht, hg⟩ := h
  refine State.changedOnly.trans (t := s.withAcc a) ?_ ((bumpCart_frame _ _).mono (by decide))
  intro x hx; cases x <;> first | exact absurd (by decide) hx | simp [Part.same, hc, hr, ht, hg]

theorem orderCommitCredentials_frame (off : Nat) (s : State) :
    s.changedOnly [.access, .counts] (orderCommitCredentials off s).1 := by
  unfold orderCommitCredentials
  split
  · exact .refl s _
  · dsimp only
    split
    · exact .refl s _
    · split
      · exact .refl s _
      · exact setAcc_access_frame _ s ⟨rfl, rfl, rfl, rfl⟩

theorem orderCommitWindows_frame (off : Nat) (s : State) :
    s.changedOnly [.access, .counts] (orderCommitWindows off s).1 := by
  unfold orderCommitWindows
  dsimp only
  split
  · exact .refl s _
  · split
    · exact .refl s _
    · exact setAcc_access_frame _ s ⟨rfl, rfl, rfl, rfl⟩

theorem setClock_frame (m n : Nat) (s : State) : s.changedOnly (.clock :: passParts) (setClock m n s) := by
  unfold setClock
  exact ((setAcc_clock_frame _ s).mono (by decide)).then (passIfChanged_frame _)

theorem orderSetClock_frame (off : Nat) (s : State) :
    s.changedOnly (.clock :: passParts) (orderSetClock off s).1 := by
  unfold orderSetClock
  dsimp only
  split
  · exact .refl s _
  · split
    · exact .refl s _
    · exact setClock_frame _ _ s

theorem releaseByStaff_frame (b : Bay) (h : Option Token) (s : State) :
    s.changedOnly ldrvParts (releaseByStaff b h s) := by
  unfold releaseByStaff
  dsimp only
  refine State.changedOnly.then ?_ (requestDrive_frame b _)
  refine State.changedOnly.then ?_ (openRelease_frame b _ _ _)
  split
  · exact (pschedAbort_frame b s).mono (by decide)
  · exact .refl s _

theorem orderReleaseBay_frame (off : Nat) (s : State) : s.changedOnly ldrvParts (orderReleaseBay off s).1 := by
  unfold orderReleaseBay
  split
  · exact .refl s _
  · split
    · exact .refl s _
    · exact releaseByStaff_frame _ _ s

/-- One slot changed as one event at CUST. -/
theorem custEvent_setSlot_frame (i : Fin 48) (r : State → Option CustodyRecord) (s : State) :
    s.changedOnly [.custody, .counts] (custEvent (fun s => s.setSlot i (r s)) s) :=
  custEvent_frame ((setSlot_frame i _ s).mono (by decide)) (by decide)

theorem restoreCustody_frame (t : Tag) (h : Option Token) (s : State) :
    s.changedOnly [.custody, .counts] (restoreCustody t h s).1 := by
  unfold restoreCustody
  split
  · dsimp only
    exact custEvent_setSlot_frame _ _ s
  · split
    · dsimp only
      exact custEvent_setSlot_frame _ _ s
    · exact .refl s _

theorem orderCustodyRestore_frame (off : Nat) (s : State) :
    s.changedOnly [.custody, .counts] (orderCustodyRestore off s).1 := by
  unfold orderCustodyRestore
  dsimp only
  split
  · exact .refl s _
  · split
    · exact .refl s _
    · split
      · exact .refl s _
      · exact restoreCustody_frame _ _ s

theorem orderForgetTablet_frame (off : Nat) (s : State) :
    s.changedOnly [.custody, .counts] (orderForgetTablet off s).1 := by
  unfold orderForgetTablet
  dsimp only
  split
  · exact .refl s _
  · split
    · split
      · exact .refl s _
      · dsimp only
        exact custEvent_setSlot_frame _ (fun _ => none) s
    · exact .refl s _

/-- LDRV's mode and pulse length, as one event. -/
theorem latchMode_frame (f : State → Ldrv) (s : State) (h : (f s).queue = s.ldrv.queue ∧
    (f s).slots = s.ldrv.slots ∧ (f s).reserveHeld = s.ldrv.reserveHeld ∧ (f s).stuck = s.ldrv.stuck) :
    s.changedOnly [.latchMode, .counts] (ldrvEvent (fun s => s.withLdrv (f s)) s) := by
  obtain ⟨hq, hs, hr, hk⟩ := h
  refine ldrvEvent_frame ?_ (by decide)
  intro x hx; cases x <;> first | exact absurd (by decide) hx | simp [Part.same, hq, hs, hr, hk]

theorem orderSetLatchMode_frame (off : Nat) (s : State) :
    s.changedOnly (.choices :: .latchMode :: ldrvParts) (orderSetLatchMode off s).1 := by
  unfold orderSetLatchMode
  split
  · exact .refl s _
  · refine State.changedOnly.mono (latchMode_frame _ s ?_) (m := .choices :: .latchMode :: ldrvParts) (by decide)
    exact ⟨rfl, rfl, rfl, rfl⟩
  · refine State.changedOnly.mono (latchMode_frame _ s ?_) (m := .choices :: .latchMode :: ldrvParts) (by decide)
    exact ⟨rfl, rfl, rfl, rfl⟩
  · exact latchOff_frame s

theorem clearLockout_frame (b : Bay) (s : State) :
    s.changedOnly (.charge :: considerParts) (clearLockout b s) := by
  unfold clearLockout
  exact cctlChange_frame b _ s

theorem clearCut_frame (b : Bay) (s : State) : s.changedOnly considerParts (clearCut b s) := by
  unfold clearCut
  refine State.changedOnly.then ?_ (consider_frame _)
  refine State.changedOnly.mono (setEntry_path_frame b _ s ?_) (m := considerParts) (by decide)
  rfl

theorem orderClearFault_frame (off : Nat) (s : State) :
    s.changedOnly (.charge :: considerParts) (orderClearFault off s).1 := by
  have hl : ∀ (b : Bay) (p : Bool), s.changedOnly (.charge :: considerParts) (if p then clearLockout b s else s) :=
    fun b p => by
      split
      · exact clearLockout_frame b s
      · exact .refl s _
  unfold orderClearFault
  split
  · exact .refl s _
  · dsimp only
    split
    · split
      · exact (hl _ _).then (clearCut_frame _ _)
      · exact hl _ _
    · exact .refl s _

theorem orderSetNotice_frame (off : Nat) (s : State) : s.changedOnly [.notices] (orderSetNotice off s).1 := by
  unfold orderSetNotice
  split
  · exact .refl s _
  · dsimp only
    repeat' split
    all_goals first | exact .refl s _ | exact withNctl_frame _ s

theorem applySupervision_frame (c m : Nat) (en : Bool) (s : State) :
    s.changedOnly heartbeatParts (applySupervision c m en s) := by
  unfold applySupervision
  dsimp only
  split
  · exact (setSmon_frame _ s).mono (by decide)
  · exact (setSmon_frame _ s).mono (by decide)
  · exact (setSmon_frame _ s).mono (by decide)
  · exact returnAttended_frame _ s

theorem orderSetSupervision_frame (off : Nat) (s : State) :
    s.changedOnly heartbeatParts (orderSetSupervision off s).1 := by
  unfold orderSetSupervision
  split
  · exact .refl s _
  · exact applySupervision_frame _ _ _ s

theorem owner_frame (k : OrderKind) (off : Nat) (s : State) : s.changedOnly k.parts (k.owner off s).1 := by
  cases k with
  | setLimits => exact orderSetLimits_frame off s
  | setThresholds => exact orderSetThresholds_frame off s
  | bayConfig => exact orderBayConfig_frame off s
  | reserve => exact orderReserve_frame off s
  | provision => exact orderProvision_frame off s
  | cancelProvision => exact orderCancelProvision_frame off s
  | sessionEnd => exact orderSessionEnd_frame off s
  | commitCredentials => exact orderCommitCredentials_frame off s
  | commitWindows => exact orderCommitWindows_frame off s
  | setClock => exact orderSetClock_frame off s
  | releaseBay => exact orderReleaseBay_frame off s
  | custodyRestore => exact orderCustodyRestore_frame off s
  | forgetTablet => exact orderForgetTablet_frame off s
  | setLatchMode => exact orderSetLatchMode_frame off s
  | clearFault => exact orderClearFault_frame off s
  | setNotice => exact orderSetNotice_frame off s
  | setSupervision => exact orderSetSupervision_frame off s

/-- A dispatch is the owner's decision and the walker's answer, or changes nothing. -/
theorem dispatch_cases (k : OrderKind) (f : Nat → State → State × Answer) (s : State) :
    dispatch k f s = s ∨ ∃ (i : ListId) (off n : Nat), s.reaches i k off n ∧
      dispatch k f s = answered i off n (s.linkOf off) (f off s).2 (f off s).1 := by
  unfold dispatch
  split
  · exact .inl rfl
  · next i hi =>
    dsimp only
    split
    · next k' n ha =>
      split
      · next hk => exact .inr ⟨i, s.owalk[i].next.toNat, n, ⟨hi, rfl, hk ▸ ha⟩, rfl⟩
      · exact .inl rfl
    · exact .inl rfl

theorem dispatch_frame (k : OrderKind) (s : State) :
    s.changedOnly (.stored :: .lists :: k.parts) (dispatch k k.owner s) := by
  rcases dispatch_cases k k.owner s with h | ⟨i, off, n, -, h⟩ <;> rw [h]
  · exact .refl s _
  · exact answered_changes (owner_frame k off s) i off n _ _

/-! ## The commands -/

/-- The order kind that an order command dispatches. -/
def orderOf : Instr → Option OrderKind
  | .setLimits => some .setLimits
  | .setThresholds => some .setThresholds
  | .bayConfig => some .bayConfig
  | .reserve => some .reserve
  | .provision => some .provision
  | .cancelProvision => some .cancelProvision
  | .sessionEnd => some .sessionEnd
  | .commitCredentials => some .commitCredentials
  | .commitWindows => some .commitWindows
  | .setClock => some .setClock
  | .releaseBay => some .releaseBay
  | .custodyRestore => some .custodyRestore
  | .forgetTablet => some .forgetTablet
  | .setLatchMode => some .setLatchMode
  | .clearFault => some .clearFault
  | .setNotice => some .setNotice
  | .setSupervision => some .setSupervision
  | _ => none

/-- What each command may change. -/
def partsOf (i : Instr) : List Part :=
  match i with
  | .powerOn => powerOnParts
  | .resetnPartReset _ | .controlPartReset _ | .registerWrite _ _ => resetParts
  | .memoryReady => [.status]
  | .memoryRead _ _ => [.portData, .notices, .guard]
  | .memoryWrite _ => writeParts
  | .registerRead _ _ => [.portData]
  | .presenceInputChange _ _ => .pins :: .bays :: releaseParts
  | .attach _ => .bays :: .paths :: .charge :: passParts
  | .detach _ => detachParts
  | .tagFrame _ _ _ | .tagReadAttemptExpiry _ => tagParts
  | .doorInputChange _ _ | .latchSenseInputChange _ _ => [.pins, .bays]
  | .doorEvent _ => doorParts
  | .latchSenseChange _ => .bays :: .latches :: considerParts
  | .levelPoll _ | .levelReportWaitExpiry _ => [.bays]
  | .levelReport _ _ _ | .levelStale _ => levelParts
  | .lineActivity _ => [.paths]
  | .silenceEvent _ | .faultLevelExpiry _ | .sessionTimerExpiry _ => endParts
  | .faultLevelChange _ _ => [.pins, .paths]
  | .supplyInputCrossing _ => [.pins, .limits]
  | .supplyFall | .supplyRise | .thermalSample _ => supplyParts
  | .agreement _ _ | .negotiationExpiry _ | .demandAnnouncement _ _ | .cooldownExpiry _ =>
    .charge :: considerParts
  | .rampStep _ => [.delivery, .counts]
  | .overCurrentSample _ _ => chargeParts
  | .tokenArrival _ => .collecting :: arrivalParts
  | .readerByteGap | .startByte | .frameDiscarded _ => [.collecting]
  | .clockSecond | .changeOfMinute => minuteParts
  | .releaseWindowExpiry _ => releaseParts
  | .latchWaitExpiry _ => ldrvParts
  | .driveTimeEnd _ => .stuck :: .notices :: driveParts
  | .closedPhaseEnd => [.smon, .counts]
  | .windowExpiry => heartbeatParts
  | .stallTimerExpiry _ | .linkOf0Followed => listParts
  | .recordNotDispatched => .stored :: listParts
  | i => .stored :: .lists :: ((orderOf i).map OrderKind.parts).getD []

/-- Every command answers a next state, which differs from the state before only in the command's parts. -/
theorem exec_frame (i : Instr) (s : State) : ∃ t, exec i s = .next t ∧ s.changedOnly (partsOf i) t := by
  cases i with
  | powerOn => exact ⟨_, rfl, powerUp_frame s⟩
  | resetnPartReset cut =>
    exact ⟨_, rfl, ((cutBurst_frame cut s).mono (m := resetParts) (by decide)).trans (partReset_frame .pin _)⟩
  | memoryReady => exact ⟨_, rfl, memoryBecomesReady_frame s⟩
  | memoryRead o n => exact ⟨_, rfl, readBurst_frame o n s⟩
  | memoryWrite w => exact ⟨_, rfl, writeBurst_frame w s⟩
  | registerRead r n => exact ⟨_, rfl, withOut_portData_frame _ s⟩
  | controlPartReset ds => exact ⟨_, rfl, partReset_frame .control s⟩
  | registerWrite r ds => exact ⟨_, rfl, writeRegister_frame r ds s⟩
  | presenceInputChange b v => exact ⟨_, rfl, presenceChange_frame b v s⟩
  | attach b => exact ⟨_, rfl, attachBay_frame b s⟩
  | detach b => exact ⟨_, rfl, detachBay_frame b s⟩
  | tagFrame b t ok => exact ⟨_, rfl, tagFrameArrives_frame b t ok s⟩
  | tagReadAttemptExpiry b => exact ⟨_, rfl, tagReadExpires_frame b s⟩
  | doorInputChange b v => exact ⟨_, rfl, doorInput_frame b _ s⟩
  | doorEvent b => exact ⟨_, rfl, doorHeld_frame b s⟩
  | latchSenseInputChange b v => exact ⟨_, rfl, latchInput_frame b _ s⟩
  | latchSenseChange b => exact ⟨_, rfl, latchHeld_frame b s⟩
  | levelPoll b => exact ⟨_, rfl, pollBay_frame b s⟩
  | levelReport b n ok => exact ⟨_, rfl, levelReported_frame b _ ok s⟩
  | levelReportWaitExpiry b => exact ⟨_, rfl, reportWaitEnds_frame b s⟩
  | levelStale b => exact ⟨_, rfl, levelStales_frame b s⟩
  | lineActivity b => exact ⟨_, rfl, lineActive_frame b s⟩
  | silenceEvent b => exact ⟨_, rfl, silenceReached_frame b s⟩
  | faultLevelChange b v => exact ⟨_, rfl, faultLevel_frame b v s⟩
  | faultLevelExpiry b => exact ⟨_, rfl, faultReached_frame b s⟩
  | supplyInputCrossing n => exact ⟨_, rfl, supplyInput_frame n s⟩
  | supplyFall => exact ⟨_, rfl, supplyFalls_frame s⟩
  | supplyRise => exact ⟨_, rfl, supplyRises_frame s⟩
  | thermalSample r => exact ⟨_, rfl, thermalSampled_frame r s⟩
  | agreement b n => exact ⟨_, rfl, agreed_frame b n s⟩
  | negotiationExpiry b => exact ⟨_, rfl, negotiationExpires_frame b s⟩
  | demandAnnouncement b n => exact ⟨_, rfl, announced_frame b n s⟩
  | rampStep b => exact ⟨_, rfl, rampExpires_frame b s⟩
  | overCurrentSample b v => exact ⟨_, rfl, comparatorSampled_frame b v s⟩
  | cooldownExpiry b => exact ⟨_, rfl, cooldownExpires_frame b s⟩
  | sessionTimerExpiry c => exact ⟨_, rfl, sessionTimeExpires_frame c s⟩
  | tokenArrival f => exact ⟨_, rfl, frameComplete_frame f s⟩
  | readerByteGap => exact ⟨_, rfl, byteGap_frame s⟩
  | clockSecond => exact ⟨_, rfl, clockAdvances_frame s⟩
  | changeOfMinute => exact ⟨_, rfl, minuteChanges_frame s⟩
  | releaseWindowExpiry b => exact ⟨_, rfl, windowExpires_frame b s⟩
  | latchWaitExpiry b => exact ⟨_, rfl, latchWaitExpires_frame b s⟩
  | driveTimeEnd k => exact ⟨_, rfl, driveTimeEnds_frame k s⟩
  | closedPhaseEnd => exact ⟨_, rfl, closedPhaseEnds_frame s⟩
  | windowExpiry => exact ⟨_, rfl, windowTimeExpires_frame s⟩
  | stallTimerExpiry l => exact ⟨_, rfl, stallExpires_frame l s⟩
  | recordNotDispatched => exact ⟨_, rfl, notDispatched_frame s⟩
  | startByte => exact ⟨_, rfl, startByte_frame s⟩
  | frameDiscarded c => exact ⟨_, rfl, withCollecting_frame s none⟩
  | linkOf0Followed => exact ⟨_, rfl, chainEnds_frame s⟩
  | setLimits => exact ⟨_, rfl, dispatch_frame .setLimits s⟩
  | setThresholds => exact ⟨_, rfl, dispatch_frame .setThresholds s⟩
  | bayConfig => exact ⟨_, rfl, dispatch_frame .bayConfig s⟩
  | reserve => exact ⟨_, rfl, dispatch_frame .reserve s⟩
  | provision => exact ⟨_, rfl, dispatch_frame .provision s⟩
  | cancelProvision => exact ⟨_, rfl, dispatch_frame .cancelProvision s⟩
  | sessionEnd => exact ⟨_, rfl, dispatch_frame .sessionEnd s⟩
  | commitCredentials => exact ⟨_, rfl, dispatch_frame .commitCredentials s⟩
  | commitWindows => exact ⟨_, rfl, dispatch_frame .commitWindows s⟩
  | setClock => exact ⟨_, rfl, dispatch_frame .setClock s⟩
  | releaseBay => exact ⟨_, rfl, dispatch_frame .releaseBay s⟩
  | custodyRestore => exact ⟨_, rfl, dispatch_frame .custodyRestore s⟩
  | forgetTablet => exact ⟨_, rfl, dispatch_frame .forgetTablet s⟩
  | setLatchMode => exact ⟨_, rfl, dispatch_frame .setLatchMode s⟩
  | clearFault => exact ⟨_, rfl, dispatch_frame .clearFault s⟩
  | setNotice => exact ⟨_, rfl, dispatch_frame .setNotice s⟩
  | setSupervision => exact ⟨_, rfl, dispatch_frame .setSupervision s⟩

/-- No command's parts hold the queue or the timebase. -/
theorem parts_outside (i : Instr) : Part.pending ∉ (partsOf i) ∧ Part.now ∉ (partsOf i) := by
  cases i <;> (dsimp only [partsOf, orderOf, Option.map, Option.getD, OrderKind.parts]; decide)

theorem exec_next {i : Instr} {s t : State} (h : exec i s = .next t) : s.changedOnly (partsOf i) t := by
  obtain ⟨u, hu, hf⟩ := exec_frame i s
  rw [h, Host.Outcome.next.injEq] at hu
  exact hu ▸ hf

/-- Settles O2: every command answers a next state, and neither the queue nor the timebase is among the parts that a
command may change. -/
theorem everyCommandCompletes : Obligations.EveryCommandCompletes := by
  intro i s
  obtain ⟨t, ht, hf⟩ := exec_frame i s
  obtain ⟨hp, hn⟩ := parts_outside i
  exact ⟨t, ht, hf .pending hp, hf .now hn⟩

theorem withNow_frame (n : Nat) (s : State) : s.changedOnly [.now] (s.withNow n) := by
  intro x hx; cases x <;> first | exact absurd (by decide) hx | simp [Part.same]

/-- Settles O1: the front command is run on the state with the queue's rest, by the definition of a step; with no
command waiting the step is a tick. -/
theorem stepTakesFrontCommand : Obligations.StepTakesFrontCommand := by
  refine ⟨fun i rest s => rfl, fun s hs => ⟨tick s, ?_, rfl, withNow_frame _ s⟩⟩
  rw [step, hs]

/-- A step is a tick, or the command at the front of the queue run on the state with the queue's rest. -/
theorem step_cases {s t : State} (h : step s = .next t) :
    t = tick s ∨ ∃ (i : Instr) (rest : List Instr), exec i (s.withPending rest) = .next t := by
  unfold step at h
  split at h
  · rw [Host.Outcome.next.injEq] at h
    exact .inl h.symm
  · exact .inr ⟨_, _, h⟩

/-- An invariant of the steps: the queue and the timebase do not matter to it, and every command keeps it. -/
theorem step_keeps {P : State → Prop} (hnow : ∀ (s : State) (n : Nat), P s → P (s.withNow n))
    (hpending : ∀ (s : State) (q : List Instr), P s → P (s.withPending q))
    (hexec : ∀ (i : Instr) (s t : State), P s → exec i s = .next t → P t) :
    ∀ s t : State, P s → step s = .next t → P t := by
  intro s t hs h
  rcases step_cases h with rfl | ⟨i, rest, h⟩
  · exact hnow s _ hs
  · exact hexec i _ t (hpending s rest hs) h

end Sys2Proof.Machine
end

section
/-! PROOF. The laws of an allocation pass (R42 to R44): every addition to a grant keeps the budget, the shelf caps and the
wants; a tier is filled until nothing remains or none of its bays has room; and so the tiers are served in order. -/

namespace Sys2Proof.Machine

-- One declaration after the other: the check compiles the whole text within a memory bound.
set_option Elab.async false

/-! ## The amounts of a pass -/

/-- The amounts add up: budget, shelf caps and wants. -/
structure Alloc.Sound (n : Nat) (caps : Vector Nat 6) (inp : Vector PassInput 36) (a : Alloc) : Prop where
  total : a.remaining + ∑ b : Bay, a.grants[b] = n
  shelf : ∀ h : Shelf, a.shelf[h] + (∑ b : Bay, if shelfOf b = h then a.grants[b] else 0) = caps[h]
  want : ∀ b : Bay, a.grants[b] ≤ inp[b].want

/-- A bay that no round gives more: it has its want, or its shelf is full. -/
def Alloc.done (inp : Vector PassInput 36) (a : Alloc) (b : Bay) : Prop :=
  a.grants[b] = inp[b].want ∨ a.shelf[shelfOf b] = 0

/-- `a'` has given out more than `a`, to bays of `sel` alone. -/
structure Alloc.Grows (sel : Bay → Prop) (a a' : Alloc) : Prop where
  remaining : a'.remaining ≤ a.remaining
  shelf : ∀ h : Shelf, a'.shelf[h] ≤ a.shelf[h]
  grants : ∀ b : Bay, a.grants[b] ≤ a'.grants[b]
  others : ∀ b : Bay, ¬sel b → a'.grants[b] = a.grants[b]

theorem Alloc.Grows.refl (sel : Bay → Prop) (a : Alloc) : a.Grows sel a :=
  ⟨le_refl _, fun _ => le_refl _, fun _ => le_refl _, fun _ _ => rfl⟩

theorem Alloc.Grows.trans {sel : Bay → Prop} {a b c : Alloc} (h : a.Grows sel b) (k : b.Grows sel c) :
    a.Grows sel c :=
  ⟨k.remaining.trans h.remaining, fun x => (k.shelf x).trans (h.shelf x),
    fun x => (h.grants x).trans (k.grants x), fun x hx => (k.others x hx).trans (h.others x hx)⟩

theorem Alloc.Grows.mono {sel sel' : Bay → Prop} {a b : Alloc} (h : a.Grows sel b) (hs : ∀ x, sel x → sel' x) :
    a.Grows sel' b :=
  ⟨h.remaining, h.shelf, h.grants, fun x hx => h.others x fun h' => hx (hs x h')⟩

/-- What a bay has, it keeps. -/
theorem Alloc.Grows.done {sel : Bay → Prop} {n : Nat} {caps : Vector Nat 6} {inp : Vector PassInput 36}
    {a a' : Alloc} (h : a.Grows sel a') (hs : a'.Sound n caps inp) {b : Bay} (hb : a.done inp b) :
    a'.done inp b := by
  obtain hb | hb := hb
  · exact .inl (le_antisymm (hs.want b) (hb ▸ h.grants b))
  · exact .inr (Nat.le_zero.mp (hb ▸ h.shelf _))

/-! ## One addition to a grant -/

section
variable (a : Alloc) (b : Bay) (x : Nat)

theorem give_grants (y : Bay) : (a.give b x).grants[y] = if y = b then a.grants[b] + x else a.grants[y] :=
  getElem_set_fin _ _ _ _

theorem give_shelf (h : Shelf) :
    (a.give b x).shelf[h] = if h = shelfOf b then a.shelf[shelfOf b] - x else a.shelf[h] :=
  getElem_set_fin _ _ _ _

theorem give_remaining : (a.give b x).remaining = a.remaining - x := rfl

theorem give_grants_add (y : Bay) : (a.give b x).grants[y] = a.grants[y] + if y = b then x else 0 := by
  rw [give_grants]
  split
  · next h => rw [h]
  · rw [Nat.add_zero]

theorem give_sum : ∑ y : Bay, (a.give b x).grants[y] = (∑ y : Bay, a.grants[y]) + x := by
  simp only [give_grants_add, Finset.sum_add_distrib, Finset.sum_ite_eq', Finset.mem_univ, if_true]

theorem give_sum_shelf (h : Shelf) :
    (∑ y : Bay, if shelfOf y = h then (a.give b x).grants[y] else 0) =
      (∑ y : Bay, if shelfOf y = h then a.grants[y] else 0) + if h = shelfOf b then x else 0 := by
  have hy : ∀ y : Bay, (if shelfOf y = h then (a.give b x).grants[y] else 0) =
      (if shelfOf y = h then a.grants[y] else 0) + if y = b then (if h = shelfOf b then x else 0) else 0 := by
    intro y
    rw [give_grants_add]
    by_cases hyb : y = b
    · subst hyb
      by_cases hs : shelfOf y = h
      · simp [hs]
      · simp [hs, Ne.symm hs]
    · simp [hyb]
  simp only [hy, Finset.sum_add_distrib, Finset.sum_ite_eq', Finset.mem_univ, if_true]

theorem give_grows : a.Grows (· = b) (a.give b x) where
  remaining := Nat.sub_le _ _
  shelf h := by
    rw [give_shelf]
    split
    · next hh => rw [hh]; exact Nat.sub_le _ _
    · exact le_refl _
  grants y := by rw [give_grants_add]; exact Nat.le_add_right _ _
  others y hy := by rw [give_grants, if_neg hy]

end

/-- An addition that the budget, the shelf and the want have room for. -/
theorem give_sound {n : Nat} {caps : Vector Nat 6} {inp : Vector PassInput 36} {a : Alloc}
    (h : a.Sound n caps inp) {b : Bay} {x : Nat} (hr : x ≤ a.remaining) (hs : x ≤ a.shelf[shelfOf b])
    (hw : a.grants[b] + x ≤ inp[b].want) : (a.give b x).Sound n caps inp where
  total := by
    have := h.total
    rw [give_sum, give_remaining]
    omega
  shelf k := by
    have := h.shelf k
    rw [give_sum_shelf, give_shelf]
    split
    · next hk => subst hk; omega
    · omega
  want y := by
    rw [give_grants]
    split
    · next hy => rw [hy]; exact hw
    · exact h.want y

/-! ## The floors (R42) -/

theorem floor_grows (inp : Vector PassInput 36) (a : Alloc) (b : Bay) :
    a.Grows (fun x => x = b ∧ inp[x].tier = .session) (Alloc.floor inp a b) := by
  unfold Alloc.floor
  split
  · next h => exact (give_grows a b _).mono fun x hx => ⟨hx, hx ▸ h⟩
  · exact .refl _ a

/-- The floors of bays that have nothing yet. -/
theorem floors_sound {n : Nat} {caps : Vector Nat 6} {inp : Vector PassInput 36} (bs : List Bay) (hd : bs.Nodup)
    (a : Alloc) (h : a.Sound n caps inp) (h0 : ∀ b ∈ bs, a.grants[b] = 0) :
    (bs.foldl (Alloc.floor inp) a).Sound n caps inp ∧
      a.Grows (fun x => inp[x].tier = .session) (bs.foldl (Alloc.floor inp) a) := by
  induction bs generalizing a with
  | nil => exact ⟨h, .refl _ a⟩
  | cons b bs ih =>
    obtain ⟨hb, hd⟩ := List.nodup_cons.mp hd
    have hg := floor_grows inp a b
    have hs : (Alloc.floor inp a b).Sound n caps inp := by
      unfold Alloc.floor
      split
      · refine give_sound h ?_ ?_ ?_
        · omega
        · omega
        · rw [h0 b List.mem_cons_self]; omega
      · exact h
    have h0' : ∀ y ∈ bs, (Alloc.floor inp a b).grants[y] = 0 := by
      intro y hy
      rw [hg.others y fun hyb => hb (hyb.1 ▸ hy)]
      exact h0 y (List.mem_cons_of_mem _ hy)
    obtain ⟨hs', hg'⟩ := ih hd _ hs h0'
    exact ⟨hs', (hg.mono fun x hx => hx.2).trans hg'⟩

/-! ## One round (R43) -/

theorem visitShare_grows (inp : Vector PassInput 36) (share : Nat) (a : Alloc) (b : Bay) :
    a.Grows (· = b) (Alloc.visitShare inp share a b) := give_grows a b _

theorem visitOne_grows (a : Alloc) (b : Bay) : a.Grows (· = b) (a.visitOne b) := by
  unfold Alloc.visitOne
  split
  · exact give_grows a b 1
  · exact .refl _ a

section
variable {n : Nat} {caps : Vector Nat 6} {inp : Vector PassInput 36}

/-- A round with a share: no visit takes more than the share, so the budget suffices for every visit. -/
theorem shareVisits_sound (share : Nat) (bs : List Bay) (a : Alloc) (h : a.Sound n caps inp)
    (hr : share * bs.length ≤ a.remaining) :
    (bs.foldl (Alloc.visitShare inp share) a).Sound n caps inp ∧
      a.Grows (· ∈ bs) (bs.foldl (Alloc.visitShare inp share) a) := by
  induction bs generalizing a with
  | nil => exact ⟨h, .refl _ a⟩
  | cons b bs ih =>
    rw [List.length_cons, Nat.mul_succ] at hr
    have hw := h.want b
    have hs : (Alloc.visitShare inp share a b).Sound n caps inp := by
      refine give_sound h ?_ ?_ ?_ <;> omega
    have hr' : share * bs.length ≤ (Alloc.visitShare inp share a b).remaining := by
      show _ ≤ a.remaining - _
      omega
    obtain ⟨hs', hg'⟩ := ih _ hs hr'
    refine ⟨hs', ((visitShare_grows inp share a b).mono fun x hx => ?_).trans (hg'.mono fun x hx => ?_)⟩
    · exact hx ▸ List.mem_cons_self
    · exact List.mem_cons_of_mem _ hx

/-- A remainder pass over bays that are below their wants. -/
theorem oneVisits_sound (bs : List Bay) (hd : bs.Nodup) (a : Alloc) (h : a.Sound n caps inp)
    (hb : ∀ b ∈ bs, a.grants[b] < inp[b].want) :
    (bs.foldl Alloc.visitOne a).Sound n caps inp ∧ a.Grows (· ∈ bs) (bs.foldl Alloc.visitOne a) := by
  induction bs generalizing a with
  | nil => exact ⟨h, .refl _ a⟩
  | cons b bs ih =>
    obtain ⟨hn, hd⟩ := List.nodup_cons.mp hd
    have hg := visitOne_grows a b
    have hs : (a.visitOne b).Sound n caps inp := by
      unfold Alloc.visitOne
      split
      · next hp =>
        have := hb b List.mem_cons_self
        exact give_sound h hp.1 hp.2 this
      · exact h
    have hb' : ∀ y ∈ bs, (a.visitOne b).grants[y] < inp[y].want := by
      intro y hy
      rw [hg.others y fun hyb => hn (hyb ▸ hy)]
      exact hb y (List.mem_cons_of_mem _ hy)
    obtain ⟨hs', hg'⟩ := ih hd _ hs hb'
    refine ⟨hs', (hg.mono fun x hx => ?_).trans (hg'.mono fun x hx => ?_)⟩
    · exact hx ▸ List.mem_cons_self
    · exact List.mem_cons_of_mem _ hx

theorem eligible_iff_room (inp : Vector PassInput 36) (t : Tier) (a : Alloc) (b : Bay) :
    Alloc.eligible inp t a b = true ↔ inp[b].tier = t ∧ a.grants[b] < inp[b].want ∧ 0 < a.shelf[shelfOf b] := by
  simp [Alloc.eligible, and_assoc]

/-- A round over eligible bays, the first of which gets at least 1 qW. -/
theorem round_sound (b : Bay) (bs : List Bay) (hd : (b :: bs).Nodup) (a : Alloc) (h : a.Sound n caps inp)
    (he : ∀ x ∈ b :: bs, a.grants[x] < inp[x].want ∧ 0 < a.shelf[shelfOf x]) (hr : 0 < a.remaining) :
    (a.round inp (b :: bs)).Sound n caps inp ∧ a.Grows (· ∈ b :: bs) (a.round inp (b :: bs)) ∧
      (a.round inp (b :: bs)).remaining < a.remaining := by
  obtain ⟨hw, hs⟩ := he b List.mem_cons_self
  unfold Alloc.round
  dsimp only
  split
  · next h0 =>
    obtain ⟨hs', hg'⟩ := oneVisits_sound (b :: bs) hd a h fun x hx => (he x hx).1
    refine ⟨hs', hg', ?_⟩
    have hfirst : a.visitOne b = a.give b 1 := if_pos ⟨hr, hs⟩
    have hrest := foldl_visitOne_remaining bs (a.visitOne b)
    rw [List.foldl_cons]
    refine lt_of_le_of_lt hrest ?_
    rw [hfirst, give_remaining]
    omega
  · next h0 =>
    have hlen : a.remaining / (b :: bs).length * (b :: bs).length ≤ a.remaining := Nat.div_mul_le_self _ _
    obtain ⟨hs', hg'⟩ := shareVisits_sound _ (b :: bs) a h hlen
    refine ⟨hs', hg', ?_⟩
    rw [List.foldl_cons]
    refine lt_of_le_of_lt (foldl_visitShare_remaining inp _ bs _) ?_
    have hshare : 0 < a.remaining / (b :: bs).length := Nat.pos_of_ne_zero h0
    generalize a.remaining / (b :: bs).length = share at hshare
    show a.remaining - _ < a.remaining
    omega
where
  foldl_visitOne_remaining (bs : List Bay) (a : Alloc) : (bs.foldl Alloc.visitOne a).remaining ≤ a.remaining := by
    induction bs generalizing a with
    | nil => exact le_refl _
    | cons b bs ih => exact (ih _).trans (visitOne_grows a b).remaining
  foldl_visitShare_remaining (inp : Vector PassInput 36) (share : Nat) (bs : List Bay) (a : Alloc) :
      (bs.foldl (Alloc.visitShare inp share) a).remaining ≤ a.remaining := by
    induction bs generalizing a with
    | nil => exact le_refl _
    | cons b bs ih => exact (ih _).trans (visitShare_grows inp share a b).remaining

/-! ## The rounds of a tier (R43) -/

/-- The rounds of a tier end with nothing remaining or no bay of the tier left with room. -/
theorem fillTier_sound (t : Tier) (k : Nat) (a : Alloc) (h : a.Sound n caps inp) (hk : a.remaining ≤ k) :
    (a.fillTier inp t k).Sound n caps inp ∧ a.Grows (fun x => inp[x].tier = t) (a.fillTier inp t k) ∧
      ((a.fillTier inp t k).remaining = 0 ∨ ∀ b : Bay, inp[b].tier = t → (a.fillTier inp t k).done inp b) := by
  induction k generalizing a with
  | zero => exact ⟨h, .refl _ a, .inl (Nat.le_zero.mp hk)⟩
  | succ k ih =>
    unfold Alloc.fillTier
    split
    · next hnil =>
      refine ⟨h, .refl _ a, .inr fun b hb => ?_⟩
      have hne := List.filter_eq_nil_iff.mp hnil b (List.mem_finRange b)
      rw [eligible_iff_room] at hne
      have hw := h.want b
      unfold Alloc.done
      by_contra hc
      exact hne ⟨hb, by omega, by omega⟩
    · next b bs hcons =>
      split
      · next hz => exact ⟨h, .refl _ a, .inl hz⟩
      · next hz =>
        have he : ∀ x ∈ b :: bs, inp[x].tier = t ∧ a.grants[x] < inp[x].want ∧ 0 < a.shelf[shelfOf x] := by
          intro x hx
          rw [← hcons] at hx
          exact (eligible_iff_room inp t a x).mp (List.mem_filter.mp hx).2
        have hd : (b :: bs).Nodup := hcons ▸ (List.nodup_finRange 36).filter _
        obtain ⟨hs, hg, hlt⟩ := round_sound b bs hd a h (fun x hx => (he x hx).2) (Nat.pos_of_ne_zero hz)
        obtain ⟨hs', hg', hend⟩ := ih _ hs (by omega)
        exact ⟨hs', (hg.mono fun x hx => (he x hx).1).trans hg', hend⟩

theorem fillTier_of_nothing (t : Tier) (k : Nat) (a : Alloc) (h : a.remaining = 0) : a.fillTier inp t k = a := by
  cases k with
  | zero => rfl
  | succ k =>
    unfold Alloc.fillTier
    split
    · rfl
    · exact if_pos h

/-! ## The tiers in order -/

/-- What holds once the tiers of a rank below `r` are filled: the bays of later tiers have nothing, the bays of the
tiers so far are done unless nothing remains, and no bay of a lower tier got power before one of a higher tier. -/
structure Alloc.Served (inp : Vector PassInput 36) (r : Nat) (a : Alloc) : Prop where
  later : ∀ x : Bay, r ≤ inp[x].tier.rank → 0 < inp[x].tier.rank → a.grants[x] = 0
  earlier : a.remaining = 0 ∨ ∀ b : Bay, inp[b].tier.rank < r → a.done inp b
  order : ∀ b x : Bay, inp[b].tier.rank < inp[x].tier.rank → 0 < a.grants[x] → a.done inp b

theorem rank_injective {t u : Tier} (h : t.rank = u.rank) : t = u := by
  cases t <;> cases u <;> first | rfl | exact absurd h (by decide)

theorem fillTier_served (t : Tier) (a : Alloc) (h : a.Sound n caps inp) (hr : a.Served inp t.rank) :
    (a.fillTier inp t a.remaining).Served inp (t.rank + 1) := by
  obtain ⟨hs, hg, hend⟩ := fillTier_sound t a.remaining a h le_rfl
  refine ⟨fun x hx h0 => ?_, ?_, fun b x hlt hpos => ?_⟩
  · have hne : ¬inp[x].tier = t := fun he => by rw [he] at hx; omega
    rw [hg.others x hne]
    exact hr.later x (by omega) h0
  · rcases hend with hend | hend
    · exact .inl hend
    · rcases hr.earlier with h0 | hearlier
      · rw [fillTier_of_nothing t _ a h0]
        exact .inl h0
      · refine .inr fun b hb => ?_
        rcases Nat.lt_succ_iff_lt_or_eq.mp hb with hb | hb
        · exact hg.done hs (hearlier b hb)
        · exact hend b (rank_injective hb)
  · by_cases hx : 0 < a.grants[x]
    · exact hg.done hs (hr.order b x hlt hx)
    · have hchanged : (a.fillTier inp t a.remaining).grants[x] ≠ a.grants[x] := by omega
      have hxt : inp[x].tier = t := by
        by_contra hne
        exact hchanged (hg.others x hne)
      rcases hr.earlier with h0 | hearlier
      · rw [fillTier_of_nothing t _ a h0] at hchanged
        exact absurd rfl hchanged
      · exact hg.done hs (hearlier b (by rw [hxt] at hlt; exact hlt))

/-- A whole pass: its amounts add up, and every tier is served. -/
theorem allocate_served (n : Nat) (caps : Vector Nat 6) (inp : Vector PassInput 36) :
    (allocate n caps inp).Sound n caps inp ∧ (allocate n caps inp).Served inp 5 := by
  have hstart : (Alloc.start n caps).Sound n caps inp := by
    refine ⟨?_, fun h => ?_, fun b => ?_⟩ <;> simp [Alloc.start]
  obtain ⟨hs, hg⟩ := floors_sound (List.finRange 36) (List.nodup_finRange 36) (Alloc.start n caps) hstart
    fun b _ => by simp [Alloc.start]
  have hfloor : ∀ x : Bay, 0 < inp[x].tier.rank →
      ((List.finRange 36).foldl (Alloc.floor inp) (Alloc.start n caps)).grants[x] = 0 := by
    intro x hx
    rw [hg.others x fun he => by rw [he] at hx; exact absurd hx (by decide)]
    simp [Alloc.start]
  have h0 : ((List.finRange 36).foldl (Alloc.floor inp) (Alloc.start n caps)).Served inp Tier.session.rank :=
    ⟨fun x _ hx => hfloor x hx, .inr fun b hb => absurd hb (by simp [Tier.rank]), fun b x hlt hpos => by
      rw [hfloor x (by omega)] at hpos; exact absurd hpos (by simp)⟩
  have step : ∀ (t : Tier) (a : Alloc), a.Sound n caps inp ∧ a.Served inp t.rank →
      (a.fillTier inp t a.remaining).Sound n caps inp ∧ (a.fillTier inp t a.remaining).Served inp (t.rank + 1) :=
    fun t a h => ⟨(fillTier_sound t _ a h.1 le_rfl).1, fillTier_served t a h.1 h.2⟩
  unfold allocate tierOrder
  dsimp only [List.foldl_cons, List.foldl_nil]
  generalize (List.finRange 36).foldl (Alloc.floor inp) (Alloc.start n caps) = a at hs h0
  have h1 : Alloc.Sound n caps inp _ ∧ Alloc.Served inp Tier.due.rank _ := step .session a ⟨hs, h0⟩
  have h2 : Alloc.Sound n caps inp _ ∧ Alloc.Served inp Tier.low.rank _ := step .due _ h1
  have h3 : Alloc.Sound n caps inp _ ∧ Alloc.Served inp Tier.normal.rank _ := step .low _ h2
  have h4 : Alloc.Sound n caps inp _ ∧ Alloc.Served inp Tier.topped.rank _ := step .normal _ h3
  exact step .topped _ h4

end

/-- No grant exceeds its want (R44). -/
theorem allocate_le_want (n : Nat) (caps : Vector Nat 6) (inp : Vector PassInput 36) (b : Bay) :
    (allocate n caps inp).grants[b] ≤ inp[b].want := (allocate_served n caps inp).1.want b

/-- Settles O12: the amounts of a pass add up (`Alloc.Sound`), and the tiers are served in order (`Alloc.Served`). -/
theorem allocationLaws : Obligations.AllocationLaws := by
  intro n caps inp a ha
  obtain ⟨hs, hv⟩ := allocate_served n caps inp
  rw [← ha] at hs hv
  have hdone : ∀ b : Bay, a.done inp b → a.grants[b] = inp[b].want ∨
      (∑ x : Bay, if shelfOf x = shelfOf b then a.grants[x] else 0) = caps[shelfOf b] := by
    intro b hb
    refine hb.imp_right fun h0 => ?_
    have := hs.shelf (shelfOf b)
    omega
  refine ⟨?_, fun h => ?_, hs.want, ?_, fun hr b => hdone b ?_, fun b x hlt hpos => hdone b (hv.order b x hlt hpos)⟩
  · have := hs.total
    omega
  · have := hs.shelf h
    omega
  · have := hs.total
    omega
  · exact hv.earlier.resolve_left (by omega) b (by cases inp[b].tier <;> decide)

end Sys2Proof.Machine
end

section
/-! PROOF. The laws of the stored bytes, of the order lists and of the active bank (R94, R95, R160, R163), kept by every
step: a command whose frame leaves the part alone keeps its law; the others are the write bursts, the resets, the
commands on a list and the orders. -/

namespace Sys2Proof.Machine

-- One declaration after the other: the check compiles the whole text within a memory bound.
set_option Elab.async false

/-! ## The state after power-on -/

theorem wantOf_eq_zero {s : State} {b : Bay} (h : s.bmon[b].occupancy.attached = false ∨ s.bmon[b].door = .opened ∨
    (s.cctl[b].state ≠ .negotiating ∧ s.cctl[b].state ≠ .delivering)) (t : Tier) : s.wantOf b t = 0 := by
  refine if_neg fun hc => ?_
  simp only [Bool.and_eq_true, Bool.or_eq_true, beq_iff_eq] at hc
  obtain ⟨⟨ha, hd⟩, hs⟩ := hc
  rcases h with h | h | ⟨h1, h2⟩
  · rw [ha] at h; exact absurd h (by simp)
  · rw [hd] at h; exact absurd h (by simp)
  · exact hs.elim h1 h2

theorem passInputs_want (s : State) (b : Bay) : s.passInputs[b].want = s.wantOf b (s.tierOf b) := by
  simp [State.passInputs]

theorem passInputs_tier (s : State) (b : Bay) : s.passInputs[b].tier = s.tierOf b := by
  simp [State.passInputs]

/-- A bay that wants nothing is granted nothing (R44). -/
theorem grant_eq_zero {s : State} {b : Bay} (h : s.wantOf b (s.tierOf b) = 0) (n : Nat) (caps : Vector Nat 6) :
    (allocate n caps s.passInputs).grants[b] = 0 := by
  have := allocate_le_want n caps s.passInputs b
  rw [passInputs_want, h] at this
  omega

theorem reset_entry (b : Bay) : State.reset.bmon[b] = BayEntry.reset := by simp [State.reset]
theorem reset_charge (b : Bay) : State.reset.cctl[b] = ChargeBay.reset := by simp [State.reset]
theorem reset_powerBay (b : Bay) : State.reset.palloc.bays[b] = PowerBay.reset := by simp [State.reset, PAlloc.reset]
theorem reset_record (b : Bay) : State.reset.psched.records[b] = ProvRecord.reset := by
  simp [State.reset, PSched.reset]
theorem reset_session (c : Chan) : State.reset.psched.channels[c].session = none := by
  simp [State.reset, PSched.reset]
theorem reset_reservation (b : Bay) : State.reset.acc.reservations[b] = none := by simp [State.reset, Acc.reset]
theorem reset_slot (i : Fin 48) : State.reset.cust.slots[i].record = none := by simp [State.reset, Cust.reset]

/-- A channel that no session holds is no bay's channel. -/
theorem channelOf_eq_none {p : PSched} {b : Bay}
    (h : ∀ (c : Chan) (x : Session), p.channels[c].session = some x → x.bay ≠ b) : p.channelOf b = none := by
  refine List.find?_eq_none.mpr fun c _ => ?_
  split
  · next x hx => simpa using h c x hx
  · simp

theorem reset_settled : State.reset.settled := by
  have hw : ∀ (b : Bay) (t : Tier), State.reset.wantOf b t = 0 := fun b t =>
    wantOf_eq_zero (.inl (by rw [reset_entry]; rfl)) t
  have ht : ∀ b : Bay, State.reset.tierOf b = .low := by
    intro b
    have hc : State.reset.psched.channelOf b = none :=
      channelOf_eq_none fun c x hx => by rw [reset_session] at hx; exact absurd hx (by simp)
    unfold State.tierOf State.reservationTest
    rw [hc, reset_reservation, reset_powerBay, reset_entry]
    rfl
  refine ⟨by decide, fun b => ?_⟩
  rw [reset_powerBay, grant_eq_zero (hw b _), hw, ht]
  exact ⟨rfl, rfl, rfl⟩

/-- Settles O3: at power-on no bay has power, a want, a session, a place in the queue or a record. -/
theorem resetMeetsTheLaws : Obligations.ResetMeetsTheLaws := by
  refine ⟨⟨List.Pairwise.nil, fun c hc => absurd hc (by simp [State.reset, Swm.reset])⟩, fun b => ?_, reset_settled,
    (by unfold State.listsGood; decide), ?_, fun i j x y _ hx => ?_, fun k hk => ?_⟩
  · rw [reset_charge, reset_powerBay]
    exact ⟨le_rfl, rfl, fun _ => rfl, fun _ => rfl⟩
  · have hs : ∀ {c : Chan} {x : Session}, State.reset.psched.channels[c].session ≠ some x := fun {c x} h => by
      rw [reset_session] at h; exact absurd h (by simp)
    refine ⟨List.nodup_nil, fun b => ?_, fun c x h => absurd h hs, fun c d x y h => absurd h hs, fun b h => ?_,
      fun b h => ?_⟩
    · rw [reset_record]
      exact ⟨fun h => absurd h (by simp [State.reset, PSched.reset]), fun h => absurd h (by decide)⟩
    · rw [reset_record] at h; exact absurd h (by decide)
    · rw [reset_entry] at h; exact absurd h (by decide)
  · rw [reset_slot] at hx; exact absurd hx (by simp)
  · exact absurd hk (by simp [State.reset, Acc.reset])

/-! ## The stored bytes (O4) -/

theorem memGood_of_frame {s t : State} {l : List Part} (h : s.changedOnly l t) (hl : Part.stored ∉ l)
    (hs : s.memGood) : t.memGood := by
  have hm : t.swm.mem = s.swm.mem := (h .stored hl).1
  unfold State.memGood
  rw [hm]
  exact hs

/-- No owner writes a stored byte. -/
theorem owner_mem (k : OrderKind) (off : Nat) (s : State) : (k.owner off s).1.swm.mem = s.swm.mem :=
  (owner_frame k off s .stored (by cases k <;> decide)).1

/-- No owner touches the lists. -/
theorem owner_owalk (k : OrderKind) (off : Nat) (s : State) : (k.owner off s).1.owalk = s.owalk :=
  owner_frame k off s .lists (by cases k <;> decide)

theorem answered_mem (i : ListId) (off n : Nat) (l : Half) (a : Answer) (s : State) :
    (answered i off n l a s).swm.mem = (writeAnswer off a s).swm.mem := rfl

theorem answered_memGood (i : ListId) (off n : Nat) (l : Half) (a : Answer) {s : State} (h : s.memGood) :
    (answered i off n l a s).memGood := by
  unfold State.memGood
  rw [answered_mem]
  exact wf_writeAnswer off a s h

theorem dispatch_memGood (k : OrderKind) {s : State} (h : s.memGood) : (dispatch k k.owner s).memGood := by
  rcases dispatch_cases k k.owner s with hd | ⟨i, off, n, -, hd⟩ <;> rw [hd]
  · exact h
  · exact answered_memGood i off n _ _ (memGood_of_frame (owner_frame k off s) (by cases k <;> decide) h)

theorem partReset_mem (k : ResetCause) (s : State) : (partReset k s).swm.mem = s.swm.mem := by
  simp [partReset, clearCounts, Swm.partReset]

theorem partReset_memGood (k : ResetCause) {s : State} (h : s.memGood) : (partReset k s).memGood := by
  unfold State.memGood
  rw [partReset_mem]
  exact h

theorem cutBurst_memGood (w : Option Burst) {s : State} (h : s.memGood) : (cutBurst w s).memGood := by
  unfold cutBurst
  repeat' split
  · exact wf_landBytes _ s h
  all_goals exact h

theorem writeBurst_memGood (w : Burst) {s : State} (h : s.memGood) : (writeBurst w s).memGood := by
  unfold writeBurst
  split
  · exact memGood_of_frame (watchEvents_frame _ _) (by decide)
      (memGood_of_frame (recordHit_frame _ _) (by decide) (wf_landBytes _ s h))
  · exact h

theorem notDispatched_memGood {s : State} (h : s.memGood) : (notDispatched s).memGood := by
  have hf : ∀ (i : ListId) (c : ListFault) (o : Half), (endFault i c o s).memGood := fun i c o =>
    memGood_of_frame (endFault_frame i c o s) (by decide) h
  unfold notDispatched
  split
  · exact h
  · dsimp only
    split
    · exact hf _ _ _
    · unfold notPosted
      dsimp only
      split
      · exact hf _ _ _
      · exact memGood_of_frame (setList_frame _ _ s) (by decide) h
    · exact hf _ _ _
    · exact answered_memGood _ _ _ _ _ h
    · exact h
    · exact h

theorem powerUp_mem (s : State) : (powerUp s).swm.mem = [] := by
  simp [powerUp, clearCounts, State.reset, Swm.reset]

theorem exec_next_eq {i : Instr} {s t u : State} (h : exec i s = .next t) (hu : exec i s = .next u) : t = u := by
  rw [hu, Host.Outcome.next.injEq] at h
  exact h.symm

/-- A command is an order, or a command that no owner decides. -/
theorem order_or_own (i : Instr) : (∃ k : OrderKind, i = k.command) ∨ orderOf i = none := by
  cases hk : orderOf i with
  | none => exact .inr rfl
  | some k => exact .inl ⟨k, by cases i <;> simp [orderOf] at hk <;> subst hk <;> rfl⟩

theorem writeRegister_cases (n : Byte) (data : List Byte) (s : State) :
    writeRegister n data s = s ∨ writeRegister n data s = partReset .control s := by
  unfold writeRegister
  split
  · exact .inr rfl
  · exact .inl rfl

/-- A law about stored bytes or lists is kept by every command if the orders keep it, and the commands that are no
order and may change what it is about. -/
theorem exec_keeps_of_parts {P : State → Prop} {l : List Part}
    (hframe : ∀ (s t : State) (m : List Part), s.changedOnly m t → (∀ x ∈ l, x ∉ m) → P s → P t)
    (horder : ∀ (k : OrderKind) (s : State), P s → P (dispatch k k.owner s))
    (hown : ∀ (i : Instr) (s t : State), orderOf i = none → (∃ x ∈ l, x ∈ partsOf i) → P s → exec i s = .next t → P t)
    (i : Instr) (s t : State) (hs : P s) (h : exec i s = .next t) : P t := by
  rcases order_or_own i with ⟨k, rfl⟩ | hi
  · rw [exec_command, Host.Outcome.next.injEq] at h
    exact h ▸ horder k s hs
  · by_cases hp : ∃ x ∈ l, x ∈ partsOf i
    · exact hown i s t hi hp hs h
    · exact hframe s t _ (exec_next h) (fun x hx hm => hp ⟨x, hx, hm⟩) hs

/-- Orders write an answer into canonical bytes, bursts land byte by byte, resets keep or clear the memory, and no
other command stores a byte. -/
theorem exec_memGood : ∀ (i : Instr) (s t : State), s.memGood → exec i s = .next t → t.memGood := by
  refine exec_keeps_of_parts (l := [.stored]) ?_ (fun k s h => dispatch_memGood k h) ?_
  · exact fun s t m h hm => memGood_of_frame h (hm _ (by simp))
  · intro i s t hi hp hs h
    cases i with
    | powerOn =>
      rw [exec_next_eq h rfl]
      unfold State.memGood
      rw [powerUp_mem]
      exact ⟨List.Pairwise.nil, fun c hc => absurd hc (by simp)⟩
    | resetnPartReset cut => rw [exec_next_eq h rfl]; exact partReset_memGood _ (cutBurst_memGood cut hs)
    | controlPartReset ds => rw [exec_next_eq h rfl]; exact partReset_memGood _ hs
    | registerWrite n data =>
      rw [exec_next_eq h rfl]
      rcases writeRegister_cases n data s with hw | hw <;> rw [hw]
      · exact hs
      · exact partReset_memGood _ hs
    | memoryWrite w => rw [exec_next_eq h rfl]; exact writeBurst_memGood w hs
    | recordNotDispatched => rw [exec_next_eq h rfl]; exact notDispatched_memGood hs
    | _ => first | exact absurd hi (by decide) | exact absurd hp (by dsimp only [partsOf]; decide)

/-- Settles O4. -/
theorem everyStepKeepsMemoryCanonical : Obligations.EveryStepKeepsMemoryCanonical :=
  step_keeps (fun _ _ h => h) (fun _ _ h => h) exec_memGood

end Sys2Proof.Machine
end

section
/-! PROOF. The law of the order lists (R163) over every step: a list starts only where the other is not walked, and a
list that ends is not walked. -/

namespace Sys2Proof.Machine

-- One declaration after the other: the check compiles the whole text within a memory bound.
set_option Elab.async false

/-! ## One list walked (O7) -/

theorem otherList_ne (i : ListId) : otherList i ≠ i := by
  revert i; decide

@[simp] theorem otherList_otherList (i : ListId) : otherList (otherList i) = i := by
  revert i; decide

theorem list_otherList_otherList (v : Vector OrderList 2) (i : ListId) : v[otherList (otherList i)] = v[i] :=
  congrArg (fun j : ListId => v[j]) (otherList_otherList i)

theorem raise_list (x : Notice) (s : State) (i : ListId) : (raise x s).owalk[i] = s.owalk[i] := by
  simp

theorem raiseOrderFault_list (s : State) (i : ListId) : (raiseOrderFault s).owalk[i] = s.owalk[i] := by
  simp

theorem eq_or_eq_otherList (i j : ListId) : j = i ∨ j = otherList i := by
  revert i j; decide

theorem listsGood_iff (s : State) (i : ListId) :
    s.listsGood ↔ ¬(s.owalk[i].walking = true ∧ s.owalk[otherList i].walking = true) := by
  rcases eq_or_eq_otherList 0 i with rfl | rfl
  · exact Iff.rfl
  · exact not_congr and_comm

theorem listsGood_of_not_walking {s : State} (i : ListId) (h : s.owalk[i].walking = false) : s.listsGood := by
  rw [listsGood_iff s i, h]
  exact fun hc => absurd hc.1 (by decide)

theorem listsGood_of_owalk {s t : State} (h : t.owalk = s.owalk) (hs : s.listsGood) : t.listsGood := by
  unfold State.listsGood
  rw [h]
  exact hs

theorem listsGood_of_frame {s t : State} {l : List Part} (h : s.changedOnly l t) (hl : Part.lists ∉ l)
    (hs : s.listsGood) : t.listsGood :=
  listsGood_of_owalk (h .lists hl) hs

theorem setList_self (i : ListId) (l : OrderList) (s : State) : (s.setList i l).owalk[i] = l := by
  simp

theorem setList_other (i : ListId) (l : OrderList) (s : State) :
    (s.setList i l).owalk[otherList i] = s.owalk[otherList i] := by
  rw [setList_owalk, getElem_set_fin, if_neg (otherList_ne i)]

/-- A list may be set as long as it is not walked where it was not before. -/
theorem listsGood_setList {i : ListId} {l : OrderList} {s : State} (hs : s.listsGood)
    (hl : l.walking = true → s.owalk[i].walking = true) : (s.setList i l).listsGood := by
  rw [listsGood_iff _ i, setList_self, setList_other]
  exact fun hc => (listsGood_iff s i).mp hs ⟨hl hc.1, hc.2⟩

theorem not_walking_of_state {l : OrderList} {x : ListState} (h : l.state = x) (hr : x ≠ .running)
    (hs : x ≠ .stalled) : l.walking = false := by
  unfold OrderList.walking
  rw [h]
  cases x <;> first | rfl | exact absurd rfl hr | exact absurd rfl hs

theorem runList_other (i : ListId) (s : State) : (runList i s).owalk[otherList i] = s.owalk[otherList i] := by
  unfold runList
  dsimp only
  split
  · exact (raise_list _ _ _).trans (setList_other _ _ _)
  · exact setList_other _ _ _

/-- What starting an ARMED list in turn keeps: the list `i` starts where the other one is not walked. -/
theorem startArmed_listsGood (n : Nat) (i : ListId) (s : State) (h : s.owalk[otherList i].walking = false) :
    (startArmed n i s).listsGood := by
  induction n generalizing i s with
  | zero => exact listsGood_of_not_walking _ h
  | succ n ih =>
    unfold startArmed
    split
    · dsimp only
      split
      · next hd => exact ih _ _ (by
          rw [list_otherList_otherList]; exact not_walking_of_state hd (by decide) (by decide))
      · exact listsGood_of_not_walking (otherList i) (by rw [runList_other]; exact h)
    · exact listsGood_of_not_walking _ h

theorem endDone_listsGood (i : ListId) (s : State) : (endDone i s).listsGood := by
  refine startArmed_listsGood _ _ _ ?_
  rw [list_otherList_otherList, raise_list, setList_self]
  rfl

theorem endFault_listsGood (i : ListId) (c : ListFault) (o : Half) (s : State) : (endFault i c o s).listsGood := by
  refine startArmed_listsGood _ _ _ ?_
  rw [list_otherList_otherList, raiseOrderFault_list, setList_self]
  rfl

theorem arm_listsGood (i : ListId) {s : State} (hs : s.listsGood) : (arm i s).listsGood := by
  have hstart : ∀ l : OrderList, (if s.owalk[otherList i].walking then s.setList i { l with state := .armed }
      else if (runList i (s.setList i l)).owalk[i].state = .done then
        startArmed 2 (otherList i) (runList i (s.setList i l)) else runList i (s.setList i l)).listsGood := by
    intro l
    split
    · exact listsGood_setList hs (fun h => absurd h Bool.false_ne_true)
    · next ho =>
      split
      · next hd => exact startArmed_listsGood _ _ _ (by
          rw [list_otherList_otherList]; exact not_walking_of_state hd (by decide) (by decide))
      · exact listsGood_of_not_walking (otherList i) (by rw [runList_other, setList_other]; simpa using ho)
  unfold arm
  dsimp only
  split
  · exact hstart _
  · exact hstart _
  · exact hstart _
  · next hst => exact listsGood_setList hs (fun _ => by unfold OrderList.walking; rw [hst]; rfl)
  · exact hs
  · exact hs

theorem abort_listsGood (i : ListId) {s : State} (hs : s.listsGood) : (abort i s).listsGood := by
  unfold abort
  dsimp only
  split
  · exact endFault_listsGood _ _ _ _
  · exact endFault_listsGood _ _ _ _
  · exact listsGood_setList hs (fun h => absurd h Bool.false_ne_true)
  all_goals exact hs

theorem listCommand_listsGood (i : ListId) (v : Byte) {s : State} (hs : s.listsGood) :
    (listCommand i v s).listsGood := by
  unfold listCommand
  split
  · exact arm_listsGood i hs
  · split
    · exact abort_listsGood i hs
    · exact hs

theorem land_state (l : OrderList) (p : Nat) (v : Byte) : (l.land p v).state = l.state := by
  unfold OrderList.land
  split <;> rfl

theorem land_listsGood (a : Nat) (v : Byte) {s : State} (hs : s.listsGood) : (land a v s).listsGood := by
  have hset : ∀ (i : ListId) (p : Nat), (s.setList i (s.owalk[i].land p v)).listsGood := fun i p =>
    listsGood_setList hs (by unfold OrderList.walking; rw [land_state]; exact id)
  unfold land
  repeat' split
  · exact hset 0 _
  · exact hset 1 _
  all_goals exact hs

theorem landBytes_listsGood (bs : List (Nat × Byte)) {s : State} (hs : s.listsGood) : (landBytes bs s).listsGood := by
  unfold landBytes
  generalize bs.filter _ = xs
  induction xs generalizing s with
  | nil => exact hs
  | cons x xs ih => exact ih (land_listsGood x.1 x.2 hs)

theorem cutBurst_listsGood (w : Option Burst) {s : State} (hs : s.listsGood) : (cutBurst w s).listsGood := by
  unfold cutBurst
  repeat' split
  · exact landBytes_listsGood _ hs
  all_goals exact hs

theorem watch_listsGood {f : Byte → State → State} (bs : List (Nat × Byte)) (a : Nat) {s : State}
    (hf : ∀ v, (f v s).listsGood) (hs : s.listsGood) : (watch bs a f s).listsGood := by
  unfold watch
  split
  · exact hf _
  · exact hs

theorem writeBurst_listsGood (w : Burst) {s : State} (hs : s.listsGood) : (writeBurst w s).listsGood := by
  unfold writeBurst
  split
  · have hl : (recordHit (s.firstHit (burstBytes w)) (landBytes (burstBytes w) s)).listsGood :=
      listsGood_of_frame (recordHit_frame _ _) (by decide) (landBytes_listsGood _ hs)
    have h0 := watch_listsGood (burstBytes w) (listStateAt 0) (fun v => listCommand_listsGood 0 v hl) hl
    have h1 := watch_listsGood (burstBytes w) (listStateAt 1) (fun v => listCommand_listsGood 1 v h0) h0
    have h2 := watch_listsGood (burstBytes w) endWordAt (f := fun v s => s.withNctl (s.nctl.endWord v))
      (fun v => listsGood_of_owalk rfl h1) h1
    exact watch_listsGood (burstBytes w) heartbeatAt (f := fun _ => heartbeat)
      (fun v => listsGood_of_frame (heartbeat_frame _) (by decide) h2) h2
  · exact hs

theorem partReset_owalk (k : ResetCause) (s : State) :
    (partReset k s).owalk = Vector.replicate 2 OrderList.reset := by
  simp [partReset, clearCounts]

theorem powerUp_owalk (s : State) : (powerUp s).owalk = Vector.replicate 2 OrderList.reset := by
  simp [powerUp, clearCounts, State.reset]

theorem listsGood_of_reset {s : State} (h : s.owalk = Vector.replicate 2 OrderList.reset) : s.listsGood :=
  listsGood_of_not_walking 0 (by rw [h]; rfl)

theorem answered_listsGood {i : ListId} {off n : Nat} {k : Half} {a : Answer} {s : State} (hs : s.listsGood) :
    (answered i off n k a s).listsGood :=
  listsGood_setList (s := writeAnswer off a s) hs (fun h => h)

theorem dispatch_listsGood (k : OrderKind) {s : State} (hs : s.listsGood) : (dispatch k k.owner s).listsGood := by
  rcases dispatch_cases k k.owner s with hd | ⟨i, off, n, -, hd⟩ <;> rw [hd]
  · exact hs
  · exact answered_listsGood (listsGood_of_owalk (owner_owalk k off s) hs)

/-- The list found RUNNING is being walked. -/
theorem runningList_state {s : State} {i : ListId} (h : s.runningList = some i) : s.owalk[i].state = .running := by
  have := List.find?_some h
  simpa using this

theorem notDispatched_listsGood {s : State} (hs : s.listsGood) : (notDispatched s).listsGood := by
  unfold notDispatched
  split
  · exact hs
  · next i hi =>
    dsimp only
    split
    · exact endFault_listsGood _ _ _ _
    · unfold notPosted
      dsimp only
      split
      · exact endFault_listsGood _ _ _ _
      · exact listsGood_setList hs (fun _ => by unfold OrderList.walking; rw [runningList_state hi]; rfl)
    · exact endFault_listsGood _ _ _ _
    · exact answered_listsGood hs
    · exact hs
    · exact hs

/-- Settles O7: ARM, ABORT and the walker's own ends start a list only beside one that is not walked. -/
theorem everyStepKeepsOneListWalked : Obligations.EveryStepKeepsOneListWalked := by
  refine step_keeps (fun s n h => h) (fun s q h => h) (exec_keeps_of_parts (l := [.lists]) ?_
    (fun k s h => dispatch_listsGood k h) ?_)
  · exact fun s t m h hm => listsGood_of_frame h (hm _ (by simp))
  · intro i s t hi hp hs h
    cases i with
    | powerOn => rw [exec_next_eq h rfl]; exact listsGood_of_reset (powerUp_owalk s)
    | resetnPartReset cut => rw [exec_next_eq h rfl]; exact listsGood_of_reset (partReset_owalk _ _)
    | controlPartReset ds => rw [exec_next_eq h rfl]; exact listsGood_of_reset (partReset_owalk _ _)
    | registerWrite n data =>
      rw [exec_next_eq h rfl]
      rcases writeRegister_cases n data s with hw | hw <;> rw [hw]
      · exact hs
      · exact listsGood_of_reset (partReset_owalk _ _)
    | memoryWrite w => rw [exec_next_eq h rfl]; exact writeBurst_listsGood w hs
    | stallTimerExpiry i =>
      rw [exec_next_eq h rfl]
      unfold stallExpires
      split
      · exact endFault_listsGood _ _ _ _
      · exact hs
    | recordNotDispatched => rw [exec_next_eq h rfl]; exact notDispatched_listsGood hs
    | linkOf0Followed =>
      rw [exec_next_eq h rfl]
      unfold chainEnds
      repeat' split
      · exact endDone_listsGood _ _
      all_goals exact hs
    | _ => first | exact absurd hi (by decide) | exact absurd hp (by dsimp only [partsOf]; decide)

end Sys2Proof.Machine
end

section
/-! PROOF. The law of the active bank (R94, R95, R160) over every step: what a commit puts in force has been tested, and
the bytes of the active bank are out of reach of the port and of the answers of the walker. -/

namespace Sys2Proof.Machine

-- One declaration after the other: the check compiles the whole text within a memory bound.
set_option Elab.async false

/-! ## What the entries in force depend on -/

/-- The stored bytes of a bank are the same in two memories. -/
def Bank.sameBytes (k : Bank) (m m' : List Host.Cell) : Prop :=
  ∀ a : Nat, k.base ≤ a → a < k.base + 0x2000 → Memory.read m' a = Memory.read m a

theorem field_congr {m m' : List Host.Cell} {a n : Nat}
    (h : ∀ i, i < n → Memory.read m' (a + i) = Memory.read m (a + i)) :
    Memory.field m' a n = Memory.field m a n := by
  unfold Memory.field Memory.bytes
  exact congrArg leNat (List.map_congr_left fun i hi => h i (List.mem_range.mp hi))

theorem credentialAt_congr {k : Bank} {m m' : List Host.Cell} (h : k.sameBytes m m') {j : Nat} (hj : j < 512) :
    credentialAt m' k j = credentialAt m k j := by
  have hr : ∀ i, i < 16 → Memory.read m' (k.base + 16 * j + i) = Memory.read m (k.base + 16 * j + i) := fun i hi =>
    h _ (by omega) (by omega)
  unfold credentialAt
  rw [field_congr (n := 8) fun i hi => hr i (by omega), hr 8 (by omega), hr 9 (by omega), hr 10 (by omega),
    hr 11 (by omega)]

theorem find?_congr_range {p q : Nat → Bool} {n : Nat} (h : ∀ i, i < n → p i = q i) :
    (List.range n).find? p = (List.range n).find? q := by
  induction n with
  | zero => rfl
  | succ n ih => rw [List.range_succ, List.find?_append, List.find?_append, ih fun i hi => h i (by omega),
      List.find?_singleton, List.find?_singleton, h n (by omega)]

theorem firstBadEntry_congr {k : Bank} {m m' : List Host.Cell} (h : k.sameBytes m m') {n : Nat} (hn : n ≤ 480) :
    firstBadEntry m' k n = firstBadEntry m k n := by
  unfold firstBadEntry
  refine find?_congr_range fun j hj => ?_
  have hb : tokenBefore m' k j = tokenBefore m k j := by
    unfold tokenBefore
    rw [credentialAt_congr h (by omega)]
  rw [credentialAt_congr h (by omega), hb]

/-- The law of the active bank carries over to a state with the same bank in force and the same bytes in it. -/
theorem bankGood_congr {s t : State} (hb : t.acc.activeBank = s.acc.activeBank)
    (hc : t.acc.activeCount = s.acc.activeCount)
    (hm : ∀ k, s.acc.activeBank = some k → k.sameBytes s.swm.mem t.swm.mem) (hs : s.bankGood) : t.bankGood := by
  intro k hk
  rw [hb] at hk
  obtain ⟨h480, hnone⟩ := hs k hk
  rw [hc]
  exact ⟨h480, (firstBadEntry_congr (hm k hk) h480).trans hnone⟩

theorem bankGood_of_frame {s t : State} {l : List Part} (h : s.changedOnly l t) (ha : Part.access ∉ l)
    (hl : Part.stored ∉ l) (hs : s.bankGood) : t.bankGood := by
  obtain ⟨hb, hc, -, -⟩ := h .access ha
  exact bankGood_congr hb hc (fun k _ a _ _ => (h .stored hl).2 a) hs

/-! ## Bytes that land -/

theorem land_mem (a : Nat) (v : Byte) (s : State) :
    (land a v s).swm.mem = if a < 0x1800 then s.swm.mem else Memory.write s.swm.mem a v := by
  unfold land
  by_cases h : a < 0x1800
  · rw [if_pos h]
    repeat' split
    all_goals rfl
  · rw [if_neg h, if_neg (by omega), if_neg (by omega), if_neg (by unfold endWordAt; omega),
      if_neg (by unfold heartbeatAt; omega), if_neg h]
    rfl

theorem read_land {s : State} (hs : s.memGood) (a : Nat) (v : Byte) (x : Nat) :
    Memory.read (land a v s).swm.mem x = if x = a ∧ 0x1800 ≤ a then v else Memory.read s.swm.mem x := by
  rw [land_mem]
  by_cases h : a < 0x1800
  · rw [if_pos h, if_neg (by omega)]
  · rw [if_neg h, Memory.read_write hs]
    by_cases hx : x = a
    · rw [if_pos hx, if_pos ⟨hx, by omega⟩]
    · rw [if_neg hx, if_neg (fun h => hx h.1)]

theorem lands_memGood {xs : List (Nat × Byte)} {s : State} (hs : s.memGood) :
    (xs.foldl (fun t x => land x.1 x.2 t) s).memGood := by
  induction xs generalizing s with
  | nil => exact hs
  | cons y ys ih => exact ih (wf_land y.1 y.2 s hs)

/-- A stored byte that no landing byte of a burst addresses stays. -/
theorem read_lands_of_ne {xs : List (Nat × Byte)} {s : State} (hs : s.memGood) {a : Nat}
    (h : ∀ x ∈ xs, x.1 ≠ a) :
    Memory.read (xs.foldl (fun t x => land x.1 x.2 t) s).swm.mem a = Memory.read s.swm.mem a := by
  induction xs generalizing s with
  | nil => rfl
  | cons x xs ih =>
    refine (ih (wf_land x.1 x.2 s hs) fun y hy => h y (List.mem_cons_of_mem _ hy)).trans ?_
    rw [read_land hs, if_neg fun hc => h x List.mem_cons_self hc.1.symm]

/-- A stored byte that the guard does not let be written stays (R160). -/
theorem read_landBytes_guarded {bs : List (Nat × Byte)} {s : State} (hs : s.memGood) {a : Nat}
    (h : ∀ v, s.mayWrite a v = false) :
    Memory.read (landBytes bs s).swm.mem a = Memory.read s.swm.mem a := by
  refine read_lands_of_ne hs fun x hx he => ?_
  have := (List.mem_filter.mp hx).2
  rw [he, h] at this
  exact absurd this (by decide)

/-- The guard keeps the bytes of the active bank (R160). -/
theorem mayWrite_activeBank {s : State} {k : Bank} (h : s.acc.activeBank = some k) {a : Nat} (hlo : k.base ≤ a)
    (hhi : a < k.base + 0x2000) (v : Byte) : s.mayWrite a v = false := by
  unfold State.mayWrite
  cases k
  · simp only [Bank.base] at hlo hhi
    simp only [h, show ¬a < 0x0100 by omega, show ¬a < 0x0120 by omega, show ¬a < 0x0140 by omega,
      show ¬a < 0x0200 by omega, show ¬a < 0x1100 by omega, show ¬a < 0x1700 by omega, show ¬a < 0x1800 by omega,
      show ¬a < 0x3800 by omega, show a < 0x5800 by omega, if_true, if_false, bne_self_eq_false]
  · simp only [Bank.base] at hlo hhi
    simp only [h, show ¬a < 0x0100 by omega, show ¬a < 0x0120 by omega, show ¬a < 0x0140 by omega,
      show ¬a < 0x0200 by omega, show ¬a < 0x1100 by omega, show ¬a < 0x1700 by omega, show ¬a < 0x1800 by omega,
      show ¬a < 0x3800 by omega, show ¬a < 0x5800 by omega, show a < 0x7800 by omega, if_true, if_false,
      bne_self_eq_false]

theorem landBytes_bankGood (bs : List (Nat × Byte)) {s : State} (hm : s.memGood) (hs : s.bankGood) :
    (landBytes bs s).bankGood := by
  obtain ⟨hb, hc, -, -⟩ := landBytes_frame bs s .access (by decide)
  exact bankGood_congr hb hc (fun k hk a hlo hhi => read_landBytes_guarded hm (mayWrite_activeBank hk hlo hhi)) hs

/-! ## Answers -/

/-- A record that the walker answers lies in the order area (R166). -/
theorem arrivalOf_bounds {s : State} {l : OrderList} (h : (∃ k n, s.arrivalOf l = .order k n) ∨
    ∃ a n, s.arrivalOf l = .refused a n) : 0x1800 ≤ l.next.toNat ∧ l.next.toNat + 15 < 0x3800 := by
  by_cases hb : l.next.toNat < 0x1800 ∨ 0x37FF < l.next.toNat ∨ l.next.toNat % 16 ≠ 0
  · unfold State.arrivalOf at h
    dsimp only at h
    rw [if_pos hb] at h
    rcases h with ⟨k, n, h⟩ | ⟨a, n, h⟩ <;> (split at h <;> exact absurd h (by simp))
  · omega

theorem reaches_bounds {s : State} {i : ListId} {k : OrderKind} {off n : Nat} (h : s.reaches i k off n) :
    0x1800 ≤ off ∧ off + 15 < 0x3800 := by
  obtain ⟨-, rfl, ha⟩ := h
  exact arrivalOf_bounds (.inl ⟨k, n, ha⟩)

/-- An answer in the order area leaves the banks alone. -/
theorem answered_bankGood {i : ListId} {off n : Nat} {k : Half} {a : Answer} {s : State} (hm : s.memGood)
    (hs : s.bankGood) (ho : off + 15 < 0x3800) : (answered i off n k a s).bankGood := by
  refine bankGood_congr (by rw [answered_acc]) (by rw [answered_acc]) (fun bank _ x hlo _ => ?_) hs
  have hbase : 0x3800 ≤ bank.base := by cases bank <;> simp [Bank.base]
  rw [answered_mem, writeAnswer_read off a s hm, if_neg (by omega), if_neg (by omega), if_neg (by omega),
    if_neg (by omega)]

/-! ## Commits -/

/-- The bank named by a code has been tested to its count when it is put in force (R94). -/
theorem orderCommitCredentials_bankGood (off : Nat) {s : State} (hs : s.bankGood) :
    (orderCommitCredentials off s).1.bankGood := by
  unfold orderCommitCredentials
  split
  · exact hs
  · dsimp only
    split
    · exact hs
    · next bank _ hroom =>
      split
      · exact hs
      · next hnone =>
        intro k hk
        have hk : some bank = some k := by simpa using hk
        obtain rfl := Option.some.inj hk
        have h480 : s.fieldN off 0x0E 2 ≤ 480 := by
          have : Config.bankRoom = 480 := rfl
          omega
        simpa using And.intro h480 hnone

theorem orderCommitWindows_bankGood (off : Nat) {s : State} (hs : s.bankGood) :
    (orderCommitWindows off s).1.bankGood := by
  unfold orderCommitWindows
  dsimp only
  split
  · exact hs
  · split
    · exact hs
    · exact bankGood_congr (by simp) (by simp) (fun k _ a _ _ => by simp) hs

theorem owner_bankGood (k : OrderKind) (off : Nat) {s : State} (hs : s.bankGood) : (k.owner off s).1.bankGood := by
  by_cases ha : Part.access ∈ k.parts
  · have hk : k = .commitCredentials ∨ k = .commitWindows := by
      revert ha; cases k <;> decide
    rcases hk with rfl | rfl
    · exact orderCommitCredentials_bankGood off hs
    · exact orderCommitWindows_bankGood off hs
  · exact bankGood_of_frame (owner_frame k off s) ha (by cases k <;> decide) hs

theorem dispatch_bankGood (k : OrderKind) {s : State} (hm : s.memGood) (hs : s.bankGood) :
    (dispatch k k.owner s).bankGood := by
  rcases dispatch_cases k k.owner s with hd | ⟨i, off, n, hr, hd⟩ <;> rw [hd]
  · exact hs
  · exact answered_bankGood (memGood_of_frame (owner_frame k off s) (by cases k <;> decide) hm)
      (owner_bankGood k off hs) (reaches_bounds hr).2

/-! ## The other commands -/

theorem notDispatched_bankGood {s : State} (hm : s.memGood) (hs : s.bankGood) : (notDispatched s).bankGood := by
  have hf : ∀ (i : ListId) (c : ListFault) (o : Half), (endFault i c o s).bankGood := fun i c o =>
    bankGood_of_frame (endFault_frame i c o s) (by decide) (by decide) hs
  unfold notDispatched
  split
  · exact hs
  · dsimp only
    split
    · exact hf _ _ _
    · unfold notPosted
      dsimp only
      split
      · exact hf _ _ _
      · exact bankGood_of_frame (setList_frame _ _ s) (by decide) (by decide) hs
    · exact hf _ _ _
    · next ha => exact answered_bankGood hm hs (arrivalOf_bounds (.inr ⟨_, _, ha⟩)).2
    · exact hs
    · exact hs

theorem writeBurst_bankGood (w : Burst) {s : State} (hm : s.memGood) (hs : s.bankGood) : (writeBurst w s).bankGood := by
  unfold writeBurst
  split
  · exact bankGood_of_frame (watchEvents_frame _ _) (by decide) (by decide)
      (bankGood_of_frame (recordHit_frame _ _) (by decide) (by decide) (landBytes_bankGood _ hm hs))
  · exact hs

theorem cutBurst_bankGood (w : Option Burst) {s : State} (hm : s.memGood) (hs : s.bankGood) :
    (cutBurst w s).bankGood := by
  unfold cutBurst
  repeat' split
  · exact landBytes_bankGood _ hm hs
  all_goals exact hs

theorem partReset_bankGood (k : ResetCause) {s : State} (hs : s.bankGood) : (partReset k s).bankGood := by
  refine bankGood_congr ?_ ?_ (fun _ _ a _ _ => ?_) hs
  · simp [partReset, clearCounts, Acc.partReset]
  · simp [partReset, clearCounts, Acc.partReset]
  · rw [partReset_mem]

theorem powerUp_activeBank (s : State) : (powerUp s).acc.activeBank = none := by
  simp [powerUp, clearCounts, State.reset, Acc.reset]

/-- A token changes nothing of the banks: a technician's changes SERVICE only (R116). -/
theorem tokenArrives_bankGood (token : Token) {s : State} (hs : s.bankGood) : (tokenArrives token s).bankGood := by
  have hv : ∀ v f r, (sendVerdict v f r s).bankGood := fun v f r =>
    bankGood_of_frame (sendVerdict_frame v f r s) (by decide) (by decide) hs
  unfold tokenArrives
  split
  · exact hv _ _ _
  · split
    · exact hv _ _ _
    · split
      · exact hv _ _ _
      · split
        · exact bankGood_of_frame (decideStudent_frame _ _ s) (by decide) (by decide) hs
        · exact bankGood_of_frame (decideTeacher_frame _ _ s) (by decide) (by decide) hs
        · exact bankGood_congr (by simp [decideTechnician]) (by simp [decideTechnician])
            (fun _ _ _ _ _ => by simp [decideTechnician]) hs
        · exact hv _ _ _

theorem frameComplete_bankGood (frame : List Byte) {s : State} (hs : s.bankGood) :
    (frameComplete frame s).bankGood := by
  have hd : (discardFrame s).bankGood := bankGood_congr rfl rfl (fun _ _ _ _ _ => rfl) hs
  rcases frameComplete_cases frame s with ⟨-, h⟩ | h | ⟨w, token, -, -, -, h⟩ <;> rw [h]
  · exact hs
  · exact hd
  · exact tokenArrives_bankGood token hd

theorem exec_bankGood : ∀ (i : Instr) (s t : State), s.memGood ∧ s.bankGood → exec i s = .next t →
    t.memGood ∧ t.bankGood := by
  refine exec_keeps_of_parts (l := [.stored, .access]) ?_ (fun k s h => ⟨dispatch_memGood k h.1,
    dispatch_bankGood k h.1 h.2⟩) ?_
  · exact fun s t m h hm ⟨hg, hb⟩ => ⟨memGood_of_frame h (hm _ (by simp)) hg,
      bankGood_of_frame h (hm _ (by simp)) (hm _ (by simp)) hb⟩
  · rintro i s t hi hp ⟨hm, hs⟩ h
    refine ⟨exec_memGood i s t hm h, ?_⟩
    cases i with
    | powerOn =>
      rw [exec_next_eq h rfl]
      exact fun k hk => absurd ((powerUp_activeBank s).symm.trans hk) (by simp)
    | resetnPartReset cut => rw [exec_next_eq h rfl]; exact partReset_bankGood _ (cutBurst_bankGood cut hm hs)
    | controlPartReset ds => rw [exec_next_eq h rfl]; exact partReset_bankGood _ hs
    | registerWrite n data =>
      rw [exec_next_eq h rfl]
      rcases writeRegister_cases n data s with hw | hw <;> rw [hw]
      · exact hs
      · exact partReset_bankGood _ hs
    | memoryWrite w => rw [exec_next_eq h rfl]; exact writeBurst_bankGood w hm hs
    | recordNotDispatched => rw [exec_next_eq h rfl]; exact notDispatched_bankGood hm hs
    | tokenArrival frame => rw [exec_next_eq h rfl]; exact frameComplete_bankGood frame hs
    | _ => first | exact absurd hi (by decide) | exact absurd hp (by dsimp only [partsOf]; decide)

/-- Settles O10. -/
theorem everyStepKeepsActiveBankGood : Obligations.EveryStepKeepsActiveBankGood := by
  have h := step_keeps (P := fun s => s.memGood ∧ s.bankGood) (fun s n h => h) (fun s q h => h) exec_bankGood
  exact fun s t hm hb hst => (h s t ⟨hm, hb⟩ hst).2

end Sys2Proof.Machine
end

section
/-! PROOF. The blocks' operations keep whatever their parts keep. `Steady`: a law kept by every change outside the bays,
the power and the provisioning, by a consideration of a grant, by a pass for the reserve and by the moves of custody
records; then every operation of CUST, LDRV and ACC keeps it. `Passing`: a law about power, kept by every pass; then
every operation of PSCHED keeps it too. -/

namespace Sys2Proof.Machine

-- One declaration after the other: the check compiles the whole text within a memory bound.
set_option Elab.async false

/-! ## The parts -/

/-- The parts that no law of the bays, the power, the provisioning or the custody is about. -/
abbrev quietParts : List Part :=
  [.pending, .now, .choices, .pins, .counts, .access, .reader, .collecting, .journal, .releases, .latches, .latchMode,
    .stuck, .smon, .stored, .status, .words, .guard, .lists, .notices, .portData, .verdicts]

/-- The parts that no law of the power of the bays is about. -/
abbrev movableParts : List Part :=
  .paths :: .prov :: .provSettings :: .clock :: .reservations :: .custody :: quietParts

/-- A change of a record located at a bay that leaves its tag and locates it at no other bay. -/
def KeepsPlace (b : Bay) (f : CustodyRecord → CustodyRecord) : Prop :=
  ∀ r : CustodyRecord, r.locatedAt b = true →
    (f r).tag = r.tag ∧ ∀ x : Bay, (f r).locatedAt x = true → x = b

theorem locatedAt_iff (r : CustodyRecord) (b : Bay) :
    r.locatedAt b = true ↔ (r.state = .inCart ∨ r.state = .pendingRelease) ∧ r.bay = some b := by
  simp [CustodyRecord.locatedAt]

theorem keepsPlace_toCart (b : Bay) (m : Option Nat) : KeepsPlace b (fun r => r.toCart b m) := fun _ _ =>
  ⟨rfl, fun _ hx => (Option.some.inj ((locatedAt_iff _ _).mp hx).2).symm⟩

theorem keepsPlace_toPending (b : Bay) (h : Option Token) (m : Option Nat) :
    KeepsPlace b (fun r => r.toPending h m) := fun r hr =>
  ⟨rfl, fun x hx => by
    have hb : r.bay = some b := ((locatedAt_iff _ _).mp hr).2
    have hx : r.bay = some x := ((locatedAt_iff _ _).mp hx).2
    exact Option.some.inj (hx.symm.trans hb)⟩

theorem keepsPlace_leave (b : Bay) (st : CustodyState) (h : Option Token) (m : Option Nat) :
    KeepsPlace b (fun r => r.leave st b h m) := fun _ _ =>
  ⟨rfl, fun _ hx => absurd ((locatedAt_iff _ _).mp hx).2 (by simp [CustodyRecord.leave])⟩

/-- What every operation of a fold keeps, the fold keeps. -/
theorem foldl_keeps {α : Type} {P : State → Prop} {f : State → α → State} (hf : ∀ t a, P t → P (f t a)) (xs : List α)
    {s : State} (h : P s) : P (xs.foldl f s) := by
  induction xs generalizing s with
  | nil => exact h
  | cons x xs ih => exact ih (hf _ _ h)

/-- The updates that close an event at PSCHED count only. -/
theorem pschedEvent_counts (f : State → State) (s : State) : (f s).changedOnly [.counts] (pschedEvent f s) := by
  have hb := bumpBays_frame (fun b => (f s).psched.records[b].fields != s.psched.records[b].fields) (f s)
  unfold pschedEvent
  dsimp only
  split
  · refine hb.trans ?_
    intro x hx; cases x <;> first | exact absurd (by decide) hx | simp [Part.same]
  · exact hb

/-- A session on channel `c` closed, before its pass (R78): the path unjoined, the channel IDLE, the record after its
end, and the bay at the tail of the queue if it waits. -/
def sessionClosed (c : Chan) (x : Session) (o : SessionOutcome) (reported : Half) (s : State) : State :=
  let t := unjoin x.bay (s.setChannel c { session := none, lastEnded := some { bay := x.bay, outcome := o } })
  let r := t.psched.records[x.bay].afterEnd o reported
  let t := t.setProv x.bay r
  if r.state = .waiting then t.setQueue (t.psched.queue ++ [x.bay]) else t

/-- The notices of a session end: PROV_DONE, and PROV_FAILED for a record that is FAILED (R78, R79). -/
def endNotices (r : ProvRecord) (s : State) : State :=
  if r.state = .failed then raise .provFailed (raise .provDone s) else raise .provDone s

theorem endSessionCore_idle {c : Chan} {s : State} (h : s.psched.channels[c].session = none) (o : SessionOutcome)
    (reported : Half) : endSessionCore c o reported s = s := by
  unfold endSessionCore
  rw [h]

theorem endSessionCore_busy {c : Chan} {x : Session} {s : State} (h : s.psched.channels[c].session = some x)
    (o : SessionOutcome) (reported : Half) : endSessionCore c o reported s =
      considerCore (endNotices (s.psched.records[x.bay].afterEnd o reported)
        (pass (sessionClosed c x o reported s))) := by
  have hr : (unjoin x.bay (s.setChannel c
      { session := none, lastEnded := some { bay := x.bay, outcome := o } })).psched.records[x.bay] =
      s.psched.records[x.bay] := by simp [unjoin]
  unfold endSessionCore sessionClosed endNotices
  rw [h]
  dsimp only
  rw [hr]

theorem endNotices_frame (r : ProvRecord) (s : State) : s.changedOnly [.notices] (endNotices r s) := by
  unfold endNotices
  split
  · exact (raise_frame _ s).trans (raise_frame _ _)
  · exact raise_frame _ s

theorem sessionClosed_frame (c : Chan) (x : Session) (o : SessionOutcome) (reported : Half) (s : State) :
    s.changedOnly [.prov, .paths, .counts] (sessionClosed c x o reported s) := by
  unfold sessionClosed
  dsimp only
  have hu := ((setChannel_frame c { session := none, lastEnded := some { bay := x.bay, outcome := o } } s).mono
    (m := [.prov, .paths, .counts]) (by decide)).then (unjoin_frame x.bay _)
  split
  · exact (hu.then (setProv_frame _ _ _)).then (setQueue_frame _ _)
  · exact hu.then (setProv_frame _ _ _)

/-- A law that the operations of CUST, LDRV and ACC keep. -/
structure Steady (P : State → Prop) : Prop where
  frame : ∀ {s t : State}, s.changedOnly quietParts t → P s → P t
  consider : ∀ {s : State}, P s → P (consider s)
  reserve : ∀ (r : Nat) {s : State}, P s → P (reservePass r s)
  relocate : ∀ {b : Bay} {f : CustodyRecord → CustodyRecord} {s : State}, KeepsPlace b f → P s →
    P (changeRecordAt b f s)
  place : ∀ (b : Bay) (t : Tag) {s : State}, P s → P (placeTag b t (clearBay b (some t) s))
  withdraw : ∀ (b : Bay) {s : State}, P s → P (pschedWithdraw b s)

namespace Steady
variable {P : State → Prop} (hP : Steady P)
include hP

/-- A change of few quiet parts. -/
theorem of_frame {s t : State} {l : List Part} (h : s.changedOnly l t) (hs : P s)
    (hl : l ⊆ quietParts := by decide) : P t :=
  hP.frame (h.mono hl) hs

theorem custEvent {f : State → State} {s : State} (h : P (f s)) : P (custEvent f s) :=
  hP.of_frame (bumpCart_frame _ _) h

theorem ldrvEvent {f : State → State} {s : State} (h : P (f s)) : P (ldrvEvent f s) :=
  hP.of_frame (bumpCart_frame _ _) (hP.of_frame (bumpBays_frame _ _) h)

theorem eitherOrder {f g : State → State} (hf : ∀ t, P t → P (f t)) (hg : ∀ t, P t → P (g t)) {s : State} (h : P s) :
    P (eitherOrder f g s) := by
  have hc := hP.of_frame (withChoices_frame (s.choices + 1) s) h
  unfold Machine.eitherOrder
  split
  · exact hg _ (hf _ hc)
  · exact hf _ (hg _ hc)

/-! ### CUST -/

theorem answerDeciding (b : Bay) (v : Verdict) (f : Byte) (r : Reason) {s : State} (h : P s) :
    P (answerDeciding b v f r s) :=
  hP.of_frame (answerDeciding_frame b v f r s) h

theorem fillFree (f : Fill) {s : State} (h : P s) : P (fillFree f s) :=
  hP.of_frame (fillFree_frame f s) h

theorem setRelease (b : Bay) (r : Option Release) {s : State} (h : P s) : P (s.setRelease b r) :=
  hP.of_frame (setRelease_frame b r s) h

theorem openRelease (b : Bay) (k : ReleaseKind) (holder : Option Token) {s : State} (h : P s) :
    P (openRelease b k holder s) := by
  unfold Machine.openRelease
  split
  · next i hi =>
    dsimp only
    have hp : P (s.setSlot i (s.cust.slots[i].record.map fun r => r.toPending holder s.minute)) := by
      have := hP.relocate (keepsPlace_toPending b holder s.minute) h
      unfold changeRecordAt at this
      rwa [hi] at this
    refine hP.consider (hP.setRelease b _ ?_)
    split
    · exact hP.of_frame (journalLow_frame _ _) (hP.of_frame (setJournal_frame _ _ _) hp)
    · exact hp
  · exact hP.setRelease b _ h

theorem endUnopened (b : Bay) {s : State} (h : P s) : P (endUnopened b s) := by
  unfold Machine.endUnopened
  split
  · exact h
  · next r _ =>
    split
    · dsimp only
      have hp := hP.relocate (keepsPlace_toCart b s.minute) h
      refine hP.consider (hP.setRelease b _ ?_)
      split
      · exact hP.of_frame (freeJournal_frame _ _) hp
      · exact hp
    · exact hP.setRelease b _ h

theorem custDropped (b : Bay) {s : State} (h : P s) : P (custDropped b s) := by
  unfold Machine.custDropped
  repeat' split
  · exact hP.endUnopened b h
  all_goals exact h

theorem custDoorClosed (b : Bay) {s : State} (h : P s) : P (custDoorClosed b s) := by
  unfold Machine.custDoorClosed
  repeat' split
  · exact hP.endUnopened b h
  all_goals exact h

theorem custLossAbandoned (b : Bay) {s : State} (h : P s) : P (custLossAbandoned b s) := by
  unfold Machine.custLossAbandoned
  repeat' split
  · exact hP.endUnopened b h
  all_goals exact h

theorem completeRelease (b : Bay) (r : Release) (tag : Option Tag) {s : State} (h : P s) :
    P (completeRelease b r tag s) := by
  unfold Machine.completeRelease
  refine hP.consider (hP.of_frame (raise_frame _ _) (hP.setRelease b _ ?_))
  split
  · have hp := hP.relocate (keepsPlace_leave b .out r.holder s.minute) h
    dsimp only
    split
    · exact hP.of_frame (fillHeld_frame _ _ _) hp
    · exact hp
  · exact hP.fillFree _ h

theorem custRemoval (b : Bay) {s : State} (h : P s) : P (custRemoval b s) := by
  unfold Machine.custRemoval
  split
  · exact hP.consider (hP.relocate (keepsPlace_leave b _ _ _) h)
  · exact h

theorem custDetach (b : Bay) (tag : Option Tag) {s : State} (h : P s) : P (custDetach b tag s) := by
  refine hP.custEvent ?_
  split
  · split
    · exact hP.completeRelease b _ tag h
    · exact hP.custRemoval b (hP.answerDeciding b _ _ _ (hP.endUnopened b h))
  · exact hP.custRemoval b h

theorem custForced (b : Bay) {s : State} (h : P s) : P (custForced b s) := by
  refine hP.custEvent (hP.fillFree _ ?_)
  split
  · split
    · exact hP.answerDeciding b _ _ _ (hP.endUnopened b h)
    · exact h
  · exact h

theorem clearBay (b : Bay) (tag : Option Tag) {s : State} (h : P s) : P (clearBay b tag s) := by
  unfold Machine.clearBay
  split
  · split
    · exact h
    · exact hP.relocate (keepsPlace_leave b _ _ _) h
  · exact h

theorem custTagRead (b : Bay) (t : Tag) {s : State} (h : P s) : P (custTagRead b t s) :=
  hP.custEvent (hP.consider (hP.place b t h))

theorem custOtherEntry (b : Bay) (tag : Option Tag) {s : State} (h : P s) : P (custOtherEntry b tag s) :=
  hP.custEvent (hP.consider (hP.clearBay b tag h))

/-! ### LDRV -/

theorem requestReserve {s : State} (h : P s) : P (requestReserve s) := by
  unfold Machine.requestReserve
  split
  · exact h
  · exact hP.reserve _ h

theorem returnReserve {s : State} (h : P s) : P (returnReserve s) := by
  unfold Machine.returnReserve
  split
  · exact h
  · exact hP.reserve _ h

theorem withLdrv (l : Ldrv) {s : State} (h : P s) : P (s.withLdrv l) :=
  hP.of_frame (withLdrv_frame l s) h

theorem askReserve (k : Slot) {s : State} (h : P s) : P (askReserve k s) := by
  unfold Machine.askReserve
  split
  · exact hP.withLdrv _ (hP.requestReserve h)
  · exact h

theorem startDrive (k : Slot) (b : Bay) {s : State} (h : P s) : P (startDrive k b s) :=
  hP.consider (hP.of_frame (custDriveStart_frame b _) (hP.answerDeciding b _ _ _ (hP.withLdrv _ h)))

theorem clearSlot (k : Slot) {s : State} (h : P s) : P (clearSlot k s) :=
  hP.consider (hP.withLdrv _ h)

theorem offer (n : Nat) {s : State} (h : P s) : P (offer n s) := by
  induction n generalizing s with
  | zero => exact h
  | succ n ih =>
    unfold Machine.offer
    split
    · next k b _ _ =>
      dsimp only
      have ht := hP.withLdrv (s.ldrv.dequeue b) h
      have hu := hP.startDrive k b (hP.askReserve k ht)
      split
      · exact ih ht
      · split
        · exact ih (hP.clearSlot k hu)
        · exact ih hu
    · exact h

theorem settleReserve {s : State} (h : P s) : P (settleReserve s) := by
  unfold Machine.settleReserve
  split
  · exact hP.returnReserve (hP.withLdrv _ h)
  · exact h

theorem offerAndSettle {s : State} (h : P s) : P (offerAndSettle s) :=
  hP.settleReserve (hP.offer _ h)

theorem requestDrive (b : Bay) {s : State} (h : P s) : P (requestDrive b s) :=
  hP.ldrvEvent (hP.offerAndSettle (hP.of_frame (appendRequest_frame b s) h))

theorem timeEnd (k : Slot) (d : Drive) {s : State} (h : P s) : P (timeEnd k d s) :=
  hP.ldrvEvent (hP.offerAndSettle (hP.clearSlot k (hP.of_frame (judge_frame d s) h)))

theorem ldrvDoorOpen (b : Bay) {s : State} (h : P s) : P (ldrvDoorOpen b s) := by
  unfold Machine.ldrvDoorOpen
  repeat' split
  · exact hP.ldrvEvent (hP.offerAndSettle (hP.clearSlot _ h))
  all_goals exact h

theorem reportDrop (b : Bay) (v : Verdict) (f : Byte) {s : State} (h : P s) : P (reportDrop b v f s) :=
  hP.custDropped b (hP.answerDeciding b _ _ _ h)

theorem waitExpired (b : Bay) {s : State} (h : P s) : P (waitExpired b s) :=
  hP.ldrvEvent (hP.reportDrop b _ _ (hP.withLdrv _ h))

theorem modeEnd (k : Slot) {s : State} (h : P s) : P (modeEnd k s) := by
  unfold Machine.modeEnd
  split
  · exact hP.clearSlot k h
  · exact h

theorem latchOff {s : State} (h : P s) : P (latchOff s) := by
  refine hP.ldrvEvent (hP.settleReserve (hP.eitherOrder (fun t => hP.modeEnd 0) (fun t => hP.modeEnd 1) ?_))
  exact foldl_keeps (f := fun t (r : LatchRequest) => Machine.reportDrop r.bay .denyLatch 0 t)
    (fun t r ht => hP.reportDrop r.bay _ _ ht) _ (hP.withLdrv _ h)

theorem latchWaitExpires (b : Bay) {s : State} (h : P s) : P (latchWaitExpires b s) := by
  unfold Machine.latchWaitExpires
  split
  · exact hP.waitExpired b h
  · exact h

theorem driveTimeEnds (k : Slot) {s : State} (h : P s) : P (driveTimeEnds k s) := by
  unfold Machine.driveTimeEnds
  repeat' split
  · exact hP.timeEnd k _ h
  all_goals exact h

theorem windowExpires (b : Bay) {s : State} (h : P s) : P (windowExpires b s) := by
  unfold Machine.windowExpires
  repeat' split
  · exact hP.endUnopened b h
  all_goals exact h

/-! ### ACC -/

theorem sendVerdict (v : Verdict) (f : Byte) (r : Reason) {s : State} (h : P s) : P (sendVerdict v f r s) :=
  hP.of_frame (sendVerdict_frame v f r s) h

theorem acceptStudent (b : Bay) (t : Token) {s : State} (h : P s) : P (acceptStudent b t s) :=
  hP.requestDrive b (hP.of_frame (withTransaction_frame _ _) (hP.openRelease b _ _ h))

theorem decideStudent (e : CredentialEntry) (t : Token) {s : State} (h : P s) : P (decideStudent e t s) := by
  have hv : ∀ v f r, P (Machine.sendVerdict v f r s) := fun v f r => hP.sendVerdict v f r h
  unfold Machine.decideStudent
  split
  · exact hv _ _ _
  split
  · exact hv _ _ _
  split
  · exact hv _ _ _
  split
  · exact hv _ _ _
  split
  · exact hv _ _ _
  split
  · exact hP.acceptStudent _ t h
  · exact hv _ _ _

theorem teacherEnqueue (b : Bay) (t : Token) {s : State} (h : P s) : P (teacherEnqueue b t s) := by
  have ht := hP.requestDrive b (hP.openRelease b .teacher (some t) h)
  unfold Machine.teacherEnqueue
  dsimp only
  split
  · exact hP.withdraw b ht
  · exact ht

theorem teacherVisits (g : Nat) (t : Token) (bs : List Bay) {x : State × Nat} (h : P x.1) :
    P (bs.foldl (teacherVisit g t) x).1 := by
  induction bs generalizing x with
  | nil => exact h
  | cons b bs ih =>
    refine ih ?_
    unfold teacherVisit
    split
    · exact hP.teacherEnqueue b t h
    · exact h

theorem decideTeacher (e : CredentialEntry) (t : Token) {s : State} (h : P s) : P (decideTeacher e t s) := by
  unfold Machine.decideTeacher
  split
  · exact hP.sendVerdict _ _ _ h
  · exact hP.sendVerdict _ _ _ (hP.teacherVisits _ t _ h)

theorem tokenArrives (t : Token) {s : State} (h : P s) : P (tokenArrives t s) := by
  have hv : ∀ v f r, P (Machine.sendVerdict v f r s) := fun v f r => hP.sendVerdict v f r h
  unfold Machine.tokenArrives
  split
  · exact hv _ _ _
  split
  · exact hv _ _ _
  split
  · exact hv _ _ _
  split
  · exact hP.decideStudent _ t h
  · exact hP.decideTeacher _ t h
  · exact hP.sendVerdict _ _ _ (hP.of_frame (setService_frame _ s) h)
  · exact hv _ _ _

theorem frameComplete (f : List Byte) {s : State} (h : P s) : P (frameComplete f s) := by
  have hd : P (discardFrame s) := hP.of_frame (withCollecting_frame s none) h
  rcases frameComplete_cases f s with ⟨-, hf⟩ | hf | ⟨w, token, -, -, -, hf⟩ <;> rw [hf]
  · exact h
  · exact hd
  · exact hP.tokenArrives token hd

end Steady

/-! ## Laws of the power -/

/-- A law of the power of the bays that every pass keeps. -/
structure Passing (P : State → Prop) : Prop where
  frame : ∀ {s t : State}, s.changedOnly movableParts t → P s → P t
  pass : ∀ {s : State}, P s → P (pass s)
  reserve : ∀ (r : Nat) {s : State}, P s → P (reservePass r s)

namespace Passing
variable {P : State → Prop} (hP : Passing P)
include hP

theorem of_frame {s t : State} {l : List Part} (h : s.changedOnly l t) (hs : P s)
    (hl : l ⊆ movableParts := by decide) : P t :=
  hP.frame (h.mono hl) hs

theorem passIfChanged {s : State} (h : P s) : P (passIfChanged s) := by
  unfold Machine.passIfChanged
  split
  · exact hP.pass h
  · exact h

theorem pschedEvent {f : State → State} {s : State} (h : P (f s)) : P (pschedEvent f s) :=
  hP.of_frame (pschedEvent_counts f s) h

theorem grantCore (c : Chan) (b : Bay) {s : State} (h : P s) : P (grantCore c b s) :=
  hP.pass (hP.of_frame (join_frame b c _ _) (hP.of_frame (setChannel_frame c _ _) (hP.of_frame (setProv_frame b _ _)
    (hP.of_frame (setQueue_frame _ s) h))))

theorem scanCore (n : Nat) {s : State} (h : P s) : P (scanCore n s) := by
  induction n generalizing s with
  | zero => exact h
  | succ n ih =>
    unfold Machine.scanCore
    split
    · exact ih (hP.grantCore _ _ h)
    · exact h

theorem considerCore {s : State} (h : P s) : P (considerCore s) := by
  unfold Machine.considerCore
  split
  · exact h
  · exact hP.scanCore 4 h

theorem consider {s : State} (h : P s) : P (consider s) :=
  hP.pschedEvent (hP.considerCore h)

theorem endSessionCore (c : Chan) (o : SessionOutcome) (r : Half) {s : State} (h : P s) :
    P (endSessionCore c o r s) := by
  cases hx : s.psched.channels[c].session with
  | none => rw [endSessionCore_idle hx]; exact h
  | some x =>
    rw [endSessionCore_busy hx]
    exact hP.considerCore (hP.of_frame (endNotices_frame _ _) (hP.pass (hP.of_frame (sessionClosed_frame c x o r s) h)))

theorem endBayCore (b : Bay) (o : SessionOutcome) {s : State} (h : P s) : P (endBayCore b o s) := by
  unfold Machine.endBayCore
  repeat' split
  · exact hP.endSessionCore _ o 0 h
  all_goals exact h

theorem clearCore (b : Bay) {s : State} (h : P s) : P (clearCore b s) :=
  hP.of_frame (clearCore_frame b s) h

theorem pschedDetach (b : Bay) {s : State} (h : P s) : P (pschedDetach b s) :=
  hP.pschedEvent (hP.of_frame (setProv_frame b _ _) (hP.clearCore b (hP.endBayCore b .removed h)))

theorem pschedPresent (b : Bay) {s : State} (h : P s) : P (pschedPresent b s) :=
  hP.pschedEvent (hP.considerCore (hP.of_frame (setProv_frame b _ _) (hP.clearCore b h)))

theorem pschedForced (b : Bay) {s : State} (h : P s) : P (pschedForced b s) :=
  hP.pschedEvent (hP.endBayCore b .forced h)

theorem pschedLineEvent (b : Bay) (c : Chan) (o : SessionOutcome) {s : State} (h : P s) :
    P (pschedLineEvent b c o s) := by
  refine hP.pschedEvent ?_
  split
  · split
    · exact hP.endSessionCore c o 0 h
    · exact h
  · exact h

theorem pschedAbort (b : Bay) {s : State} (h : P s) : P (pschedAbort b s) :=
  hP.pschedEvent (hP.endBayCore b .aborted h)

theorem pschedLost {s : State} (h : P s) : P (pschedLost s) := by
  refine hP.pschedEvent ?_
  have hm : P (s.withPsched { s.psched with mode := .standalone }) := hP.frame (by
    intro x hx; cases x <;> first | exact absurd (by decide) hx | simp [Part.same]) h
  generalize s.withPsched { s.psched with mode := .standalone } = t at hm
  generalize List.finRange 4 = cs
  induction cs generalizing t with
  | nil => exact hm
  | cons c cs ih => exact ih _ (hP.endSessionCore c .hostLost 0 hm)

theorem pschedReturn {s : State} (h : P s) : P (pschedReturn s) := by
  refine hP.pschedEvent (hP.considerCore (hP.frame ?_ h))
  intro x hx; cases x <;> first | exact absurd (by decide) hx | simp [Part.same]

theorem pschedMode (m : Mode) {s : State} (h : P s) : P (pschedMode m s) := by
  cases m
  · exact hP.pschedReturn h
  · exact hP.pschedLost h

/-- A law of the power is steady: custody and provisioning records do not matter to it. -/
theorem steady : Steady P where
  frame h hs := hP.frame (h.mono (by decide)) hs
  consider := hP.consider
  reserve := hP.reserve
  relocate _ hs := hP.of_frame (changeRecordAt_frame _ _ _) hs
  place b t _ hs := hP.of_frame (placeTag_frame b t _) (hP.of_frame (clearBay_frame b _ _) hs)
  withdraw b _ hs := hP.of_frame (pschedWithdraw_frame b _) hs

end Passing

end Sys2Proof.Machine
end

section
/-! PROOF. The law of the custody table (R117) over every step: records move one at a time, a tag is placed only at a
bay that has been cleared of other tags, and a new record only for a tag that has none. -/

namespace Sys2Proof.Machine

-- One declaration after the other: the check compiles the whole text within a memory bound.
set_option Elab.async false

/-! ## One record -/

theorem custodyGood_of_slots {s t : State} (h : t.cust.slots = s.cust.slots) (hs : s.custodyGood) : t.custodyGood := by
  unfold State.custodyGood
  rw [h]
  exact hs

theorem custodyGood_of_frame {s t : State} {l : List Part} (h : s.changedOnly l t) (hl : Part.custody ∉ l)
    (hs : s.custodyGood) : t.custodyGood :=
  custodyGood_of_slots (h .custody hl) hs

/-- Two records do not conflict: their tags differ, and they are not located at the same bay (R117). -/
def CustodyRecord.apart (x y : CustodyRecord) : Prop :=
  x.tag ≠ y.tag ∧ ∀ b : Bay, x.locatedAt b = true → y.locatedAt b = false

theorem CustodyRecord.apart.symm {x y : CustodyRecord} (h : x.apart y) : y.apart x :=
  ⟨h.1.symm, fun b hy => Bool.eq_false_iff.mpr fun hx => by rw [h.2 b hx] at hy; exact absurd hy (by decide)⟩

theorem setSlot_record (i j : Fin 48) (r : Option CustodyRecord) (s : State) :
    (s.setSlot i r).cust.slots[j].record = if j = i then r else s.cust.slots[j].record := by
  simp only [State.setSlot, withCust_cust, getElem_set_fin]
  split <;> rfl

/-- A slot may be set to a record that does not conflict with those of the other slots. -/
theorem custodyGood_setSlot {i : Fin 48} {r : Option CustodyRecord} {s : State} (hs : s.custodyGood)
    (h : ∀ y, r = some y → ∀ (j : Fin 48) (x : CustodyRecord), j ≠ i → s.cust.slots[j].record = some x →
      y.apart x) : (s.setSlot i r).custodyGood := by
  intro j k x y hjk hx hy
  rw [setSlot_record] at hx hy
  split at hx <;> split at hy
  · next hj hk => exact absurd (hj.trans hk.symm) hjk
  · next hj hk => exact h x hx k y hk hy
  · next hj hk => exact (h y hy j x hj hx).symm
  · exact hs j k x y hjk hx hy

theorem changeRecordAt_slotAt {b : Bay} {i : Fin 48} {s : State} (h : s.cust.slotAt b = some i)
    (f : CustodyRecord → CustodyRecord) :
    changeRecordAt b f s = s.setSlot i (s.cust.slots[i].record.map f) := by
  unfold changeRecordAt
  rw [h]

theorem changeRecordAt_none {b : Bay} {s : State} (h : s.cust.slotAt b = none)
    (f : CustodyRecord → CustodyRecord) : changeRecordAt b f s = s := by
  unfold changeRecordAt
  rw [h]

theorem changeRecordAt_custodyGood {b : Bay} {f : CustodyRecord → CustodyRecord} (hf : KeepsPlace b f) {s : State}
    (hs : s.custodyGood) : (changeRecordAt b f s).custodyGood := by
  cases hi : s.cust.slotAt b with
  | none => rw [changeRecordAt_none hi]; exact hs
  | some i =>
    obtain ⟨x, hx, hb⟩ := slotAt_record s.cust b i hi
    rw [changeRecordAt_slotAt hi, hx]
    refine custodyGood_setSlot hs fun y hy j z hj hz => ?_
    obtain rfl : f x = y := Option.some.inj hy
    obtain ⟨htag, hloc⟩ := hf x hb
    obtain ⟨hne, hapart⟩ := hs i j x z (Ne.symm hj) hx hz
    refine ⟨by rw [htag]; exact hne, fun c hc => ?_⟩
    rw [hloc c hc]
    exact hapart b hb

theorem slotAt_eq_none {c : Cust} {b : Bay} (h : c.slotAt b = none) {j : Fin 48} {x : CustodyRecord}
    (hx : c.slots[j].record = some x) : x.locatedAt b = false := by
  have := List.find?_eq_none.mp h j (List.mem_finRange j)
  rw [hx] at this
  simpa using this

theorem slotOf_record {c : Cust} {t : Tag} {i : Fin 48} (h : c.slotOf t = some i) :
    ∃ x : CustodyRecord, c.slots[i].record = some x ∧ x.tag = t := by
  have := List.find?_some h
  split at this
  · next x hx => exact ⟨x, hx, by simpa using this⟩
  · exact absurd this (by decide)

theorem slotOf_eq_none {c : Cust} {t : Tag} (h : c.slotOf t = none) {j : Fin 48} {x : CustodyRecord}
    (hx : c.slots[j].record = some x) : x.tag ≠ t := by
  have := List.find?_eq_none.mp h j (List.mem_finRange j)
  rw [hx] at this
  simpa using this

/-- After the first step of R127 a record located at the bay carries the tag read. -/
theorem clearBay_clears (b : Bay) (t : Tag) {s : State} (hs : s.custodyGood) {j : Fin 48} {x : CustodyRecord}
    (hx : (clearBay b (some t) s).cust.slots[j].record = some x) (hb : x.locatedAt b = true) : x.tag = t := by
  cases hi : s.cust.slotAt b with
  | none =>
    have hr : s.cust.recordAt b = none := by unfold Cust.recordAt; rw [hi]; rfl
    unfold clearBay at hx
    rw [hr] at hx
    exact absurd (slotAt_eq_none hi hx) (by rw [hb]; decide)
  | some i =>
    obtain ⟨y, hy, hyb⟩ := slotAt_record s.cust b i hi
    have hother : ∀ z, j ≠ i → s.cust.slots[j].record = some z → z.locatedAt b = false := fun z hj hz =>
      (hs i j y z (Ne.symm hj) hy hz).2 b hyb
    have hr : s.cust.recordAt b = some y := (recordAt_eq_some _ _ _).mpr ⟨i, hi, hy⟩
    unfold clearBay at hx
    rw [hr] at hx
    dsimp only at hx
    split at hx
    · next htag =>
      by_cases hj : j = i
      · subst hj
        exact (Option.some.inj (hx.symm.trans hy)) ▸ Option.some.inj htag
      · exact absurd (hother x hj hx) (by rw [hb]; decide)
    · rw [changeRecordAt_slotAt hi, setSlot_record] at hx
      split at hx
      · rw [hy] at hx
        obtain rfl := Option.some.inj hx
        exact absurd ((locatedAt_iff _ _).mp hb).2 (by simp [CustodyRecord.leave])
      · next hj => exact absurd (hother x hj hx) (by rw [hb]; decide)

/-- A tag is placed at a bay at which only that tag may be located. -/
theorem placeTag_custodyGood {b : Bay} {t : Tag} {s : State} (hs : s.custodyGood)
    (hb : ∀ (j : Fin 48) (x : CustodyRecord), s.cust.slots[j].record = some x → x.locatedAt b = true → x.tag = t) :
    (placeTag b t s).custodyGood := by
  have hset : ∀ (i : Fin 48) (y : CustodyRecord), y.tag = t → (∀ c, y.locatedAt c = true → c = b) →
      (∀ (j : Fin 48) (x : CustodyRecord), j ≠ i → s.cust.slots[j].record = some x → x.tag ≠ t) →
      (s.setSlot i (some y)).custodyGood := by
    intro i y hy hloc hne
    refine custodyGood_setSlot hs fun y' hy' j x hj hx => ?_
    obtain rfl : y = y' := Option.some.inj hy'
    refine ⟨by rw [hy]; exact (hne j x hj hx).symm, fun c hc => Bool.eq_false_iff.mpr fun hxc => ?_⟩
    rw [hloc c hc] at hxc
    exact hne j x hj hx (hb j x hx hxc)
  have hcart : ∀ (r : CustodyRecord) (c : Bay), (r.toCart b s.minute).locatedAt c = true → c = b := fun r c hc =>
    (Option.some.inj ((locatedAt_iff _ _).mp hc).2).symm
  have hq : ∀ {u v : State}, u.custodyGood → u.changedOnly journalParts v → v.custodyGood := fun hu hv =>
    custodyGood_of_frame hv (by decide) hu
  have hn : ∀ (n : Notice) {u : State}, u.custodyGood → (raise n u).custodyGood := fun n u hu =>
    custodyGood_of_frame (raise_frame n u) (by decide) hu
  unfold placeTag
  split
  · next hnone =>
    split
    · refine hq (hset _ _ rfl (fun c hc => (Option.some.inj ((locatedAt_iff _ _).mp hc).2).symm)
        fun j x _ hx => slotOf_eq_none hnone hx) (fillFree_frame _ _)
    · exact hn _ hs
  · next i hi =>
    obtain ⟨x, hx, htag⟩ := slotOf_record hi
    have hmoved : (s.setSlot i (some (x.toCart b s.minute))).custodyGood :=
      hset i _ htag (hcart x) fun j y hj hy => by
        have := (hs i j x y (Ne.symm hj) hx hy).1
        rw [htag] at this
        exact this.symm
    rw [hx]
    dsimp only
    have hf : ∀ f : Fill, (fillFree f (s.setSlot i (some (x.toCart b s.minute)))).custodyGood := fun f =>
      hq hmoved (fillFree_frame f _)
    split
    · split
      · exact hn _ (hf _)
      · exact hf _
    · split
      · exact hn _ (hf _)
      · exact hf _
    · split
      · exact hs
      · exact hn _ (hf _)
    · exact hs

/-- The law of the custody table is steady. -/
theorem custodyGood_steady : Steady State.custodyGood where
  frame h hs := custodyGood_of_frame h (by decide) hs
  consider hs := custodyGood_of_frame (consider_frame _) (by decide) hs
  reserve r _ hs := custodyGood_of_frame (reservePass_frame r _) (by decide) hs
  relocate hf hs := changeRecordAt_custodyGood hf hs
  place b t s hs := placeTag_custodyGood
    (by
      unfold clearBay
      split
      · split
        · exact hs
        · exact changeRecordAt_custodyGood (keepsPlace_leave _ _ _ _) hs
      · exact hs)
    fun _ _ hx hb => clearBay_clears b t hs hx hb
  withdraw b _ hs := custodyGood_of_frame (pschedWithdraw_frame b _) (by decide) hs

/-! ## Resets -/

theorem partReset_record_tag (r : CustodyRecord) (m : Option Nat) : (r.partReset m).tag = r.tag := by
  unfold CustodyRecord.partReset
  split <;> rfl

theorem partReset_record_locatedAt (r : CustodyRecord) (m : Option Nat) (b : Bay) :
    (r.partReset m).locatedAt b = r.locatedAt b := by
  unfold CustodyRecord.partReset
  split
  · next hst hbay => simp [CustodyRecord.locatedAt, CustodyRecord.toCart, hst, hbay]
  · rfl

theorem partReset_cust (k : ResetCause) (s : State) : (partReset k s).cust = s.cust.partReset s.minute := by
  simp [partReset, clearCounts]

theorem partReset_slot_record (k : ResetCause) (s : State) (i : Fin 48) :
    (partReset k s).cust.slots[i].record = s.cust.slots[i].record.map fun r => r.partReset s.minute := by
  rw [partReset_cust]
  simp [Cust.partReset, CustodySlot.partReset]

theorem partReset_custodyGood (k : ResetCause) {s : State} (hs : s.custodyGood) : (partReset k s).custodyGood := by
  intro i j x y hij hx hy
  rw [partReset_slot_record, Option.map_eq_some_iff] at hx hy
  obtain ⟨x, hx, rfl⟩ := hx
  obtain ⟨y, hy, rfl⟩ := hy
  simp only [partReset_record_tag, partReset_record_locatedAt]
  exact hs i j x y hij hx hy

theorem powerUp_cust (s : State) : (powerUp s).cust = Cust.reset := by
  simp [powerUp, clearCounts, State.reset]

theorem powerUp_custodyGood (s : State) : (powerUp s).custodyGood := by
  intro i j x y _ hx
  rw [powerUp_cust] at hx
  exact absurd hx (by simp [Cust.reset])

/-! ## Commands of bays and doors -/

theorem presenceChange_custodyGood (b : Bay) (v : Bool) {s : State} (hs : s.custodyGood) :
    (presenceChange b v s).custodyGood := by
  have he : ∀ e : BayEntry, ((s.setPins b { s.pins[b] with presence := v }).setEntry b e).custodyGood := fun e =>
    custodyGood_of_frame ((setPins_frame b _ s).mono (m := [.pins, .bays, .paths, .counts]) (by decide) |>.then
      (setEntry_frame b e _)) (by decide) hs
  unfold presenceChange
  dsimp only
  split
  · exact hs
  split
  · exact he _
  split
  · split
    · exact custodyGood_steady.custLossAbandoned b (he _)
    · exact he _
  · exact he _

theorem detachBay_custodyGood (b : Bay) {s : State} (hs : s.custodyGood) : (detachBay b s).custodyGood := by
  unfold detachBay
  split
  · refine custodyGood_of_frame (l := .charge :: .choices :: .notices :: .limits :: considerParts)
      (eitherOrder_frame (fun t => (cctlChange_frame b _ t).mono (by decide))
        (fun t => (pallocDetach_frame b t).mono (by decide)) _ (by decide)) (by decide) ?_
    exact custodyGood_steady.custDetach b _ (custodyGood_of_frame (pschedDetach_frame b _) (by decide)
      (custodyGood_of_frame (setEntry_frame b _ s) (by decide) hs))
  · exact hs

theorem enterAnon_custodyGood (b : Bay) {s : State} (hs : s.custodyGood) : (enterAnon b s).custodyGood :=
  custodyGood_steady.custOtherEntry b _ (custodyGood_of_frame (pass_frame _) (by decide)
    (custodyGood_of_frame (setEntry_frame b _ s) (by decide) hs))

theorem failAttempt_custodyGood (b : Bay) (r : TagRead) {s : State} (hs : s.custodyGood) :
    (failAttempt b r s).custodyGood := by
  unfold failAttempt
  split
  · exact custodyGood_of_frame (setEntry_frame b _ s) (by decide) hs
  · exact enterAnon_custodyGood b hs

theorem readTag_custodyGood (b : Bay) (t : Tag) {s : State} (hs : s.custodyGood) : (readTag b t s).custodyGood := by
  have he : ∀ e : BayEntry, (s.setEntry b e).custodyGood := fun e =>
    custodyGood_of_frame (setEntry_frame b e s) (by decide) hs
  unfold readTag
  split
  · exact custodyGood_steady.custOtherEntry b _ (custodyGood_of_frame (pass_frame _) (by decide)
      (custodyGood_of_frame (raise_frame _ _) (by decide) (he _)))
  · exact custodyGood_steady.custTagRead b t (custodyGood_of_frame (pschedPresent_frame b _) (by decide)
      (custodyGood_of_frame (pass_frame _) (by decide) (he _)))

theorem doorHeld_custodyGood (b : Bay) {s : State} (hs : s.custodyGood) : (doorHeld b s).custodyGood := by
  have he : ∀ e : BayEntry, (s.setEntry b e).custodyGood := fun e =>
    custodyGood_of_frame (setEntry_frame b e s) (by decide) hs
  have hp : ∀ t : State, t.custodyGood → (pass t).custodyGood := fun t ht =>
    custodyGood_of_frame (pass_frame t) (by decide) ht
  unfold doorHeld
  split
  · split
    · unfold doorOpens
      dsimp only
      have hd : ∀ e : BayEntry, (cctlDoorOpen b (s.setEntry b e)).custodyGood := fun e =>
        custodyGood_of_frame (cctlDoorOpen_frame b _) (by decide) (he e)
      split
      · exact custodyGood_steady.custForced b (hp _ (custodyGood_of_frame (pschedForced_frame b _) (by decide)
          (custodyGood_of_frame (raise_frame _ _) (by decide) (hd _))))
      · exact custodyGood_steady.eitherOrder hp (fun t => custodyGood_steady.ldrvDoorOpen b)
          (custodyGood_of_frame (custDoorReleased_frame b _) (by decide) (hd _))
    · exact custodyGood_steady.eitherOrder hp
        (fun t ht => custodyGood_steady.custDoorClosed b (custodyGood_steady.consider ht)) (he _)
  · exact hs

/-! ## Orders -/

theorem restoreCustody_custodyGood (t : Tag) (holder : Option Token) {s : State} (hs : s.custodyGood) :
    (restoreCustody t holder s).1.custodyGood := by
  unfold restoreCustody
  split
  · next i hi =>
    refine custodyGood_steady.custEvent (f := fun s => s.setSlot i _) ?_
    obtain ⟨x, hx, -⟩ := slotOf_record hi
    rw [hx]
    refine custodyGood_setSlot hs fun y hy j z hj hz => ?_
    obtain rfl := Option.some.inj hy
    exact ⟨(hs i j x z (Ne.symm hj) hx hz).1, fun b hb =>
      absurd ((locatedAt_iff _ _).mp hb).1 (by simp [CustodyRecord.restored])⟩
  · next hnone =>
    split
    · refine custodyGood_steady.custEvent (f := fun s => s.setSlot _ _) (custodyGood_setSlot hs fun y hy j z _ hz => ?_)
      obtain rfl := Option.some.inj hy
      exact ⟨(slotOf_eq_none hnone hz).symm, fun b hb =>
        absurd ((locatedAt_iff _ _).mp hb).1 (by simp [CustodyRecord.fresh])⟩
    · exact hs

theorem orderForgetTablet_custodyGood (off : Nat) {s : State} (hs : s.custodyGood) :
    (orderForgetTablet off s).1.custodyGood := by
  unfold orderForgetTablet
  dsimp only
  split
  · exact hs
  split
  · split
    · exact hs
    · exact custodyGood_steady.custEvent (f := fun s => s.setSlot _ none)
        (custodyGood_setSlot hs fun y hy => absurd hy (by simp))
  · exact hs

theorem orderCustodyRestore_custodyGood (off : Nat) {s : State} (hs : s.custodyGood) :
    (orderCustodyRestore off s).1.custodyGood := by
  unfold orderCustodyRestore
  dsimp only
  split
  · exact hs
  split
  · exact hs
  split
  · exact hs
  · exact restoreCustody_custodyGood _ _ hs

theorem releaseByStaff_steady {P : State → Prop} (hP : Steady P) (b : Bay) (holder : Option Token) {s : State}
    (hs : P s) (ha : P (pschedAbort b s)) : P (releaseByStaff b holder s) := by
  unfold releaseByStaff
  dsimp only
  split
  · exact hP.requestDrive b (hP.openRelease b _ _ ha)
  · exact hP.requestDrive b (hP.openRelease b _ _ hs)

theorem orderReleaseBay_cases (off : Nat) (s : State) : (orderReleaseBay off s).1 = s ∨
    ∃ (b : Bay) (holder : Option Token), (orderReleaseBay off s).1 = releaseByStaff b holder s := by
  unfold orderReleaseBay
  split
  · exact .inl rfl
  · next b _ =>
    split
    · exact .inl rfl
    · exact .inr ⟨b, _, rfl⟩

theorem orderReleaseBay_steady {P : State → Prop} (hP : Steady P) (off : Nat) {s : State} (hs : P s)
    (ha : ∀ b, P (pschedAbort b s)) : P (orderReleaseBay off s).1 := by
  rcases orderReleaseBay_cases off s with h | ⟨b, holder, h⟩ <;> rw [h]
  · exact hs
  · exact releaseByStaff_steady hP b holder hs (ha b)

theorem orderSetLatchMode_steady {P : State → Prop} (hP : Steady P) (off : Nat) {s : State} (hs : P s) :
    P (orderSetLatchMode off s).1 := by
  unfold orderSetLatchMode
  split
  · exact hs
  · exact hP.ldrvEvent (f := fun s => s.withLdrv _) (hP.withLdrv _ hs)
  · exact hP.ldrvEvent (f := fun s => s.withLdrv _) (hP.withLdrv _ hs)
  · exact hP.latchOff hs

theorem owner_custodyGood (k : OrderKind) (off : Nat) {s : State} (hs : s.custodyGood) :
    (k.owner off s).1.custodyGood := by
  by_cases hc : Part.custody ∈ k.parts
  · have hk : k = .releaseBay ∨ k = .custodyRestore ∨ k = .forgetTablet ∨ k = .setLatchMode := by
      revert hc; cases k <;> decide
    rcases hk with rfl | rfl | rfl | rfl
    · exact orderReleaseBay_steady custodyGood_steady off hs fun b =>
        custodyGood_of_frame (pschedAbort_frame b s) (by decide) hs
    · exact orderCustodyRestore_custodyGood off hs
    · exact orderForgetTablet_custodyGood off hs
    · exact orderSetLatchMode_steady custodyGood_steady off hs
  · exact custodyGood_of_frame (owner_frame k off s) hc hs

/-- An order keeps what its owner keeps, if the answer and the lists do not matter. -/
theorem dispatch_keeps {P : State → Prop} (hframe : ∀ {s t : State}, s.changedOnly [.stored, .lists] t → P s → P t)
    (howner : ∀ (k : OrderKind) (off : Nat) (s : State), P s → P (k.owner off s).1) (k : OrderKind) (s : State)
    (hs : P s) : P (dispatch k k.owner s) := by
  rcases dispatch_cases k k.owner s with hd | ⟨i, off, n, -, hd⟩ <;> rw [hd]
  · exact hs
  · exact hframe (answered_frame _ _ _ _ _ _) (howner k off s hs)

theorem exec_custodyGood : ∀ (i : Instr) (s t : State), s.custodyGood → exec i s = .next t → t.custodyGood := by
  refine exec_keeps_of_parts (l := [.custody]) (fun s t m h hm => custodyGood_of_frame h (hm _ (by simp)))
    (dispatch_keeps (fun h hs => custodyGood_of_frame h (by decide) hs) fun k off s => owner_custodyGood k off) ?_
  intro i s t hi hp hs h
  cases i with
  | powerOn => rw [exec_next_eq h rfl]; exact powerUp_custodyGood s
  | resetnPartReset cut =>
    rw [exec_next_eq h rfl]
    exact partReset_custodyGood _ (custodyGood_of_frame (cutBurst_frame cut s) (by decide) hs)
  | controlPartReset ds => rw [exec_next_eq h rfl]; exact partReset_custodyGood _ hs
  | registerWrite n data =>
    rw [exec_next_eq h rfl]
    rcases writeRegister_cases n data s with hw | hw <;> rw [hw]
    · exact hs
    · exact partReset_custodyGood _ hs
  | presenceInputChange b v => rw [exec_next_eq h rfl]; exact presenceChange_custodyGood b v hs
  | detach b => rw [exec_next_eq h rfl]; exact detachBay_custodyGood b hs
  | tagFrame b tag ok =>
    rw [exec_next_eq h rfl]
    unfold tagFrameArrives
    repeat' split
    · exact readTag_custodyGood b tag hs
    · exact failAttempt_custodyGood b _ hs
    all_goals exact hs
  | tagReadAttemptExpiry b =>
    rw [exec_next_eq h rfl]
    unfold tagReadExpires
    repeat' split
    · exact failAttempt_custodyGood b _ hs
    all_goals exact hs
  | doorEvent b => rw [exec_next_eq h rfl]; exact doorHeld_custodyGood b hs
  | tokenArrival f => rw [exec_next_eq h rfl]; exact custodyGood_steady.frameComplete f hs
  | releaseWindowExpiry b => rw [exec_next_eq h rfl]; exact custodyGood_steady.windowExpires b hs
  | latchWaitExpiry b => rw [exec_next_eq h rfl]; exact custodyGood_steady.latchWaitExpires b hs
  | _ => first | exact absurd hi (by decide) | exact absurd hp (by dsimp only [partsOf]; decide)

/-- Settles O9. -/
theorem everyStepKeepsCustodyUnique : Obligations.EveryStepKeepsCustodyUnique :=
  step_keeps (fun _ _ h => h) (fun _ _ h => h) exec_custodyGood

end Sys2Proof.Machine
end

section
/-! PROOF. The law of the applied power (R57) over every step: every operation on a bay's charge state keeps its power
within its grant, every pass hands CCTL the grants it decides, and a bay is EMPTY only when a detach has turned it
OFF. -/

namespace Sys2Proof.Machine

-- One declaration after the other: the check compiles the whole text within a memory bound.
set_option Elab.async false

/-! ## One bay's charge state -/

/-- A bay's charge state keeps its power within the grant `g`, and has none outside DELIVERING. -/
def ChargeBay.sound (c : ChargeBay) (g : Nat) : Prop :=
  c.applied ≤ c.grant ∧ c.grant = g ∧ (c.state ≠ .delivering → c.applied = 0)

/-- What setting the applied power leaves, and what it sets. -/
theorem setApplied_fields (c : ChargeBay) (p : Nat) :
    (c.setApplied p).applied = p ∧ (c.setApplied p).grant = c.grant ∧ (c.setApplied p).state = c.state ∧
      (c.setApplied p).demand = c.demand := by
  unfold ChargeBay.setApplied
  split
  · next h => exact ⟨h.symm, rfl, rfl, rfl⟩
  · exact ⟨rfl, rfl, rfl, rfl⟩

theorem sound_takeGrant {c : ChargeBay} {g : Nat} (h : c.sound g) (now g' : Nat) : (c.takeGrant now g').sound g' := by
  obtain ⟨hg, ha⟩ := takeGrant_power c now g'
  refine ⟨by rw [hg, ha]; exact min_le_right _ _, hg, fun hd => ?_⟩
  rw [(takeGrant_state c now g').1] at hd
  rw [ha, h.2.2 hd, Nat.zero_min]

theorem sound_negotiate {c : ChargeBay} {g : Nat} (h : c.sound g) (hd : c.state ≠ .delivering) (now : Nat) :
    (c.negotiate now).sound g :=
  ⟨h.1, h.2.1, fun _ => h.2.2 hd⟩

theorem sound_deliver {c : ChargeBay} {g : Nat} (h : c.sound g) (now d : Nat) : (c.deliver now d).sound g :=
  ⟨h.1, h.2.1, fun hd => absurd rfl hd⟩

theorem sound_trip {c : ChargeBay} {g : Nat} (h : c.sound g) (now : Nat) : (c.trip now).sound g :=
  ⟨Nat.zero_le _, h.2.1, fun _ => rfl⟩

theorem sound_detached {c : ChargeBay} {g : Nat} (h : c.sound g) : c.detached.sound g :=
  ⟨Nat.zero_le _, h.2.1, fun _ => rfl⟩

theorem rampUp_fields (c : ChargeBay) (t : Nat) :
    (c.rampUp t).applied = c.applied + min 16 (c.grant - c.applied) ∧ (c.rampUp t).grant = c.grant ∧
      (c.rampUp t).state = c.state ∧ (c.rampUp t).demand = c.demand :=
  setApplied_fields c _

theorem sound_rampUp {c : ChargeBay} {g : Nat} (h : c.sound g) (hd : c.state = .delivering) (t : Nat) :
    (c.rampUp t).sound g := by
  obtain ⟨ha, hg, hs, -⟩ := rampUp_fields c t
  have hle := h.1
  exact ⟨by rw [ha, hg]; omega, hg.trans h.2.1, fun hn => absurd (hs.trans hd) hn⟩

theorem sound_noteDoor {c : ChargeBay} {g : Nat} (h : c.sound g) (now : Nat) : (c.noteDoor now).sound g := by
  obtain ⟨x, hx⟩ := noteDoor_eq c now
  rw [hx]
  exact h

/-! ## The law, for all bays or for all but one that is being detached -/

/-- The law of the power, but that the bay `e` may be EMPTY before CCTL has turned it OFF. -/
def State.powerGoodBut (e : Option Bay) (s : State) : Prop :=
  ∀ b : Bay, s.cctl[b].sound s.palloc.bays[b].grant ∧
    (e ≠ some b → s.bmon[b].occupancy = .empty → s.cctl[b].state = .off)

theorem powerGood_iff (s : State) : s.powerGood ↔ s.powerGoodBut none := by
  refine forall_congr' fun b => ?_
  simp only [ChargeBay.sound, and_assoc, ne_eq, reduceCtorEq, not_false_eq_true, forall_const]

theorem powerGoodBut_of_same {e : Option Bay} {s t : State}
    (hc : ∀ b : Bay, t.cctl[b].applied = s.cctl[b].applied ∧ t.cctl[b].grant = s.cctl[b].grant ∧
      t.cctl[b].state = s.cctl[b].state)
    (hg : ∀ b : Bay, t.palloc.bays[b].grant = s.palloc.bays[b].grant)
    (ho : ∀ b : Bay, e ≠ some b → t.bmon[b].occupancy = .empty → s.bmon[b].occupancy = .empty)
    (hs : s.powerGoodBut e) : t.powerGoodBut e := by
  intro b
  obtain ⟨⟨hle, heq, hz⟩, hoff⟩ := hs b
  obtain ⟨h1, h2, h3⟩ := hc b
  refine ⟨⟨by rw [h1, h2]; exact hle, by rw [h2, hg]; exact heq, by rw [h1, h3]; exact hz⟩, fun hne he => ?_⟩
  rw [h3]
  exact hoff hne (ho b hne he)

theorem state_of_body {c d : ChargeBay} (h : c.body = d.body) : c.state = d.state ∧ c.demand = d.demand := by
  simp only [ChargeBay.body, ChargeBay.mk.injEq] at h
  exact ⟨h.1, h.2.1⟩

theorem entry_of_body {e f : BayEntry} (h : e.body = f.body) :
    e.occupancy = f.occupancy ∧ e.door = f.door ∧ e.level = f.level := by
  simp only [BayEntry.body, BayEntry.mk.injEq] at h
  exact ⟨h.1, h.2.2.2.2.1, h.2.2.2.2.2.2.2.2.2.1⟩

theorem powerGoodBut_of_frame {e : Option Bay} {s t : State} (h : s.changedOnly (.limits :: movableParts) t)
    (hs : s.powerGoodBut e) : t.powerGoodBut e :=
  powerGoodBut_of_same
    (fun b => ⟨(h .delivery (by decide) b).2.1, (h .delivery (by decide) b).1,
      (state_of_body (h .charge (by decide) b)).1⟩)
    (fun b => ((h .grants (by decide)).2 b).2.2)
    (fun b _ he => by rw [← (entry_of_body (h .bays (by decide) b)).1]; exact he) hs

theorem passed_grant (s : State) (b : Bay) : s.passed.bays[b].grant =
    (allocate s.palloc.netBudget s.palloc.caps s.passInputs).grants[b] := by
  simp [State.passed]

theorem grantsTaken_charge (s : State) (p : PAlloc) (b : Bay) : (s.grantsTaken p)[b] =
    if p.bays[b].grant = s.palloc.bays[b].grant then s.cctl[b] else s.cctl[b].takeGrant s.now p.bays[b].grant := by
  simp only [State.grantsTaken, Fin.getElem_fin, Vector.getElem_ofFn]

theorem passFrom_powerGoodBut {e : Option Bay} (shown : List Byte) {s : State} (hs : s.powerGoodBut e) :
    (passFrom shown s).powerGoodBut e := by
  intro b
  obtain ⟨hsound, hoff⟩ := hs b
  rw [passFrom_cctl, passFrom_palloc, passFrom_bmon, (grantsTaken_state s _ b).1, grantsTaken_charge]
  refine ⟨?_, hoff⟩
  split
  · next hg => rw [hg]; exact hsound
  · exact sound_takeGrant hsound _ _

theorem powerGoodBut_passing (e : Option Bay) : Passing (State.powerGoodBut e) where
  frame h hs := powerGoodBut_of_frame (h.mono (by decide)) hs
  pass hs := passFrom_powerGoodBut _ hs
  reserve r _ hs := passFrom_powerGoodBut _ (powerGoodBut_of_same (fun _ => ⟨rfl, rfl, rfl⟩) (fun _ => rfl)
    (fun _ _ => id) hs)

/-- BMON may change a bay's entry, as long as the bay does not become EMPTY. -/
theorem setEntry_powerGood {e : Option Bay} {b : Bay} {x : BayEntry} {s : State}
    (h : e ≠ some b → x.occupancy = .empty → s.bmon[b].occupancy = .empty) (hs : s.powerGoodBut e) :
    (s.setEntry b x).powerGoodBut e := by
  refine powerGoodBut_of_same (fun c => by simp) (fun c => by simp) (fun c hne hc => ?_) hs
  rw [setEntry_bmon, getElem_set_fin] at hc
  split at hc
  · next hcb => subst hcb; exact h hne hc
  · exact hc

theorem powerGoodBut_weaken {e : Option Bay} {s : State} (hs : s.powerGoodBut none) : s.powerGoodBut e :=
  fun b => ⟨(hs b).1, fun _ => (hs b).2 (by simp)⟩

/-- CCTL may set a bay to a sound charge state; with OFF for an EMPTY bay, the bay keeps its whole law. -/
theorem setCharge_powerGood {e e' : Option Bay} {b : Bay} {c : ChargeBay} {s : State} (hs : s.powerGoodBut e)
    (hc : c.sound s.palloc.bays[b].grant) (ho : s.bmon[b].occupancy = .empty → c.state = .off)
    (he : ∀ x, x ≠ b → e' ≠ some x → e ≠ some x) : (s.setCharge b c).powerGoodBut e' := by
  intro x
  rw [setCharge_cctl, setCharge_palloc, setCharge_bmon, getElem_set_fin]
  split
  · next hx => subst hx; exact ⟨hc, fun _ => ho⟩
  · next hx => exact ⟨(hs x).1, fun hne => (hs x).2 (he x hx hne)⟩

/-- A change of charge state at a bay. -/
theorem cctlChange_powerGood {e e' : Option Bay} {b : Bay} {c : ChargeBay} {s : State} (hs : s.powerGoodBut e)
    (hc : c.sound s.palloc.bays[b].grant) (ho : s.bmon[b].occupancy = .empty → c.state = .off)
    (he : ∀ x, x ≠ b → e' ≠ some x → e ≠ some x) : (cctlChange b c s).powerGoodBut e' := by
  have hp := (powerGoodBut_passing e').passIfChanged (setCharge_powerGood hs hc ho he)
  unfold cctlChange
  dsimp only
  split
  · exact (powerGoodBut_passing e').consider hp
  · exact hp

theorem setPalloc_powerGood {e : Option Bay} {p : PAlloc} {s : State} (h : p.bays = s.palloc.bays)
    (hs : s.powerGoodBut e) : (s.setPalloc p).powerGoodBut e :=
  powerGoodBut_of_same (fun _ => by simp) (fun _ => by rw [setPalloc_palloc, h]) (fun _ _ => by simp) hs

end Sys2Proof.Machine
end

section
/-! PROOF. What each order can do, by cases; and the law of the applied power (R57) over every step. -/

namespace Sys2Proof.Machine

-- One declaration after the other: the check compiles the whole text within a memory bound.
set_option Elab.async false

/-! ## What an order can do -/

theorem eitherOrder_cases (f g : State → State) (s : State) :
    eitherOrder f g s = g (f (s.withChoices (s.choices + 1))) ∨
      eitherOrder f g s = f (g (s.withChoices (s.choices + 1))) := by
  unfold eitherOrder
  split
  · exact .inl rfl
  · exact .inr rfl

/-- PALLOC's state after a thermal sample (R33). -/
def PAlloc.resampled (p : PAlloc) (r : ThermalReading) : PAlloc :=
  { p.sampled r with sampleSince := p.sampleSince + Config.thermalPeriod }

/-- THERMAL is raised where the thermal state changed (R35). -/
def thermalNotice (p : PAlloc) (s : State) : State :=
  if p.thermal = s.palloc.thermal then s.setPalloc p else raise .thermal (s.setPalloc p)

theorem thermalSampled_early {s : State} (h : ¬s.palloc.sampleSince + Config.thermalPeriod ≤ s.now)
    (r : ThermalReading) : thermalSampled r s = s := by
  unfold thermalSampled
  rw [if_neg h]

theorem thermalSampled_due {s : State} (h : s.palloc.sampleSince + Config.thermalPeriod ≤ s.now)
    (r : ThermalReading) : thermalSampled r s =
      if (s.palloc.resampled r).thermalFactor = s.palloc.thermalFactor then thermalNotice (s.palloc.resampled r) s
      else pass (thermalNotice (s.palloc.resampled r) s) := by
  unfold thermalSampled
  rw [if_pos h]
  rfl

theorem orderSetLimits_cases (off : Nat) (s : State) : (orderSetLimits off s).1 = s ∨
    ∃ (l : Nat) (caps : Vector Nat 6) (sag : SagSelect) (deep : DeepSelect),
      (orderSetLimits off s).1 = applyLimits l caps sag deep s := by
  unfold orderSetLimits
  split
  · exact .inl rfl
  · exact .inl rfl
  · exact .inr ⟨_, _, _, _, rfl⟩

theorem orderBayConfig_cases (off : Nat) (s : State) : (orderBayConfig off s).1 = s ∨
    ∃ (b : Bay) (g : Option Nat), (orderBayConfig off s).1 = s.setEntry b { s.bmon[b] with pool := g } := by
  unfold orderBayConfig
  split
  · exact .inl rfl
  · split
    · exact .inl rfl
    · exact .inr ⟨_, _, rfl⟩

theorem orderReserve_cases (off : Nat) (s : State) : (orderReserve off s).1 = s ∨
    ∃ (b : Bay) (r : Option Reservation), (orderReserve off s).1 = changeReservation b r s := by
  unfold orderReserve
  split
  · exact .inl rfl
  · split
    · exact .inr ⟨_, _, rfl⟩
    · split
      · exact .inl rfl
      · exact .inr ⟨_, _, rfl⟩

theorem orderProvision_cases (off : Nat) (s : State) : (orderProvision off s).1 = s ∨
    ∃ (bays : List Bay) (rev : Half) (n m : Nat), (orderProvision off s).1 = provisionEvent bays rev n m s := by
  unfold orderProvision
  split
  · exact .inl rfl
  · split
    · exact .inl rfl
    · exact .inr ⟨_, _, _, _, rfl⟩

theorem orderCancelProvision_cases (off : Nat) (s : State) : (orderCancelProvision off s).1 = s ∨
    ∃ bays : List Bay, (orderCancelProvision off s).1 = pschedEvent (fun s => (cancelVisits bays s).1) s := by
  unfold orderCancelProvision
  split
  · exact .inl rfl
  · exact .inr ⟨maskBays (s.maskOf off), rfl⟩

theorem reportSession_cases (c : Chan) (b : Bay) (o : SessionOutcome) (r : Half) (s : State) :
    (reportSession c b o r s).1 = s ∨ (reportSession c b o r s).1 = pschedEvent (endSessionCore c o r) s := by
  unfold reportSession
  repeat' split
  · exact .inr rfl
  all_goals exact .inl rfl

theorem orderSessionEnd_cases (off : Nat) (s : State) : (orderSessionEnd off s).1 = s ∨
    ∃ (c : Chan) (o : SessionOutcome) (r : Half), (orderSessionEnd off s).1 = pschedEvent (endSessionCore c o r) s := by
  have hr : ∀ c b o r, (reportSession c b o r s).1 = s ∨ ∃ (c' : Chan) (o' : SessionOutcome) (r' : Half),
      (reportSession c b o r s).1 = pschedEvent (endSessionCore c' o' r') s := fun c b o r => by
    rcases reportSession_cases c b o r s with h | h
    · exact .inl h
    · exact .inr ⟨c, o, r, h⟩
  unfold orderSessionEnd
  split
  · exact .inl rfl
  · split
    · exact .inl rfl
    · dsimp only
      split
      · split
        · exact .inl rfl
        · exact hr _ _ _ _
      · exact hr _ _ _ _
      · exact .inl rfl

theorem orderSetClock_cases (off : Nat) (s : State) : (orderSetClock off s).1 = s ∨
    ∃ m n : Nat, (orderSetClock off s).1 = setClock m n s := by
  unfold orderSetClock
  dsimp only
  split
  · exact .inl rfl
  · split
    · exact .inl rfl
    · exact .inr ⟨_, _, rfl⟩

theorem orderClearFault_cases (off : Nat) (s : State) : (orderClearFault off s).1 = s ∨ ∃ b : Bay,
    (s.cctl[b].state = .lockedOut ∧ (orderClearFault off s).1 = clearLockout b s) ∨
    (s.bmon[b].path = .cut ∧ (orderClearFault off s).1 = clearCut b s) ∨
    (s.cctl[b].state = .lockedOut ∧ s.bmon[b].path = .cut ∧
      (orderClearFault off s).1 = clearCut b (clearLockout b s)) := by
  unfold orderClearFault
  split
  · exact .inl rfl
  · next b _ =>
    dsimp only
    by_cases hl : s.cctl[b].state = .lockedOut <;> by_cases hc : s.bmon[b].path = .cut
    · exact .inr ⟨b, .inr (.inr ⟨hl, hc, by simp [-Fin.getElem_fin, hl, hc]⟩)⟩
    · exact .inr ⟨b, .inl ⟨hl, by simp [-Fin.getElem_fin, hl, hc]⟩⟩
    · exact .inr ⟨b, .inr (.inl ⟨hc, by simp [-Fin.getElem_fin, hl, hc]⟩)⟩
    · exact .inl (by simp [-Fin.getElem_fin, hl, hc, refuse])

theorem orderSetSupervision_cases (off : Nat) (s : State) : (orderSetSupervision off s).1 = s ∨
    ∃ (c m : Nat) (en : Bool), (orderSetSupervision off s).1 = applySupervision c m en s := by
  unfold orderSetSupervision
  split
  · exact .inl rfl
  · exact .inr ⟨_, _, _, rfl⟩

namespace Passing
variable {P : State → Prop} (hP : Passing P)
include hP

theorem cancelVisits (bays : List Bay) {s : State} (h : P s) : P (cancelVisits bays s).1 := by
  have hv : ∀ (bs : List Bay) (x : State × Nat), P x.1 → P (bs.foldl cancelVisit x).1 := by
    intro bs
    induction bs with
    | nil => exact fun x hx => hx
    | cons b bs ih =>
      refine fun x hx => ih _ ?_
      unfold cancelVisit
      split
      · exact hP.clearCore b hx
      · exact hP.endBayCore b _ hx
      all_goals exact hx
  exact hv bays (s, 0) h

theorem provisionEvent (bays : List Bay) (rev : Half) (n m : Nat) {s : State} (h : P s) :
    P (provisionEvent bays rev n m s) := by
  have hv := hP.of_frame (provVisits_frame bays rev n m s) h
  refine hP.pschedEvent ?_
  dsimp only
  split
  · exact hv
  · exact hP.considerCore hv

theorem silenceReached (b : Bay) {s : State} (h : P s) : P (silenceReached b s) := by
  unfold Machine.silenceReached
  split
  · split
    · refine hP.pschedLineEvent b _ _ (hP.of_frame (setEntry_path_frame b _ s ?_) h)
      rfl
    · exact h
  · exact h

theorem faultReached (b : Bay) {s : State} (h : P s) : P (faultReached b s) := by
  unfold Machine.faultReached
  split
  · have ht : P (raise .bayFault (s.setEntry b { s.bmon[b] with path := .cut, faultTimer := none })) :=
      hP.of_frame (raise_frame _ _) (hP.of_frame (setEntry_path_frame b _ s (by rfl)) h)
    dsimp only
    split
    · exact hP.consider (hP.pschedLineEvent b _ _ ht)
    · exact hP.consider ht
  · exact h

theorem sessionTimeExpires (c : Chan) {s : State} (h : P s) : P (sessionTimeExpires c s) := by
  unfold Machine.sessionTimeExpires
  repeat' split
  · exact hP.pschedEvent (hP.endSessionCore c _ _ h)
  all_goals exact h

theorem clearCut (b : Bay) {s : State} (h : P s) : P (clearCut b s) := by
  unfold Machine.clearCut
  refine hP.consider (hP.of_frame (setEntry_path_frame b _ s ?_) h)
  rfl

end Passing

/-! ## The power at the commands of the bays -/

section power
variable {s : State} (hs : s.powerGoodBut none)
include hs

theorem setEntry_keeps_power (b : Bay) (x : BayEntry) (h : x.occupancy = .empty → s.bmon[b].occupancy = .empty) :
    (s.setEntry b x).powerGoodBut none :=
  setEntry_powerGood (fun _ => h) hs

theorem presenceChange_power (b : Bay) (v : Bool) : (presenceChange b v s).powerGoodBut none := by
  have hp := powerGoodBut_passing none
  have ht : (s.setPins b { s.pins[b] with presence := v }).powerGoodBut none :=
    hp.of_frame (setPins_frame b _ s) hs
  unfold presenceChange
  dsimp only
  split
  · exact hs
  split
  · exact setEntry_keeps_power ht b _ id
  split
  · split
    · exact hp.steady.custLossAbandoned b (setEntry_keeps_power ht b _ id)
    · exact setEntry_keeps_power ht b _ id
  · exact setEntry_keeps_power ht b _ id

theorem attachBay_power (b : Bay) : (attachBay b s).powerGoodBut none := by
  unfold attachBay
  split
  · next h =>
    refine (powerGoodBut_passing none).pass (setCharge_powerGood
      (setEntry_keeps_power hs b _ fun he => absurd he (by simp [BayEntry.attached])) ?_
      (fun he => absurd he (by simp [BayEntry.attached])) fun _ _ => id)
    rw [setEntry_palloc]
    have hoff := (hs b).2 (by simp) h.1
    exact sound_negotiate (hs b).1 (by rw [hoff]; decide) _
  · exact hs

theorem detachBay_power (b : Bay) : (detachBay b s).powerGoodBut none := by
  unfold detachBay
  split
  · have h1 := powerGoodBut_passing (some b)
    have hp : ∀ (e : Option Bay) (t : State), t.powerGoodBut e → (pallocDetach b t).powerGoodBut e := fun e t ht =>
      (powerGoodBut_passing e).pass (powerGoodBut_of_frame ((toppedMark_frame b false t).mono (by decide)) ht)
    have hc : ∀ (e : Option Bay) (t : State), (e = none ∨ e = some b) → t.powerGoodBut e →
        (cctlChange b t.cctl[b].detached t).powerGoodBut none := fun e t he ht =>
      cctlChange_powerGood ht (sound_detached (ht b).1) (fun _ => rfl) fun x hx _ => by
        rcases he with rfl | rfl
        · simp
        · exact fun h => hx (Option.some.inj h).symm
    have hb : (s.setEntry b s.bmon[b].detached).powerGoodBut (some b) :=
      setEntry_powerGood (fun h => absurd rfl h) (powerGoodBut_weaken hs)
    have ht := fun n => h1.of_frame (withChoices_frame n _) (h1.steady.custDetach b s.bmon[b].tag (h1.pschedDetach b hb))
    dsimp only
    rcases eitherOrder_cases (fun t => cctlChange b t.cctl[b].detached t) (pallocDetach b)
      (custDetach b s.bmon[b].tag (pschedDetach b (s.setEntry b s.bmon[b].detached))) with h | h <;> rw [h]
    · exact hp _ _ (hc _ _ (.inr rfl) (ht _))
    · exact hc _ _ (.inr rfl) (hp _ _ (ht _))
  · exact hs

theorem enterAnon_power (b : Bay) : (enterAnon b s).powerGoodBut none :=
  (powerGoodBut_passing none).steady.custOtherEntry b _ ((powerGoodBut_passing none).pass
    (setEntry_keeps_power hs b _ fun he => absurd he (by simp)))

theorem failAttempt_power (b : Bay) (r : TagRead) : (failAttempt b r s).powerGoodBut none := by
  unfold failAttempt
  split
  · exact setEntry_keeps_power hs b _ id
  · exact enterAnon_power hs b

theorem readTag_power (b : Bay) (t : Tag) : (readTag b t s).powerGoodBut none := by
  have hp := powerGoodBut_passing none
  unfold readTag
  split
  · exact hp.steady.custOtherEntry b _ (hp.pass (hp.of_frame (raise_frame _ _)
      (setEntry_keeps_power hs b _ fun he => absurd he (by simp))))
  · exact hp.steady.custTagRead b t (hp.pschedPresent b (hp.pass
      (setEntry_keeps_power hs b _ fun he => absurd he (by simp [BayEntry.entersPresent]))))

theorem doorHeld_power (b : Bay) : (doorHeld b s).powerGoodBut none := by
  have hp := powerGoodBut_passing none
  have hd : ∀ x : BayEntry, x.occupancy = s.bmon[b].occupancy →
      (cctlDoorOpen b (s.setEntry b x)).powerGoodBut none := fun x hx => by
    have he := setEntry_keeps_power hs b x (by rw [hx]; exact id)
    intro c
    obtain ⟨hsound, hoff⟩ := he c
    unfold cctlDoorOpen
    rw [withCctl_cctl, withCctl_palloc, withCctl_bmon, getElem_set_fin]
    split
    · next hc =>
      subst hc
      obtain ⟨y, hy⟩ := noteDoor_eq (s.setEntry c x).cctl[c] (s.setEntry c x).now
      exact ⟨sound_noteDoor hsound _, by rw [hy]; exact hoff⟩
    · exact ⟨hsound, hoff⟩
  unfold doorHeld
  split
  · split
    · unfold doorOpens
      dsimp only
      split
      · exact hp.steady.custForced b (hp.pass (hp.pschedForced b (hp.of_frame (raise_frame _ _) (hd _ rfl))))
      · exact hp.steady.eitherOrder (fun t => hp.pass) (fun t => hp.steady.ldrvDoorOpen b)
          (hp.of_frame (custDoorReleased_frame b _) (hd _ rfl))
    · exact hp.steady.eitherOrder (fun t => hp.pass) (fun t ht => hp.steady.custDoorClosed b (hp.consider ht))
        (setEntry_keeps_power hs b _ id)
  · exact hs

theorem doorInput_power (b : Bay) (v : Door) : (doorInput b v s).powerGoodBut none := by
  unfold doorInput
  split
  · exact hs
  · exact setEntry_keeps_power ((powerGoodBut_passing none).of_frame (setPins_frame b _ s) hs) b _ id

theorem latchInput_power (b : Bay) (v : LatchSense) : (latchInput b v s).powerGoodBut none := by
  unfold latchInput
  split
  · exact hs
  · exact setEntry_keeps_power ((powerGoodBut_passing none).of_frame (setPins_frame b _ s) hs) b _ id

theorem latchHeld_power (b : Bay) : (latchHeld b s).powerGoodBut none := by
  have hp := powerGoodBut_passing none
  unfold latchHeld
  split
  · exact hp.consider (hp.of_frame (ldrvLatchSense_frame b _) (setEntry_keeps_power hs b _ id))
  · exact hs

theorem levelEvent_power (b : Bay) : (levelEvent b s).powerGoodBut none := by
  have hp := powerGoodBut_passing none
  exact hp.steady.eitherOrder (fun t ht => hp.passIfChanged (powerGoodBut_of_frame
    ((toppedMark_frame b _ t).mono (by decide)) ht)) (fun t => hp.consider) hs

theorem pollBay_power (b : Bay) : (pollBay b s).powerGoodBut none := by
  unfold pollBay
  repeat' split
  · exact setEntry_keeps_power hs b _ id
  all_goals exact hs

theorem levelReported_power (b : Bay) (n : Nat) (ok : Bool) : (levelReported b n ok s).powerGoodBut none := by
  unfold levelReported
  split
  · have ht := setEntry_keeps_power hs b { s.bmon[b] with level := some n, levelAge := some s.now } id
    dsimp only
    split
    · exact ht
    · exact levelEvent_power ht b
  · exact hs

theorem reportWaitEnds_power (b : Bay) : (reportWaitEnds b s).powerGoodBut none := by
  unfold reportWaitEnds
  split
  · exact setEntry_keeps_power hs b _ id
  · exact hs

theorem levelStales_power (b : Bay) : (levelStales b s).powerGoodBut none := by
  unfold levelStales
  split
  · have ht := setEntry_keeps_power hs b { s.bmon[b] with level := none, levelAge := none } id
    dsimp only
    split
    · exact ht
    · exact levelEvent_power ht b
  · exact hs

/-! ## The power at the commands of PALLOC and CCTL -/

theorem supplyEvent_power (p : PAlloc) (h : p.bays = s.palloc.bays) : (supplyEvent p s).powerGoodBut none :=
  (powerGoodBut_passing none).pass ((powerGoodBut_passing none).of_frame (raise_frame _ _) (setPalloc_powerGood h hs))

theorem supplyFalls_power : (supplyFalls s).powerGoodBut none := by
  unfold supplyFalls
  split
  · exact supplyEvent_power hs _ rfl
  · exact hs

theorem supplyRises_power : (supplyRises s).powerGoodBut none := by
  unfold supplyRises
  split
  · exact hs
  · split
    · exact supplyEvent_power hs _ rfl
    · exact hs
  · split
    · exact supplyEvent_power hs _ rfl
    · exact hs

theorem thermalSampled_power (r : ThermalReading) : (thermalSampled r s).powerGoodBut none := by
  have hp := powerGoodBut_passing none
  have ht := setPalloc_powerGood (p := s.palloc.resampled r) (sampled_decisions s.palloc r).2 hs
  have hn : (thermalNotice (s.palloc.resampled r) s).powerGoodBut none := by
    unfold thermalNotice
    split
    · exact ht
    · exact hp.of_frame (raise_frame _ _) ht
  by_cases h : s.palloc.sampleSince + Config.thermalPeriod ≤ s.now
  · rw [thermalSampled_due h]
    split
    · exact hn
    · exact hp.pass hn
  · rw [thermalSampled_early h]
    exact hs

theorem chargeChange_power (b : Bay) (c : ChargeBay) (hc : c.sound s.palloc.bays[b].grant)
    (hd : s.cctl[b].state ≠ .off) : (cctlChange b c s).powerGoodBut none :=
  cctlChange_powerGood hs hc (fun he => absurd ((hs b).2 (by simp) he) hd) fun _ _ => id

theorem newDemand_power (b : Bay) (n : Nat) (hd : s.cctl[b].state = .delivering) :
    (newDemand b n s).powerGoodBut none := by
  unfold newDemand
  split
  · exact hs
  · exact chargeChange_power hs b _ (hs b).1 (by rw [hd]; decide)

theorem agreed_power (b : Bay) (n : Nat) : (agreed b n s).powerGoodBut none := by
  unfold agreed
  split
  · next h => exact chargeChange_power hs b _ (sound_deliver (hs b).1 _ _) (by rw [h]; decide)
  · next h => exact newDemand_power hs b n h
  all_goals exact hs

theorem negotiationExpires_power (b : Bay) : (negotiationExpires b s).powerGoodBut none := by
  unfold negotiationExpires
  split
  · next h => exact chargeChange_power hs b _ (sound_deliver (hs b).1 _ _) (by rw [h.1]; decide)
  · exact hs

theorem announced_power (b : Bay) (n : Nat) : (announced b n s).powerGoodBut none := by
  unfold announced
  split
  · next h => exact newDemand_power hs b n h
  · exact hs

theorem rampExpires_power (b : Bay) : (rampExpires b s).powerGoodBut none := by
  unfold rampExpires
  split
  · next hd _ =>
    split
    · exact setCharge_powerGood hs (sound_rampUp (hs b).1 hd _)
        (fun he => absurd ((hs b).2 (by simp) he) (by rw [hd]; decide)) fun _ _ => id
    · exact hs
  · exact hs

theorem tripBay_power (b : Bay) (h : s.cctl[b].state = .delivering) : (tripBay b s).powerGoodBut none :=
  (powerGoodBut_passing none).of_frame (raise_frame _ _)
    (chargeChange_power hs b _ (sound_trip (hs b).1 _) (by rw [h]; decide))

theorem setSamples_power (b : Bay) (n : Nat) (l d : Option Nat) (hd : s.cctl[b].state = .delivering) :
    (s.setCharge b { s.cctl[b] with highSamples := n, lastSample := l, thirdDue := d }).powerGoodBut none :=
  setCharge_powerGood hs ⟨(hs b).1.1, (hs b).1.2.1, (hs b).1.2.2⟩
    (fun he => absurd ((hs b).2 (by simp) he) (by rw [hd]; decide)) fun _ _ => id

theorem comparatorSampled_power (b : Bay) (high : Bool) : (comparatorSampled b high s).powerGoodBut none := by
  unfold comparatorSampled
  dsimp only
  split
  · next h =>
    split
    · exact setSamples_power hs b 0 (some s.now) s.cctl[b].thirdDue h.1
    · split
      · exact setSamples_power hs b (s.cctl[b].highSamples + 1) (some s.now) s.cctl[b].thirdDue h.1
      · exact tripBay_power hs b h.1
  · split
    · next h =>
      have hd : s.cctl[b].state = .delivering := by
        simp only [ChargeBay.sampleAfterDoor, Bool.and_eq_true, beq_iff_eq] at h
        exact h.1.1
      split
      · exact tripBay_power hs b hd
      · exact setSamples_power hs b s.cctl[b].highSamples s.cctl[b].lastSample none hd
    · exact hs

theorem cooldownExpires_power (b : Bay) : (cooldownExpires b s).powerGoodBut none := by
  unfold cooldownExpires
  split
  · next h => exact chargeChange_power hs b _ (sound_negotiate (hs b).1 (by rw [h.1]; decide) _) (by rw [h.1]; decide)
  · exact hs

/-! ## The power at the commands of ACC and SMON -/

theorem setAcc_power (a : Acc) : (s.setAcc a).powerGoodBut none :=
  (powerGoodBut_passing none).of_frame (setAcc_frame a s) hs

theorem changeMinute_power (c : CartClock) : (changeMinute c s).powerGoodBut none :=
  (powerGoodBut_passing none).passIfChanged ((powerGoodBut_passing none).of_frame (lapse_frame _ _)
    (setAcc_power hs _))

theorem clockAdvances_power : (clockAdvances s).powerGoodBut none := by
  unfold clockAdvances
  split
  · split
    · split
      · exact setAcc_power hs _
      · exact changeMinute_power hs _
    · exact hs
  · exact hs

theorem minuteChanges_power : (minuteChanges s).powerGoodBut none := by
  unfold minuteChanges
  repeat' split
  · exact changeMinute_power hs _
  all_goals exact hs

theorem handMode_power (m : Mode) : (handMode m s).powerGoodBut none := by
  have hp := powerGoodBut_passing none
  refine hp.steady.eitherOrder (fun t ht => ?_) (fun t => hp.pschedMode m) hs
  unfold pallocMode
  exact hp.pass (setPalloc_powerGood rfl ht)

theorem setSmon_power (m : Smon) : (s.setSmon m).powerGoodBut none :=
  (powerGoodBut_passing none).of_frame (setSmon_frame m s) hs

theorem failure_power (f : HeartbeatFailure) : (failure f s).powerGoodBut none := by
  unfold failure
  dsimp only
  split
  · exact handMode_power (setSmon_power hs _) _
  · exact (powerGoodBut_passing none).of_frame (raise_frame _ _) (setSmon_power hs _)

theorem returnAttended_power (m : Smon) : (returnAttended m s).powerGoodBut none :=
  handMode_power ((powerGoodBut_passing none).of_frame (raise_frame _ _) (setSmon_power hs _)) _

theorem heartbeat_power : (heartbeat s).powerGoodBut none := by
  unfold heartbeat
  split
  · split
    · exact returnAttended_power hs _
    · exact hs
  · exact failure_power hs _
  · exact setSmon_power hs _

theorem windowTimeExpires_power : (windowTimeExpires s).powerGoodBut none := by
  unfold windowTimeExpires
  split
  · exact failure_power hs _
  · exact hs

end power

end Sys2Proof.Machine
end

section
/-! PROOF. The law of the applied power (R57): resets, write bursts, orders, and every step. -/

namespace Sys2Proof.Machine

-- One declaration after the other: the check compiles the whole text within a memory bound.
set_option Elab.async false

theorem clearCounts_frame (s : State) : s.changedOnly [.counts] (clearCounts s) := by
  intro x hx
  cases x <;> first | exact absurd (by decide) hx | simp [Part.same, clearCounts]

/-- PALLOC decides no grant before its first pass. -/
theorem partReset_grant (p : PAlloc) (input now : Nat) (b : Bay) : (p.partReset input now).bays[b].grant = 0 := by
  simp [PAlloc.partReset, PAlloc.restartTimers, PAlloc.reset, PowerBay.reset]

/-- A state with every bay OFF at zero power keeps the law at its pass. -/
theorem restart_power {s : State} (hc : ∀ b : Bay, s.cctl[b] = ChargeBay.reset)
    (hg : ∀ b : Bay, s.palloc.bays[b].grant = 0) : (clearCounts (pass s)).powerGoodBut none := by
  refine (powerGoodBut_passing none).of_frame (clearCounts_frame _) ((powerGoodBut_passing none).pass fun b => ?_)
  rw [hc, hg]
  exact ⟨⟨le_rfl, rfl, fun _ => rfl⟩, fun _ _ => rfl⟩

theorem partReset_power (k : ResetCause) (s : State) : (partReset k s).powerGoodBut none :=
  restart_power (fun b => by simp) fun b => partReset_grant _ _ _ b

theorem powerUp_power (s : State) : (powerUp s).powerGoodBut none :=
  restart_power (fun b => reset_charge b) fun b => by
    simp [PAlloc.restartTimers, PAlloc.reset, PowerBay.reset]

theorem watchEvents_power (bs : List (Nat × Byte)) {s : State} (hs : s.powerGoodBut none) :
    (watchEvents bs s).powerGoodBut none := by
  have hp := powerGoodBut_passing none
  have hw : ∀ (a : Nat) (f : Byte → State → State) (t : State), t.powerGoodBut none →
      (∀ v, (f v t).powerGoodBut none) → (watch bs a f t).powerGoodBut none := fun a f t ht hf => by
    unfold watch
    split
    · exact hf _
    · exact ht
  have h0 := hw (listStateAt 0) (listCommand 0) s hs fun v => hp.of_frame (listCommand_frame 0 v s) hs
  have h1 := hw (listStateAt 1) (listCommand 1) _ h0 fun v => hp.of_frame (listCommand_frame 1 v _) h0
  have h2 := hw endWordAt (fun v s => s.withNctl (s.nctl.endWord v)) _ h1 fun v => hp.of_frame (withNctl_frame _ _) h1
  exact hw heartbeatAt (fun _ => heartbeat) _ h2 fun _ => heartbeat_power h2

theorem writeBurst_power (w : Burst) {s : State} (hs : s.powerGoodBut none) : (writeBurst w s).powerGoodBut none := by
  have hp := powerGoodBut_passing none
  unfold writeBurst
  split
  · exact watchEvents_power _ (hp.of_frame (recordHit_frame _ _) (hp.of_frame (landBytes_frame _ s) hs))
  · exact hs

/-! ## Orders -/

section orders
variable {s : State} (hs : s.powerGoodBut none)
include hs

theorem applyLimits_power (l : Nat) (caps : Vector Nat 6) (sag : SagSelect) (deep : DeepSelect) :
    (applyLimits l caps sag deep s).powerGoodBut none := by
  have ht := powerGoodBut_of_frame ((setLimited_frame l caps sag deep s).mono (by decide)) hs
  unfold applyLimits
  dsimp only
  split
  · exact ht
  · exact (powerGoodBut_passing none).pass ht

theorem applyThresholds_power (rel mn : Nat) : (applyThresholds rel mn s).powerGoodBut none := by
  have hp := powerGoodBut_passing none
  have ht := hp.of_frame (thresholds_frame rel mn s) hs
  unfold applyThresholds
  dsimp only
  split <;> split
  · exact ht
  · exact hp.passIfChanged ht
  · exact hp.considerCore ht
  · exact hp.considerCore (hp.passIfChanged ht)

theorem changeReservation_power (b : Bay) (r : Option Reservation) : (changeReservation b r s).powerGoodBut none := by
  unfold changeReservation
  split
  · exact hs
  · exact (powerGoodBut_passing none).passIfChanged
      ((powerGoodBut_passing none).of_frame (setReservation_frame b r s) hs)

theorem clearLockout_power {b : Bay} (h : s.cctl[b].state = .lockedOut) : (clearLockout b s).powerGoodBut none := by
  have hn := sound_negotiate (hs b).1 (by rw [h]; decide) s.now
  exact chargeChange_power hs b _ ⟨hn.1, hn.2.1, hn.2.2⟩ (by rw [h]; decide)

theorem orderClearFault_power (off : Nat) : (orderClearFault off s).1.powerGoodBut none := by
  have hp := powerGoodBut_passing none
  rcases orderClearFault_cases off s with h | ⟨b, ⟨hl, h⟩ | ⟨-, h⟩ | ⟨hl, -, h⟩⟩ <;> rw [h]
  · exact hs
  · exact clearLockout_power hs hl
  · exact hp.clearCut b hs
  · exact hp.clearCut b (clearLockout_power hs hl)

theorem applySupervision_power (c m : Nat) (en : Bool) : (applySupervision c m en s).powerGoodBut none := by
  unfold applySupervision
  dsimp only
  split
  · exact setSmon_power hs _
  · exact setSmon_power hs _
  · exact setSmon_power hs _
  · exact returnAttended_power hs _

theorem owner_power (k : OrderKind) (off : Nat) : (k.owner off s).1.powerGoodBut none := by
  have hp := powerGoodBut_passing none
  cases k with
  | setLimits =>
    rcases orderSetLimits_cases off s with h | ⟨_, _, _, _, h⟩ <;> rw [OrderKind.owner, h]
    · exact hs
    · exact applyLimits_power hs _ _ _ _
  | setThresholds => exact hp.pschedEvent (applyThresholds_power hs _ _)
  | bayConfig =>
    rcases orderBayConfig_cases off s with h | ⟨_, _, h⟩ <;> rw [OrderKind.owner, h]
    · exact hs
    · exact setEntry_keeps_power hs _ _ id
  | reserve =>
    rcases orderReserve_cases off s with h | ⟨_, _, h⟩ <;> rw [OrderKind.owner, h]
    · exact hs
    · exact changeReservation_power hs _ _
  | provision =>
    rcases orderProvision_cases off s with h | ⟨_, _, _, _, h⟩ <;> rw [OrderKind.owner, h]
    · exact hs
    · exact hp.provisionEvent _ _ _ _ hs
  | cancelProvision =>
    rcases orderCancelProvision_cases off s with h | ⟨bays, h⟩ <;> rw [OrderKind.owner, h]
    · exact hs
    · exact hp.pschedEvent (f := fun s => (cancelVisits bays s).1) (hp.cancelVisits bays hs)
  | sessionEnd =>
    rcases orderSessionEnd_cases off s with h | ⟨_, _, _, h⟩ <;> rw [OrderKind.owner, h]
    · exact hs
    · exact hp.pschedEvent (hp.endSessionCore _ _ _ hs)
  | setClock =>
    rcases orderSetClock_cases off s with h | ⟨_, _, h⟩ <;> rw [OrderKind.owner, h]
    · exact hs
    · exact hp.passIfChanged (setAcc_power hs _)
  | releaseBay => exact orderReleaseBay_steady hp.steady off hs fun b => hp.pschedAbort b hs
  | setLatchMode => exact orderSetLatchMode_steady hp.steady off hs
  | clearFault => exact orderClearFault_power hs off
  | setSupervision =>
    rcases orderSetSupervision_cases off s with h | ⟨_, _, _, h⟩ <;> rw [OrderKind.owner, h]
    · exact hs
    · exact applySupervision_power hs _ _ _
  | commitCredentials => exact hp.of_frame (owner_frame .commitCredentials off s) hs
  | commitWindows => exact hp.of_frame (owner_frame .commitWindows off s) hs
  | custodyRestore => exact hp.of_frame (owner_frame .custodyRestore off s) hs
  | forgetTablet => exact hp.of_frame (owner_frame .forgetTablet off s) hs
  | setNotice => exact hp.of_frame (owner_frame .setNotice off s) hs

end orders

/-! ## Every step (O5) -/

theorem exec_power : ∀ (i : Instr) (s t : State), s.powerGoodBut none → exec i s = .next t →
    t.powerGoodBut none := by
  have hp := powerGoodBut_passing none
  refine exec_keeps_of_parts (l := [.bays, .grants, .charge, .delivery]) ?_
    (dispatch_keeps (fun h hs => hp.of_frame h hs) fun k off s hs => owner_power hs k off) ?_
  · intro s t m h hm hs
    refine powerGoodBut_of_same (fun b => ?_) (fun b => ?_) (fun b _ he => ?_) hs
    · have hd := h .delivery (hm _ (by simp)) b
      exact ⟨hd.2.1, hd.1, (state_of_body (h .charge (hm _ (by simp)) b)).1⟩
    · exact ((h .grants (hm _ (by simp))).2 b).2.2
    · rw [← (entry_of_body (h .bays (hm _ (by simp)) b)).1]
      exact he
  intro i s t hi hpart hs h
  cases i with
  | powerOn => rw [exec_next_eq h rfl]; exact powerUp_power s
  | resetnPartReset cut => rw [exec_next_eq h rfl]; exact partReset_power _ _
  | controlPartReset ds => rw [exec_next_eq h rfl]; exact partReset_power _ _
  | registerWrite n data =>
    rw [exec_next_eq h rfl]
    rcases writeRegister_cases n data s with hw | hw <;> rw [hw]
    · exact hs
    · exact partReset_power _ _
  | memoryWrite w => rw [exec_next_eq h rfl]; exact writeBurst_power w hs
  | presenceInputChange b v => rw [exec_next_eq h rfl]; exact presenceChange_power hs b v
  | attach b => rw [exec_next_eq h rfl]; exact attachBay_power hs b
  | detach b => rw [exec_next_eq h rfl]; exact detachBay_power hs b
  | tagFrame b tag ok =>
    rw [exec_next_eq h rfl]
    unfold tagFrameArrives
    repeat' split
    · exact readTag_power hs b tag
    · exact failAttempt_power hs b _
    all_goals exact hs
  | tagReadAttemptExpiry b =>
    rw [exec_next_eq h rfl]
    unfold tagReadExpires
    repeat' split
    · exact failAttempt_power hs b _
    all_goals exact hs
  | doorInputChange b v => rw [exec_next_eq h rfl]; exact doorInput_power hs b _
  | doorEvent b => rw [exec_next_eq h rfl]; exact doorHeld_power hs b
  | latchSenseInputChange b v => rw [exec_next_eq h rfl]; exact latchInput_power hs b _
  | latchSenseChange b => rw [exec_next_eq h rfl]; exact latchHeld_power hs b
  | levelPoll b => rw [exec_next_eq h rfl]; exact pollBay_power hs b
  | levelReport b n ok => rw [exec_next_eq h rfl]; exact levelReported_power hs b _ ok
  | levelReportWaitExpiry b => rw [exec_next_eq h rfl]; exact reportWaitEnds_power hs b
  | levelStale b => rw [exec_next_eq h rfl]; exact levelStales_power hs b
  | silenceEvent b => rw [exec_next_eq h rfl]; exact hp.silenceReached b hs
  | faultLevelExpiry b => rw [exec_next_eq h rfl]; exact hp.faultReached b hs
  | supplyFall => rw [exec_next_eq h rfl]; exact supplyFalls_power hs
  | supplyRise => rw [exec_next_eq h rfl]; exact supplyRises_power hs
  | thermalSample r => rw [exec_next_eq h rfl]; exact thermalSampled_power hs r
  | agreement b n => rw [exec_next_eq h rfl]; exact agreed_power hs b n
  | negotiationExpiry b => rw [exec_next_eq h rfl]; exact negotiationExpires_power hs b
  | demandAnnouncement b n => rw [exec_next_eq h rfl]; exact announced_power hs b n
  | rampStep b => rw [exec_next_eq h rfl]; exact rampExpires_power hs b
  | overCurrentSample b high => rw [exec_next_eq h rfl]; exact comparatorSampled_power hs b high
  | cooldownExpiry b => rw [exec_next_eq h rfl]; exact cooldownExpires_power hs b
  | sessionTimerExpiry c => rw [exec_next_eq h rfl]; exact hp.sessionTimeExpires c hs
  | tokenArrival f => rw [exec_next_eq h rfl]; exact hp.steady.frameComplete f hs
  | clockSecond => rw [exec_next_eq h rfl]; exact clockAdvances_power hs
  | changeOfMinute => rw [exec_next_eq h rfl]; exact minuteChanges_power hs
  | releaseWindowExpiry b => rw [exec_next_eq h rfl]; exact hp.steady.windowExpires b hs
  | latchWaitExpiry b => rw [exec_next_eq h rfl]; exact hp.steady.latchWaitExpires b hs
  | driveTimeEnd k => rw [exec_next_eq h rfl]; exact hp.steady.driveTimeEnds k hs
  | windowExpiry => rw [exec_next_eq h rfl]; exact windowTimeExpires_power hs
  | _ => first | exact absurd hi (by decide) | exact absurd hpart (by dsimp only [partsOf]; decide)

/-- Settles O5. -/
theorem everyStepKeepsPowerWithinGrant : Obligations.EveryStepKeepsPowerWithinGrant := by
  unfold Obligations.EveryStepKeepsPowerWithinGrant
  simp only [powerGood_iff]
  exact step_keeps (fun _ _ h => h) (fun _ _ h => h) exec_power

end Sys2Proof.Machine
end

section
/-! PROOF. When the grants are settled (R45, R46): what they depend on, what a pass makes of them, and that the
operations of the blocks keep them settled. -/

namespace Sys2Proof.Machine

-- One declaration after the other: the check compiles the whole text within a memory bound.
set_option Elab.async false

/-! ## What the grants depend on -/

/-- The inputs of a pass at the bays are the same in two states. -/
def State.sameInputs (s t : State) : Prop :=
  (∀ b : Bay, (t.psched.channelOf b).isSome = (s.psched.channelOf b).isSome) ∧
  t.psched.releaseThreshold = s.psched.releaseThreshold ∧ t.minute = s.minute ∧
  t.acc.reservations = s.acc.reservations ∧
  (∀ b : Bay, t.palloc.bays[b].toppedMark = s.palloc.bays[b].toppedMark) ∧
  (∀ b : Bay, t.bmon[b].occupancy = s.bmon[b].occupancy ∧ t.bmon[b].door = s.bmon[b].door ∧
    t.bmon[b].level = s.bmon[b].level) ∧
  (∀ b : Bay, t.cctl[b].state = s.cctl[b].state ∧ t.cctl[b].demand = s.cctl[b].demand)

/-- What a pass has decided, and the budget and caps it decided by, are the same in two states. -/
def State.sameDecisions (s t : State) : Prop :=
  t.palloc.net = s.palloc.net ∧ t.palloc.netBudget = s.palloc.netBudget ∧ t.palloc.caps = s.palloc.caps ∧
  ∀ b : Bay, t.palloc.bays[b].tier = s.palloc.bays[b].tier ∧ t.palloc.bays[b].want = s.palloc.bays[b].want ∧
    t.palloc.bays[b].grant = s.palloc.bays[b].grant

theorem sameDecisions_of_palloc {s t : State} (h : t.palloc = s.palloc) : s.sameDecisions t := by
  unfold State.sameDecisions
  rw [h]
  exact ⟨rfl, rfl, rfl, fun _ => ⟨rfl, rfl, rfl⟩⟩

theorem sameInputs_tierOf {s t : State} (h : s.sameInputs t) (b : Bay) : t.tierOf b = s.tierOf b := by
  obtain ⟨hch, hthr, hmin, hres, htop, hbm, -⟩ := h
  unfold State.tierOf State.reservationTest
  rw [hch, hthr, hmin, hres, htop, (hbm b).2.2]

theorem sameInputs_wantOf {s t : State} (h : s.sameInputs t) (b : Bay) (x : Tier) : t.wantOf b x = s.wantOf b x := by
  obtain ⟨-, -, -, -, -, hbm, hcc⟩ := h
  unfold State.wantOf
  rw [(hbm b).1, (hbm b).2.1, (hcc b).1, (hcc b).2]

theorem settled_congr {s t : State} (hd : s.sameDecisions t) (hi : s.sameInputs t) (hs : s.settled) : t.settled :=
  settled_of_same hs hd.1 hd.2.1 hd.2.2.1 hd.2.2.2 fun b => by
    rw [sameInputs_tierOf hi, sameInputs_wantOf hi]
    exact ⟨rfl, rfl⟩

/-- N, and grants that are those of one pass over the tiers and wants in force. -/
def State.passGood (s : State) : Prop :=
  s.palloc.net = s.palloc.netBudget ∧ ∀ b : Bay, s.palloc.bays[b].grant =
    (allocate s.palloc.netBudget s.palloc.caps (Vector.ofFn fun x : Bay =>
      { tier := s.palloc.bays[x].tier, want := s.palloc.bays[x].want })).grants[b]

theorem passInputs_of_in_force {s : State} (h : ∀ b : Bay, s.palloc.bays[b].tier = s.tierOf b ∧
    s.palloc.bays[b].want = s.wantOf b (s.tierOf b)) : s.passInputs = Vector.ofFn fun x : Bay =>
      { tier := s.palloc.bays[x].tier, want := s.palloc.bays[x].want } := by
  unfold State.passInputs
  exact congrArg Vector.ofFn (funext fun b => by rw [(h b).1, (h b).2])

theorem settled_iff (s : State) : s.settled ↔ s.passGood ∧ ∀ b : Bay, s.palloc.bays[b].tier = s.tierOf b ∧
    s.palloc.bays[b].want = s.wantOf b (s.tierOf b) := by
  constructor
  · rintro ⟨hn, hb⟩
    have hi := fun b => And.intro (hb b).1 (hb b).2.1
    exact ⟨⟨hn, fun b => by rw [← passInputs_of_in_force hi]; exact (hb b).2.2⟩, hi⟩
  · rintro ⟨⟨hn, hg⟩, hi⟩
    exact ⟨hn, fun b => ⟨(hi b).1, (hi b).2, by rw [passInputs_of_in_force hi]; exact hg b⟩⟩

theorem settled_passGood {s : State} (h : s.settled) : s.passGood :=
  ((settled_iff s).mp h).1

theorem passGood_congr {s t : State} (h : s.sameDecisions t) (hs : s.passGood) : t.passGood := by
  obtain ⟨hn, hb, hc, hg⟩ := h
  refine ⟨by rw [hn, hb]; exact hs.1, fun b => ?_⟩
  rw [hb, hc, (hg b).2.2]
  simp only [fun x : Bay => (hg x).1, fun x : Bay => (hg x).2.1]
  exact hs.2 b

/-- A change handed to PALLOC leaves the grants settled (R45). -/
theorem passIfChanged_of_passGood {s : State} (h : s.passGood) : (passIfChanged s).settled := by
  rcases passIfChanged_cases s with ⟨-, hp⟩ | ⟨hi, hp⟩ <;> rw [hp]
  · exact pass_settled s
  · refine (settled_iff s).mpr ⟨h, fun b => ?_⟩
    have := List.any_eq_false.mp hi b (List.mem_finRange b)
    simp only [Bool.or_eq_true, bne_iff_ne, ne_eq, not_or, not_not] at this
    exact ⟨this.1.symm, this.2.symm⟩

/-! ## Frames -/

theorem settings_fields {p q : PAlloc} (h : p.settings = q.settings) :
    p.netBudget = q.netBudget ∧ p.caps = q.caps ∧ ∀ b : Bay, p.bays[b].toppedMark = q.bays[b].toppedMark := by
  have hbays : p.settings.bays = q.settings.bays := by rw [h]
  simp only [PAlloc.settings, PAlloc.mk.injEq] at h
  obtain ⟨h1, h2, -, -, h3, -, -, -, -, h4, h5, -, -, h6, h7, -⟩ := h
  refine ⟨?_, h2, fun b => ?_⟩
  · unfold PAlloc.netBudget PAlloc.supplyFactor PAlloc.thermalFactor
    rw [h1, h3, h4, h5, h6, h7]
  · have hm : ∀ r : PAlloc, r.settings.bays[b].toppedMark = r.bays[b].toppedMark := fun r => by
      simp [PAlloc.settings]
    calc p.bays[b].toppedMark = p.settings.bays[b].toppedMark := (hm p).symm
      _ = q.settings.bays[b].toppedMark := congrArg (fun v : Vector PowerBay 36 => v[b].toppedMark) hbays
      _ = q.bays[b].toppedMark := hm q

theorem sameDecisions_of_frame {s t : State} {l : List Part} (h : s.changedOnly l t) (hl : Part.limits ∉ l)
    (hg : Part.grants ∉ l) : s.sameDecisions t := by
  obtain ⟨hb, hc, -⟩ := settings_fields (h .limits hl)
  obtain ⟨hn, hg⟩ := h .grants hg
  exact ⟨hn, hb, hc, hg⟩

/-- The parts that no input of a pass lies in. -/
abbrev idleParts : List Part := .paths :: .custody :: .delivery :: quietParts

theorem sameInputs_of_frame {s t : State} {l : List Part} (h : s.changedOnly l t) (hl : l ⊆ .grants :: idleParts) :
    s.sameInputs t := by
  have h := h.mono hl
  refine ⟨fun b => ?_, (h .provSettings (by decide)).2.1, ?_, h .reservations (by decide),
    (settings_fields (h .limits (by decide))).2.2, fun b => entry_of_body (h .bays (by decide) b),
    fun b => state_of_body (h .charge (by decide) b)⟩
  · unfold PSched.channelOf
    rw [(h .prov (by decide)).2.2]
  · unfold State.minute
    rw [h .clock (by decide)]

theorem settled_of_frame {s t : State} {l : List Part} (h : s.changedOnly l t) (hs : s.settled)
    (hl : l ⊆ idleParts := by decide) : t.settled :=
  settled_congr (sameDecisions_of_frame (h.mono hl) (by decide) (by decide))
    (sameInputs_of_frame h fun _ hx => List.mem_cons_of_mem _ (hl hx)) hs

theorem passGood_of_frame {s t : State} {l : List Part} (h : s.changedOnly l t) (hs : s.passGood)
    (hl : Part.limits ∉ l := by decide) (hg : Part.grants ∉ l := by decide) : t.passGood :=
  passGood_congr (sameDecisions_of_frame h hl hg) hs

theorem pass_shown_frame (l : List Byte) (s : State) : (pass s).changedOnly [.counts] (passFrom l s) := by
  intro x hx
  cases x <;> first | exact absurd (by decide) hx | simp [Part.same]

theorem passFrom_settled (l : List Byte) (s : State) : (passFrom l s).settled :=
  settled_of_frame (pass_shown_frame l s) (pass_settled s)

theorem reservePass_settled (r : Nat) (s : State) : (reservePass r s).settled :=
  passFrom_settled _ _

theorem passGood_passing : Passing State.passGood where
  frame h hs := passGood_of_frame (h.mono (by decide)) hs (l := movableParts)
  pass _ := settled_passGood (pass_settled _)
  reserve r _ _ := settled_passGood (reservePass_settled r _)

/-! ## BMON, CCTL and PSCHED -/

theorem setEntry_settled {b : Bay} {e : BayEntry} {s : State} (h : e.occupancy = s.bmon[b].occupancy ∧
    e.door = s.bmon[b].door ∧ e.level = s.bmon[b].level) (hs : s.settled) : (s.setEntry b e).settled := by
  refine settled_congr (sameDecisions_of_palloc (setEntry_palloc ..)) ?_ hs
  refine ⟨fun c => by rw [setEntry_psched], by rw [setEntry_psched], ?_, by rw [setEntry_acc],
    fun c => by rw [setEntry_palloc], fun c => ?_, fun c => by rw [setEntry_cctl]; exact ⟨rfl, rfl⟩⟩
  · unfold State.minute
    rw [setEntry_acc]
  · rw [setEntry_bmon, getElem_set_fin]
    split
    · next hc => subst hc; exact h
    · exact ⟨rfl, rfl, rfl⟩

theorem setEntry_passGood {b : Bay} {e : BayEntry} {s : State} (hs : s.passGood) : (s.setEntry b e).passGood :=
  passGood_of_frame (setEntry_frame b e s) hs

theorem setCharge_settled {b : Bay} {c : ChargeBay} {s : State} (h : c.state = s.cctl[b].state ∧
    c.demand = s.cctl[b].demand) (hs : s.settled) : (s.setCharge b c).settled := by
  refine settled_congr (sameDecisions_of_palloc (setCharge_palloc ..)) ?_ hs
  refine ⟨fun c => by rw [setCharge_psched], by rw [setCharge_psched], ?_, by rw [setCharge_acc],
    fun c => by rw [setCharge_palloc], fun c => by rw [setCharge_bmon]; exact ⟨rfl, rfl, rfl⟩, fun x => ?_⟩
  · unfold State.minute
    rw [setCharge_acc]
  · rw [setCharge_cctl, getElem_set_fin]
    split
    · next hx => subst hx; exact h
    · exact ⟨rfl, rfl⟩

/-- PSCHED may change what does not make a channel BUSY or IDLE with a bay, nor the release threshold. -/
theorem settled_of_psched {s t : State} {l : List Part} (h : s.changedOnly l t)
    (hch : ∀ b : Bay, (t.psched.channelOf b).isSome = (s.psched.channelOf b).isSome)
    (hthr : t.psched.releaseThreshold = s.psched.releaseThreshold) (hs : s.settled)
    (hl : l ⊆ .prov :: .provSettings :: idleParts := by decide) : t.settled := by
  have h := h.mono hl
  refine settled_congr (sameDecisions_of_frame h (by decide) (by decide)) ⟨hch, hthr, ?_,
    h .reservations (by decide), (settings_fields (h .limits (by decide))).2.2,
    fun b => entry_of_body (h .bays (by decide) b), fun b => state_of_body (h .charge (by decide) b)⟩ hs
  unfold State.minute
  rw [h .clock (by decide)]

theorem clearCore_settled (b : Bay) {s : State} (hs : s.settled) : (clearCore b s).settled :=
  settled_of_psched (clearCore_frame b s) (fun _ => rfl) rfl hs

theorem setProv_settled (b : Bay) (r : ProvRecord) {s : State} (hs : s.settled) : (s.setProv b r).settled :=
  settled_of_psched (setProv_frame b r s) (fun _ => rfl) rfl hs

theorem pschedEvent_settled {f : State → State} {s : State} (h : (f s).settled) : (pschedEvent f s).settled :=
  settled_of_frame (pschedEvent_counts f s) h

theorem scanCore_settled (n : Nat) {s : State} (hs : s.settled) : (scanCore n s).settled := by
  induction n generalizing s with
  | zero => exact hs
  | succ n ih =>
    unfold scanCore
    split
    · exact ih (pass_settled _)
    · exact hs

theorem considerCore_settled {s : State} (hs : s.settled) : (considerCore s).settled := by
  unfold considerCore
  split
  · exact hs
  · exact scanCore_settled 4 hs

theorem consider_settled {s : State} (hs : s.settled) : (consider s).settled :=
  pschedEvent_settled (considerCore_settled hs)

theorem endSessionCore_settled (c : Chan) (o : SessionOutcome) (r : Half) {s : State} (hs : s.settled) :
    (endSessionCore c o r s).settled := by
  cases hx : s.psched.channels[c].session with
  | none => rw [endSessionCore_idle hx]; exact hs
  | some x =>
    rw [endSessionCore_busy hx]
    exact considerCore_settled (settled_of_frame (endNotices_frame _ _) (pass_settled _))

theorem endBayCore_settled (b : Bay) (o : SessionOutcome) {s : State} (hs : s.settled) :
    (endBayCore b o s).settled := by
  unfold endBayCore
  repeat' split
  · exact endSessionCore_settled _ _ _ hs
  all_goals exact hs

theorem pschedPresent_settled (b : Bay) {s : State} (hs : s.settled) : (pschedPresent b s).settled :=
  pschedEvent_settled (considerCore_settled (setProv_settled b _ (clearCore_settled b hs)))

theorem pschedLineEvent_settled (b : Bay) (c : Chan) (o : SessionOutcome) {s : State} (hs : s.settled) :
    (pschedLineEvent b c o s).settled := by
  refine pschedEvent_settled ?_
  split
  · split
    · exact endSessionCore_settled _ _ _ hs
    · exact hs
  · exact hs

theorem pschedWithdraw_settled (b : Bay) {s : State} (hs : s.settled) : (pschedWithdraw b s).settled := by
  refine pschedEvent_settled (f := fun s => if s.psched.records[b].state = .waiting then clearCore b s else s) ?_
  split
  · exact clearCore_settled b hs
  · exact hs

theorem schedMode_frame (m : Mode) (s : State) :
    s.changedOnly [.provSettings] (s.withPsched { s.psched with mode := m }) := by
  intro x hx
  cases x <;> first | exact absurd (by decide) hx | simp [Part.same]

theorem pschedMode_settled (m : Mode) {s : State} (hs : s.settled) : (pschedMode m s).settled := by
  have hm : ∀ m : Mode, (s.withPsched { s.psched with mode := m }).settled := fun m =>
    settled_of_psched (schedMode_frame m s) (fun _ => rfl) rfl hs
  cases m
  · exact pschedEvent_settled (considerCore_settled (hm .attended))
  · refine pschedEvent_settled (f := fun s => (List.finRange 4).foldl (fun t c => endSessionCore c .hostLost 0 t)
      (s.withPsched { s.psched with mode := .standalone })) ?_
    exact foldl_keeps (fun t c ht => endSessionCore_settled c .hostLost 0 ht) _ (hm .standalone)

/-- Settled grants are steady: a consideration and a change of the reserve end in a pass. -/
theorem settled_steady : Steady State.settled where
  frame h hs := settled_of_frame h hs
  consider hs := consider_settled hs
  reserve r _ _ := reservePass_settled r _
  relocate _ hs := settled_of_frame (changeRecordAt_frame _ _ _) hs
  place b t _ hs := settled_of_frame (placeTag_frame b t _) (settled_of_frame (clearBay_frame b _ _) hs)
  withdraw b _ hs := pschedWithdraw_settled b hs

/-- A change of charge state at a bay ends settled. -/
theorem cctlChange_settled (b : Bay) (c : ChargeBay) {s : State} (hs : s.passGood) : (cctlChange b c s).settled := by
  have hp := passIfChanged_of_passGood (passGood_of_frame (setCharge_frame b c s) hs)
  unfold cctlChange
  dsimp only
  split
  · exact consider_settled hp
  · exact hp

end Sys2Proof.Machine
end

section
/-! PROOF. The grants stay those of one pass over the inputs as they stand (R45, R46), over every step. -/

namespace Sys2Proof.Machine

-- One declaration after the other: the check compiles the whole text within a memory bound.
set_option Elab.async false

section settled
variable {s : State} (hs : s.settled)
include hs

/-! ## Bays and doors -/

theorem presenceChange_settled (b : Bay) (v : Bool) : (presenceChange b v s).settled := by
  have ht : (s.setPins b { s.pins[b] with presence := v }).settled := settled_of_frame (setPins_frame b _ s) hs
  unfold presenceChange
  dsimp only
  split
  · exact hs
  split
  · exact setEntry_settled ⟨rfl, rfl, rfl⟩ ht
  split
  · split
    · exact settled_steady.custLossAbandoned b (setEntry_settled ⟨rfl, rfl, rfl⟩ ht)
    · exact setEntry_settled ⟨rfl, rfl, rfl⟩ ht
  · exact setEntry_settled ⟨rfl, rfl, rfl⟩ ht

theorem attachBay_settled (b : Bay) : (attachBay b s).settled := by
  unfold attachBay
  split
  · exact pass_settled _
  · exact hs

theorem detachBay_settled (b : Bay) : (detachBay b s).settled := by
  have hp := passGood_passing
  unfold detachBay
  split
  · dsimp only
    have ht := fun n => hp.of_frame (withChoices_frame n _) (hp.steady.custDetach b s.bmon[b].tag
      (hp.pschedDetach b (setEntry_passGood (b := b) (e := s.bmon[b].detached) (settled_passGood hs))))
    rcases eitherOrder_cases (fun t => cctlChange b t.cctl[b].detached t) (pallocDetach b)
      (custDetach b s.bmon[b].tag (pschedDetach b (s.setEntry b s.bmon[b].detached))) with h | h <;> rw [h]
    · exact pass_settled _
    · exact cctlChange_settled b _ (settled_passGood (pass_settled _))
  · exact hs

omit hs in
theorem enterAnon_settled (b : Bay) : (enterAnon b s).settled :=
  settled_steady.custOtherEntry b _ (pass_settled _)

theorem failAttempt_settled (b : Bay) (r : TagRead) : (failAttempt b r s).settled := by
  unfold failAttempt
  split
  · exact setEntry_settled ⟨rfl, rfl, rfl⟩ hs
  · exact enterAnon_settled b

omit hs in
theorem readTag_settled (b : Bay) (t : Tag) : (readTag b t s).settled := by
  unfold readTag
  split
  · exact settled_steady.custOtherEntry b _ (pass_settled _)
  · exact settled_steady.custTagRead b t (pschedPresent_settled b (pass_settled _))

theorem doorInput_settled (b : Bay) (v : Door) : (doorInput b v s).settled := by
  unfold doorInput
  split
  · exact hs
  · exact setEntry_settled ⟨rfl, rfl, rfl⟩ (settled_of_frame (setPins_frame b _ s) hs)

theorem doorHeld_settled (b : Bay) : (doorHeld b s).settled := by
  unfold doorHeld
  split
  · split
    · unfold doorOpens
      dsimp only
      split
      · exact settled_steady.custForced b (pass_settled _)
      · rcases eitherOrder_cases pass (ldrvDoorOpen b) (custDoorReleased b (cctlDoorOpen b (s.setEntry b
          { s.bmon[b] with door := .opened, doorDebounce := none, lastOpen := some (s.openClass b) }))) with
          h | h <;> rw [h]
        · exact settled_steady.ldrvDoorOpen b (pass_settled _)
        · exact pass_settled _
    · unfold doorCloses
      rcases eitherOrder_cases pass (fun t => custDoorClosed b (consider t)) (s.setEntry b
        { s.bmon[b] with door := .closed, doorDebounce := none }) with h | h <;> rw [h]
      · exact settled_steady.custDoorClosed b (consider_settled (pass_settled _))
      · exact pass_settled _
  · exact hs

theorem latchInput_settled (b : Bay) (v : LatchSense) : (latchInput b v s).settled := by
  unfold latchInput
  split
  · exact hs
  · exact setEntry_settled ⟨rfl, rfl, rfl⟩ (settled_of_frame (setPins_frame b _ s) hs)

theorem latchHeld_settled (b : Bay) : (latchHeld b s).settled := by
  unfold latchHeld
  split
  · exact consider_settled (settled_of_frame (ldrvLatchSense_frame b _) (setEntry_settled ⟨rfl, rfl, rfl⟩ hs))
  · exact hs

omit hs in
theorem pallocLevel_settled (b : Bay) {t : State} (ht : t.passGood) : (pallocLevel b t).settled := by
  refine passIfChanged_of_passGood (passGood_congr (s := t) ⟨rfl, rfl, rfl, fun x => ?_⟩ ht)
  rw [withPalloc_palloc, getElem_set_fin]
  split
  · next hx => subst hx; exact ⟨rfl, rfl, rfl⟩
  · exact ⟨rfl, rfl, rfl⟩

omit hs in
theorem levelEvent_settled (b : Bay) {t : State} (ht : t.passGood) : (levelEvent b t).settled := by
  have hc := passGood_of_frame (withChoices_frame (t.choices + 1) t) ht
  unfold levelEvent
  rcases eitherOrder_cases (pallocLevel b) consider t with h | h <;> rw [h]
  · exact consider_settled (pallocLevel_settled b hc)
  · exact pallocLevel_settled b (passGood_passing.consider hc)

theorem pollBay_settled (b : Bay) : (pollBay b s).settled := by
  unfold pollBay
  repeat' split
  · exact setEntry_settled ⟨rfl, rfl, rfl⟩ hs
  all_goals exact hs

theorem levelReported_settled (b : Bay) (n : Nat) (ok : Bool) : (levelReported b n ok s).settled := by
  unfold levelReported
  split
  · dsimp only
    split
    · next hl => exact setEntry_settled ⟨rfl, rfl, hl.symm⟩ hs
    · exact levelEvent_settled b (setEntry_passGood (settled_passGood hs))
  · exact hs

theorem reportWaitEnds_settled (b : Bay) : (reportWaitEnds b s).settled := by
  unfold reportWaitEnds
  split
  · exact setEntry_settled ⟨rfl, rfl, rfl⟩ hs
  · exact hs

theorem levelStales_settled (b : Bay) : (levelStales b s).settled := by
  unfold levelStales
  split
  · dsimp only
    split
    · next hl => exact setEntry_settled ⟨rfl, rfl, hl.symm⟩ hs
    · exact levelEvent_settled b (setEntry_passGood (settled_passGood hs))
  · exact hs

theorem silenceReached_settled (b : Bay) : (silenceReached b s).settled := by
  unfold silenceReached
  split
  · split
    · exact pschedLineEvent_settled b _ _ (setEntry_settled ⟨rfl, rfl, rfl⟩ hs)
    · exact hs
  · exact hs

theorem faultReached_settled (b : Bay) : (faultReached b s).settled := by
  unfold faultReached
  split
  · have ht : (raise .bayFault (s.setEntry b { s.bmon[b] with path := .cut, faultTimer := none })).settled :=
      settled_of_frame (raise_frame _ _) (setEntry_settled ⟨rfl, rfl, rfl⟩ hs)
    dsimp only
    split
    · exact consider_settled (pschedLineEvent_settled b _ _ ht)
    · exact consider_settled ht
  · exact hs

/-! ## Supply, temperature and charge -/

/-- PALLOC may change what enters neither N nor the caps nor the wants. -/
theorem setPalloc_settled {p : PAlloc} (hn : p.net = s.palloc.net) (hb : p.netBudget = s.palloc.netBudget)
    (hc : p.caps = s.palloc.caps) (hbays : p.bays = s.palloc.bays) : (s.setPalloc p).settled := by
  have hp : (s.setPalloc p).palloc = p := setPalloc_palloc ..
  refine settled_congr ⟨by rw [hp, hn], by rw [hp, hb], by rw [hp, hc], fun b => by rw [hp, hbays]; exact
    ⟨rfl, rfl, rfl⟩⟩ ⟨fun b => by rw [setPalloc_psched], by rw [setPalloc_psched], ?_, by rw [setPalloc_acc],
    fun b => by rw [hp, hbays], fun b => by rw [setPalloc_bmon]; exact ⟨rfl, rfl, rfl⟩,
    fun b => by rw [setPalloc_cctl]; exact ⟨rfl, rfl⟩⟩ hs
  unfold State.minute
  rw [setPalloc_acc]

theorem supplyInput_settled (n : Nat) : (supplyInput n s).settled :=
  settled_congr (s := s) (t := supplyInput n s) ⟨rfl, rfl, rfl, fun _ => ⟨rfl, rfl, rfl⟩⟩
    ⟨fun _ => rfl, rfl, rfl, rfl, fun _ => rfl, fun _ => ⟨rfl, rfl, rfl⟩, fun _ => ⟨rfl, rfl⟩⟩ hs

theorem supplyFalls_settled : (supplyFalls s).settled := by
  unfold supplyFalls
  split
  · exact pass_settled _
  · exact hs

theorem supplyRises_settled : (supplyRises s).settled := by
  unfold supplyRises
  split
  · exact hs
  · split
    · exact pass_settled _
    · exact hs
  · split
    · exact pass_settled _
    · exact hs

omit hs in
theorem resampled_settings (p : PAlloc) (r : ThermalReading) : (p.resampled r).net = p.net ∧
    (p.resampled r).bays = p.bays ∧ (p.resampled r).caps = p.caps ∧ (p.resampled r).limit = p.limit ∧
    (p.resampled r).reserve = p.reserve ∧ (p.resampled r).supply = p.supply ∧
    (p.resampled r).supervisionFactor = p.supervisionFactor := by
  unfold PAlloc.resampled PAlloc.sampled
  split
  · exact ⟨rfl, rfl, rfl, rfl, rfl, rfl, rfl⟩
  · split <;> exact ⟨rfl, rfl, rfl, rfl, rfl, rfl, rfl⟩

theorem thermalSampled_settled (r : ThermalReading) : (thermalSampled r s).settled := by
  by_cases h : s.palloc.sampleSince + Config.thermalPeriod ≤ s.now
  · rw [thermalSampled_due h]
    split
    · next hf =>
      obtain ⟨hn, hb, hc, hl, hr, hsup, hv⟩ := resampled_settings s.palloc r
      have hnet : (s.palloc.resampled r).netBudget = s.palloc.netBudget := by
        unfold PAlloc.netBudget PAlloc.supplyFactor
        rw [hf, hl, hr, hsup, hv]
      have ht := setPalloc_settled hs hn hnet hc hb
      unfold thermalNotice
      split
      · exact ht
      · exact settled_of_frame (raise_frame _ _) ht
    · exact pass_settled _
  · rw [thermalSampled_early h]
    exact hs

theorem newDemand_settled (b : Bay) (n : Nat) : (newDemand b n s).settled := by
  unfold newDemand
  split
  · exact hs
  · exact cctlChange_settled b _ (settled_passGood hs)

theorem agreed_settled (b : Bay) (n : Nat) : (agreed b n s).settled := by
  unfold agreed
  split
  · exact cctlChange_settled b _ (settled_passGood hs)
  · exact newDemand_settled hs b n
  all_goals exact hs

theorem negotiationExpires_settled (b : Bay) : (negotiationExpires b s).settled := by
  unfold negotiationExpires
  split
  · exact cctlChange_settled b _ (settled_passGood hs)
  · exact hs

theorem announced_settled (b : Bay) (n : Nat) : (announced b n s).settled := by
  unfold announced
  split
  · exact newDemand_settled hs b n
  · exact hs

theorem rampExpires_settled (b : Bay) : (rampExpires b s).settled := by
  unfold rampExpires
  split
  · split
    · obtain ⟨-, -, h1, h2⟩ := rampUp_fields s.cctl[b] (_ + Config.rampPeriod)
      exact setCharge_settled ⟨h1, h2⟩ hs
    · exact hs
  · exact hs

theorem tripBay_settled (b : Bay) : (tripBay b s).settled :=
  settled_of_frame (raise_frame _ _) (cctlChange_settled b _ (settled_passGood hs))

theorem setSamples_settled (b : Bay) (n : Nat) (l d : Option Nat) :
    (s.setCharge b { s.cctl[b] with highSamples := n, lastSample := l, thirdDue := d }).settled :=
  setCharge_settled ⟨rfl, rfl⟩ hs

theorem comparatorSampled_settled (b : Bay) (high : Bool) : (comparatorSampled b high s).settled := by
  unfold comparatorSampled
  dsimp only
  split
  · split
    · exact setSamples_settled hs b 0 (some s.now) s.cctl[b].thirdDue
    · split
      · exact setSamples_settled hs b (s.cctl[b].highSamples + 1) (some s.now) s.cctl[b].thirdDue
      · exact tripBay_settled hs b
  · split
    · split
      · exact tripBay_settled hs b
      · exact setSamples_settled hs b s.cctl[b].highSamples s.cctl[b].lastSample none
    · exact hs

theorem cooldownExpires_settled (b : Bay) : (cooldownExpires b s).settled := by
  unfold cooldownExpires
  split
  · exact cctlChange_settled b _ (settled_passGood hs)
  · exact hs

/-! ## Sessions, the clock and the heartbeat -/

theorem sessionTimeExpires_settled (c : Chan) : (sessionTimeExpires c s).settled := by
  unfold sessionTimeExpires
  repeat' split
  · exact pschedEvent_settled (endSessionCore_settled c _ _ hs)
  all_goals exact hs

theorem changeMinute_settled (c : CartClock) : (changeMinute c s).settled :=
  passIfChanged_of_passGood (passGood_of_frame (lapse_frame _ _) (passGood_of_frame (setAcc_frame _ s)
    (settled_passGood hs)))

theorem advanceSecond_settled {c : CartClock} (h : s.acc.clock = some c) : (advanceSecond c s).settled := by
  unfold advanceSecond
  refine settled_congr (sameDecisions_of_palloc (setAcc_palloc ..)) ⟨fun b => by rw [setAcc_psched],
    by rw [setAcc_psched], ?_, by rw [setAcc_acc], fun b => by rw [setAcc_palloc],
    fun b => by rw [setAcc_bmon]; exact ⟨rfl, rfl, rfl⟩, fun b => by rw [setAcc_cctl]; exact ⟨rfl, rfl⟩⟩ hs
  unfold State.minute
  rw [setAcc_acc, h]
  rfl

theorem clockAdvances_settled : (clockAdvances s).settled := by
  unfold clockAdvances
  split
  · next t ht =>
    split
    · split
      · exact advanceSecond_settled hs ht
      · exact changeMinute_settled hs t
    · exact hs
  · exact hs

theorem minuteChanges_settled : (minuteChanges s).settled := by
  unfold minuteChanges
  repeat' split
  · exact changeMinute_settled hs _
  all_goals exact hs

theorem handMode_settled (m : Mode) : (handMode m s).settled := by
  unfold handMode
  refine settled_steady.eitherOrder (fun t _ => pass_settled _) (fun t => pschedMode_settled m) hs

theorem setSmon_settled (m : Smon) : (s.setSmon m).settled :=
  settled_of_frame (setSmon_frame m s) hs

theorem failure_settled (f : HeartbeatFailure) : (failure f s).settled := by
  unfold failure
  dsimp only
  split
  · exact handMode_settled (setSmon_settled hs _) _
  · exact settled_of_frame (raise_frame _ _) (setSmon_settled hs _)

theorem returnAttended_settled (m : Smon) : (returnAttended m s).settled :=
  handMode_settled (settled_of_frame (raise_frame _ _) (setSmon_settled hs _)) _

theorem heartbeat_settled : (heartbeat s).settled := by
  unfold heartbeat
  split
  · split
    · exact returnAttended_settled hs _
    · exact hs
  · exact failure_settled hs _
  · exact setSmon_settled hs _

theorem windowTimeExpires_settled : (windowTimeExpires s).settled := by
  unfold windowTimeExpires
  split
  · exact failure_settled hs _
  · exact hs

/-! ## The port -/

theorem watchEvents_settled (bs : List (Nat × Byte)) : (watchEvents bs s).settled := by
  have hw : ∀ (a : Nat) (f : Byte → State → State) (t : State), t.settled → (∀ v, (f v t).settled) →
      (watch bs a f t).settled := fun a f t ht hf => by
    unfold watch
    split
    · exact hf _
    · exact ht
  have h0 := hw (listStateAt 0) (listCommand 0) s hs fun v => settled_of_frame (listCommand_frame 0 v s) hs
  have h1 := hw (listStateAt 1) (listCommand 1) _ h0 fun v => settled_of_frame (listCommand_frame 1 v _) h0
  have h2 := hw endWordAt (fun v s => s.withNctl (s.nctl.endWord v)) _ h1 fun v =>
    settled_of_frame (withNctl_frame _ _) h1
  exact hw heartbeatAt (fun _ => heartbeat) _ h2 fun _ => heartbeat_settled h2

theorem writeBurst_settled (w : Burst) : (writeBurst w s).settled := by
  unfold writeBurst
  split
  · exact watchEvents_settled (settled_of_frame (recordHit_frame _ _) (settled_of_frame (landBytes_frame _ s) hs)) _
  · exact hs

/-! ## Orders -/

theorem applyLimits_settled (l : Nat) (caps : Vector Nat 6) (sag : SagSelect) (deep : DeepSelect) :
    (applyLimits l caps sag deep s).settled := by
  unfold applyLimits
  dsimp only
  split
  · next h =>
    obtain ⟨hn, hb⟩ := limited_decisions s.palloc l caps sag deep s.vsense s.now
    refine setPalloc_settled hs hn ?_ h.2 hb
    have hf : ∀ q : PAlloc, q = s.palloc.limited l caps sag deep s.vsense s.now → q.reserve = s.palloc.reserve ∧
        q.supply = s.palloc.supply ∧ q.supervisionFactor = s.palloc.supervisionFactor ∧
        q.thermal = s.palloc.thermal ∧ q.temp = s.palloc.temp := by
      rintro q rfl
      unfold PAlloc.limited
      dsimp only
      split <;> exact ⟨rfl, rfl, rfl, rfl, rfl⟩
    obtain ⟨h1, h2, h3, h4, h5⟩ := hf _ rfl
    unfold PAlloc.netBudget PAlloc.supplyFactor PAlloc.thermalFactor
    rw [h.1, h1, h2, h3, h4, h5]
  · exact pass_settled _

theorem applyThresholds_settled (rel mn : Nat) : (applyThresholds rel mn s).settled := by
  have ht : (if rel = s.psched.releaseThreshold
      then s.withPsched { s.psched with releaseThreshold := rel, provMinimum := mn }
      else passIfChanged (s.withPsched { s.psched with releaseThreshold := rel, provMinimum := mn })).settled := by
    split
    · next h => exact settled_of_psched (thresholds_frame rel mn s) (fun _ => rfl) h hs
    · exact passIfChanged_of_passGood (passGood_of_frame (thresholds_frame rel mn s) (settled_passGood hs))
  unfold applyThresholds
  dsimp only
  split
  · exact ht
  · exact considerCore_settled ht

omit hs in
/-- The channel of a bay, by the bays of the sessions. -/
theorem channelOf_eq (p : PSched) (b : Bay) :
    p.channelOf b = (List.finRange 4).find? fun c => p.channels[c].session.map Session.bay == some b := by
  unfold PSched.channelOf
  congr 1
  funext c
  cases p.channels[c].session <;> rfl

omit hs in
theorem channelOf_setChannel {c : Chan} {y : Channel} {t : State}
    (h : y.session.map Session.bay = t.psched.channels[c].session.map Session.bay) (b : Bay) :
    (t.setChannel c y).psched.channelOf b = t.psched.channelOf b := by
  rw [channelOf_eq, channelOf_eq]
  congr 1
  funext d
  rw [setChannel_psched, getElem_set_fin]
  split
  · next hd => rw [hd, h]
  · rfl

/-- A new wanted revision in a channel's record leaves the channel BUSY with its bay. -/
theorem provWanted_settled (b : Bay) (r : ProvRecord) (rev : Half) : (provWanted b r rev s).settled := by
  have hp := setProv_settled b { r with wanted := rev } hs
  unfold provWanted
  dsimp only
  split
  · next c hc =>
    refine settled_of_psched (setChannel_frame c _ _) (fun x => ?_) rfl hp
    rw [channelOf_setChannel]
    exact Option.map_map ..
  · exact hp

omit hs in
theorem provBay_settled {x : State × Nat} (hx : x.1.settled) (b : Bay) (rev : Half) (n m : Nat) :
    (provBay b rev n m x).1.settled := by
  have hq : ∀ (q : List Bay) {t : State}, t.settled → (t.setQueue q).settled := fun q t ht =>
    settled_of_psched (setQueue_frame q t) (fun _ => rfl) rfl ht
  have hr : ∀ (r : ProvRecord) {t : State}, t.settled → (t.setProv b r).settled := fun r t ht => setProv_settled b r ht
  unfold provBay
  dsimp only
  split
  · exact provWanted_settled hx b _ rev
  · split
    · exact hr _ (hq _ hx)
    · exact hr _ hx
  all_goals
    split
    · exact hr _ hx
    · exact hq _ (hr _ hx)

theorem provVisits_settled (bays : List Bay) (rev : Half) (n m : Nat) : (provVisits bays rev n m s).1.settled := by
  have hv : ∀ (bs : List Bay) (x : State × Nat), x.1.settled → (bs.foldl (provVisit rev n m) x).1.settled := by
    intro bs
    induction bs with
    | nil => exact fun x hx => hx
    | cons b bs ih =>
      refine fun x hx => ih _ ?_
      unfold provVisit
      split
      · exact provBay_settled hx b rev n m
      · exact hx
  exact hv bays (s, 0) hs

theorem provisionEvent_settled (bays : List Bay) (rev : Half) (n m : Nat) :
    (provisionEvent bays rev n m s).settled := by
  have hv := provVisits_settled hs bays rev n m
  refine pschedEvent_settled (f := fun s =>
    if (provVisits bays rev n m s).2 = 0 then (provVisits bays rev n m s).1
    else considerCore (provVisits bays rev n m s).1) ?_
  split
  · exact hv
  · exact considerCore_settled hv

theorem cancelVisits_settled (bays : List Bay) : (cancelVisits bays s).1.settled := by
  have hv : ∀ (bs : List Bay) (x : State × Nat), x.1.settled → (bs.foldl cancelVisit x).1.settled := by
    intro bs
    induction bs with
    | nil => exact fun x hx => hx
    | cons b bs ih =>
      refine fun x hx => ih _ ?_
      unfold cancelVisit
      split
      · exact clearCore_settled b hx
      · exact endBayCore_settled b _ hx
      all_goals exact hx
  exact hv bays (s, 0) hs

theorem clearCut_settled (b : Bay) : (clearCut b s).settled :=
  consider_settled (setEntry_settled ⟨rfl, rfl, rfl⟩ hs)

theorem orderClearFault_settled (off : Nat) : (orderClearFault off s).1.settled := by
  have hl : ∀ b, (clearLockout b s).settled := fun b => cctlChange_settled b _ (settled_passGood hs)
  rcases orderClearFault_cases off s with h | ⟨b, ⟨-, h⟩ | ⟨-, h⟩ | ⟨-, -, h⟩⟩ <;> rw [h]
  · exact hs
  · exact hl b
  · exact clearCut_settled hs b
  · exact clearCut_settled (hl b) b

theorem applySupervision_settled (c m : Nat) (en : Bool) : (applySupervision c m en s).settled := by
  unfold applySupervision
  dsimp only
  split
  · exact setSmon_settled hs _
  · exact setSmon_settled hs _
  · exact setSmon_settled hs _
  · exact returnAttended_settled hs _

theorem owner_settled (k : OrderKind) (off : Nat) : (k.owner off s).1.settled := by
  cases k with
  | setLimits =>
    rcases orderSetLimits_cases off s with h | ⟨_, _, _, _, h⟩ <;> rw [OrderKind.owner, h]
    · exact hs
    · exact applyLimits_settled hs _ _ _ _
  | setThresholds => exact pschedEvent_settled (applyThresholds_settled hs _ _)
  | bayConfig =>
    rcases orderBayConfig_cases off s with h | ⟨_, _, h⟩ <;> rw [OrderKind.owner, h]
    · exact hs
    · exact setEntry_settled ⟨rfl, rfl, rfl⟩ hs
  | reserve =>
    rcases orderReserve_cases off s with h | ⟨_, _, h⟩ <;> rw [OrderKind.owner, h]
    · exact hs
    · exact changeReservation_settled hs _ _
  | provision =>
    rcases orderProvision_cases off s with h | ⟨_, _, _, _, h⟩ <;> rw [OrderKind.owner, h]
    · exact hs
    · exact provisionEvent_settled hs _ _ _ _
  | cancelProvision =>
    rcases orderCancelProvision_cases off s with h | ⟨bays, h⟩ <;> rw [OrderKind.owner, h]
    · exact hs
    · exact pschedEvent_settled (f := fun s => (cancelVisits bays s).1) (cancelVisits_settled hs bays)
  | sessionEnd =>
    rcases orderSessionEnd_cases off s with h | ⟨_, _, _, h⟩ <;> rw [OrderKind.owner, h]
    · exact hs
    · exact pschedEvent_settled (endSessionCore_settled _ _ _ hs)
  | setClock =>
    rcases orderSetClock_cases off s with h | ⟨_, _, h⟩ <;> rw [OrderKind.owner, h]
    · exact hs
    · exact passIfChanged_of_passGood (passGood_of_frame (setAcc_frame _ s) (settled_passGood hs))
  | releaseBay =>
    exact orderReleaseBay_steady settled_steady off hs fun b => pschedEvent_settled (endBayCore_settled b _ hs)
  | setLatchMode => exact orderSetLatchMode_steady settled_steady off hs
  | clearFault => exact orderClearFault_settled hs off
  | setSupervision =>
    rcases orderSetSupervision_cases off s with h | ⟨_, _, _, h⟩ <;> rw [OrderKind.owner, h]
    · exact hs
    · exact applySupervision_settled hs _ _ _
  | commitCredentials => exact settled_of_frame (owner_frame .commitCredentials off s) hs
  | commitWindows => exact settled_of_frame (owner_frame .commitWindows off s) hs
  | custodyRestore => exact settled_of_frame (owner_frame .custodyRestore off s) hs
  | forgetTablet => exact settled_of_frame (owner_frame .forgetTablet off s) hs
  | setNotice => exact settled_of_frame (owner_frame .setNotice off s) hs

end settled

/-! ## Every step (O6) -/

theorem partReset_settled (k : ResetCause) (s : State) : (partReset k s).settled :=
  settled_of_frame (clearCounts_frame _) (pass_settled _)

theorem powerUp_settled (s : State) : (powerUp s).settled :=
  settled_of_frame (clearCounts_frame _) (pass_settled _)

theorem exec_settled : ∀ (i : Instr) (s t : State), s.settled → exec i s = .next t → t.settled := by
  refine exec_keeps_of_parts
    (l := [.bays, .limits, .grants, .charge, .prov, .provSettings, .clock, .reservations]) ?_
    (dispatch_keeps (fun h hs => settled_of_frame h hs) fun k off s hs => owner_settled hs k off) ?_
  · intro s t m h hm hs
    refine settled_of_frame (l := m) h hs fun x hx => ?_
    have : ∀ y, y ∈ [Part.bays, .limits, .grants, .charge, .prov, .provSettings, .clock, .reservations] ∨
        y ∈ idleParts := by intro y; cases y <;> decide
    exact (this x).resolve_left fun hy => hm x hy hx
  intro i s t hi hpart hs h
  cases i with
  | powerOn => rw [exec_next_eq h rfl]; exact powerUp_settled s
  | resetnPartReset cut => rw [exec_next_eq h rfl]; exact partReset_settled _ _
  | controlPartReset ds => rw [exec_next_eq h rfl]; exact partReset_settled _ _
  | registerWrite n data =>
    rw [exec_next_eq h rfl]
    rcases writeRegister_cases n data s with hw | hw <;> rw [hw]
    · exact hs
    · exact partReset_settled _ _
  | memoryWrite w => rw [exec_next_eq h rfl]; exact writeBurst_settled hs w
  | presenceInputChange b v => rw [exec_next_eq h rfl]; exact presenceChange_settled hs b v
  | attach b => rw [exec_next_eq h rfl]; exact attachBay_settled hs b
  | detach b => rw [exec_next_eq h rfl]; exact detachBay_settled hs b
  | tagFrame b tag ok =>
    rw [exec_next_eq h rfl]
    unfold tagFrameArrives
    repeat' split
    · exact readTag_settled b tag
    · exact failAttempt_settled hs b _
    all_goals exact hs
  | tagReadAttemptExpiry b =>
    rw [exec_next_eq h rfl]
    unfold tagReadExpires
    repeat' split
    · exact failAttempt_settled hs b _
    all_goals exact hs
  | doorInputChange b v => rw [exec_next_eq h rfl]; exact doorInput_settled hs b _
  | doorEvent b => rw [exec_next_eq h rfl]; exact doorHeld_settled hs b
  | latchSenseInputChange b v => rw [exec_next_eq h rfl]; exact latchInput_settled hs b _
  | latchSenseChange b => rw [exec_next_eq h rfl]; exact latchHeld_settled hs b
  | levelPoll b => rw [exec_next_eq h rfl]; exact pollBay_settled hs b
  | levelReport b n ok => rw [exec_next_eq h rfl]; exact levelReported_settled hs b _ ok
  | levelReportWaitExpiry b => rw [exec_next_eq h rfl]; exact reportWaitEnds_settled hs b
  | levelStale b => rw [exec_next_eq h rfl]; exact levelStales_settled hs b
  | silenceEvent b => rw [exec_next_eq h rfl]; exact silenceReached_settled hs b
  | faultLevelExpiry b => rw [exec_next_eq h rfl]; exact faultReached_settled hs b
  | supplyInputCrossing n => rw [exec_next_eq h rfl]; exact supplyInput_settled hs n
  | supplyFall => rw [exec_next_eq h rfl]; exact supplyFalls_settled hs
  | supplyRise => rw [exec_next_eq h rfl]; exact supplyRises_settled hs
  | thermalSample r => rw [exec_next_eq h rfl]; exact thermalSampled_settled hs r
  | agreement b n => rw [exec_next_eq h rfl]; exact agreed_settled hs b n
  | negotiationExpiry b => rw [exec_next_eq h rfl]; exact negotiationExpires_settled hs b
  | demandAnnouncement b n => rw [exec_next_eq h rfl]; exact announced_settled hs b n
  | rampStep b => rw [exec_next_eq h rfl]; exact rampExpires_settled hs b
  | overCurrentSample b high => rw [exec_next_eq h rfl]; exact comparatorSampled_settled hs b high
  | cooldownExpiry b => rw [exec_next_eq h rfl]; exact cooldownExpires_settled hs b
  | sessionTimerExpiry c => rw [exec_next_eq h rfl]; exact sessionTimeExpires_settled hs c
  | tokenArrival f => rw [exec_next_eq h rfl]; exact settled_steady.frameComplete f hs
  | clockSecond => rw [exec_next_eq h rfl]; exact clockAdvances_settled hs
  | changeOfMinute => rw [exec_next_eq h rfl]; exact minuteChanges_settled hs
  | releaseWindowExpiry b => rw [exec_next_eq h rfl]; exact settled_steady.windowExpires b hs
  | latchWaitExpiry b => rw [exec_next_eq h rfl]; exact settled_steady.latchWaitExpires b hs
  | driveTimeEnd k => rw [exec_next_eq h rfl]; exact settled_steady.driveTimeEnds k hs
  | windowExpiry => rw [exec_next_eq h rfl]; exact windowTimeExpires_settled hs
  | _ => first | exact absurd hi (by decide) | exact absurd hpart (by dsimp only [partsOf]; decide)

/-- Settles O6. -/
theorem everyStepKeepsGrantsSettled : Obligations.EveryStepKeepsGrantsSettled :=
  step_keeps (fun _ _ h => h) (fun _ _ h => h) exec_settled

end Sys2Proof.Machine
end

section
/-! PROOF. The provisioning queue, the records and the channels stay in agreement (R72, R73): the law of the queue, and
the operations of PSCHED that keep it. -/

namespace Sys2Proof.Machine

-- One declaration after the other: the check compiles the whole text within a memory bound.
set_option Elab.async false

/-! ## The law, for all bays or for all but one that is being detached -/

/-- The bay of the session on a channel. -/
def PSched.bayOf (p : PSched) (c : Chan) : Option Bay := p.channels[c].session.map Session.bay

theorem bayOf_eq_some {p : PSched} {c : Chan} {b : Bay} :
    p.bayOf c = some b ↔ ∃ x, p.channels[c].session = some x ∧ x.bay = b :=
  Option.map_eq_some_iff

theorem channelOf_isSome (p : PSched) (b : Bay) : (p.channelOf b).isSome = true ↔ ∃ c, p.bayOf c = some b := by
  rw [channelOf_eq, List.find?_isSome]
  exact ⟨fun ⟨c, _, h⟩ => ⟨c, beq_iff_eq.mp h⟩, fun ⟨c, h⟩ => ⟨c, List.mem_finRange c, beq_iff_eq.mpr h⟩⟩

theorem channelOf_eq_some {p : PSched} {b : Bay} {c : Chan} (h : p.channelOf b = some c) : p.bayOf c = some b := by
  rw [channelOf_eq] at h
  have := List.find?_some h
  exact beq_iff_eq.mp this

/-- The law of the queue, but that the bay `e` may be ACTIVE while it is no longer PRESENT. -/
structure State.QueueLaw (e : Option Bay) (s : State) : Prop where
  nodup : s.psched.queue.Nodup
  mem : ∀ b : Bay, b ∈ s.psched.queue ↔ s.psched.records[b].state = .waiting
  busy : ∀ (c : Chan) (b : Bay), s.psched.bayOf c = some b → s.psched.records[b].state = .active
  once : ∀ (c d : Chan) (b : Bay), s.psched.bayOf c = some b → s.psched.bayOf d = some b → c = d
  active : ∀ b : Bay, s.psched.records[b].state = .active →
    (∃ c, s.psched.bayOf c = some b) ∧ (e ≠ some b → s.bmon[b].occupancy = .present)
  joined : ∀ b : Bay, s.bmon[b].path = .joined → s.psched.records[b].state = .active

theorem queueGood_iff (s : State) : s.queueGood ↔ s.QueueLaw none := by
  constructor
  · rintro ⟨h1, h2, h3, h4, h5, h6⟩
    refine ⟨h1, h2, fun c b h => ?_, fun c d b hc hd => ?_, fun b h => ?_, h6⟩
    · obtain ⟨x, hx, rfl⟩ := bayOf_eq_some.mp h
      exact h3 c x hx
    · obtain ⟨x, hx, rfl⟩ := bayOf_eq_some.mp hc
      obtain ⟨y, hy, hxy⟩ := bayOf_eq_some.mp hd
      exact h4 c d x y hx hy hxy.symm
    · exact ⟨(channelOf_isSome _ b).mp (h5 b h).1, fun _ => (h5 b h).2⟩
  · rintro ⟨h1, h2, h3, h4, h5, h6⟩
    refine ⟨h1, h2, fun c x hx => h3 c x.bay (bayOf_eq_some.mpr ⟨x, hx, rfl⟩), fun c d x y hx hy hxy => ?_,
      fun b h => ⟨(channelOf_isSome _ b).mpr (h5 b h).1, (h5 b h).2 (by simp)⟩, h6⟩
    exact h4 c d y.bay (bayOf_eq_some.mpr ⟨x, hx, hxy⟩) (bayOf_eq_some.mpr ⟨y, hy, rfl⟩)

namespace State.QueueLaw
variable {e : Option Bay} {s t : State}

/-- What the law depends on. -/
theorem congr (hs : s.QueueLaw e) (hq : t.psched.queue = s.psched.queue)
    (hr : ∀ b : Bay, t.psched.records[b].state = s.psched.records[b].state)
    (hc : ∀ c : Chan, t.psched.bayOf c = s.psched.bayOf c)
    (ho : ∀ b : Bay, s.psched.records[b].state = .active → e ≠ some b → t.bmon[b].occupancy = .present)
    (hp : ∀ b : Bay, t.bmon[b].path = .joined → s.bmon[b].path = .joined) : t.QueueLaw e where
  nodup := by rw [hq]; exact hs.nodup
  mem b := by rw [hq, hr]; exact hs.mem b
  busy c b h := by rw [hr]; exact hs.busy c b (by rw [← hc]; exact h)
  once c d b h1 h2 := hs.once c d b (by rw [← hc]; exact h1) (by rw [← hc]; exact h2)
  active b h := by
    rw [hr] at h
    simp only [hc]
    exact ⟨(hs.active b h).1, ho b h⟩
  joined b h := by rw [hr]; exact hs.joined b (hp b h)

theorem of_frame {l : List Part} (h : s.changedOnly l t) (hs : s.QueueLaw e) (hb : Part.bays ∉ l := by decide)
    (hp : Part.paths ∉ l := by decide) (hv : Part.prov ∉ l := by decide) : t.QueueLaw e := by
  obtain ⟨hr, hq, hc⟩ := h .prov hv
  refine hs.congr hq (fun b => by rw [hr]) (fun c => by unfold PSched.bayOf; rw [hc]) (fun b ha hne => ?_)
    fun b hj => ?_
  · rw [(entry_of_body (h .bays hb b)).1]
    exact (hs.active b ha).2 hne
  · rw [← (h .paths hp b).1]
    exact hj

/-- BMON may change a bay's entry, as long as an ACTIVE bay stays PRESENT and no path becomes JOINED. -/
theorem setEntry {b : Bay} {x : BayEntry} {e' : Option Bay} (hs : s.QueueLaw e)
    (ho : s.psched.records[b].state = .active → e' ≠ some b → x.occupancy = .present)
    (hp : x.path = .joined → s.bmon[b].path = .joined) (he : ∀ c, c ≠ b → e' ≠ some c → e ≠ some c) :
    (s.setEntry b x).QueueLaw e' where
  nodup := by rw [setEntry_psched]; exact hs.nodup
  mem c := by rw [setEntry_psched]; exact hs.mem c
  busy := by rw [setEntry_psched]; exact hs.busy
  once := by rw [setEntry_psched]; exact hs.once
  active c h := by
    rw [setEntry_psched] at h ⊢
    rw [setEntry_bmon, getElem_set_fin]
    refine ⟨(hs.active c h).1, fun hne => ?_⟩
    split
    · next hc => subst hc; exact ho h hne
    · next hc => exact (hs.active c h).2 (he c hc hne)
  joined c h := by
    rw [setEntry_psched]
    rw [setEntry_bmon, getElem_set_fin] at h
    split at h
    · next hc => subst hc; exact hs.joined c (hp h)
    · exact hs.joined c h

/-- A change of an entry that leaves occupancy and path. -/
theorem setEntry_same {b : Bay} {x : BayEntry} (hs : s.QueueLaw e) (ho : x.occupancy = s.bmon[b].occupancy)
    (hp : x.path = s.bmon[b].path) : (s.setEntry b x).QueueLaw e :=
  hs.setEntry (fun ha hne => by rw [ho]; exact (hs.active b ha).2 hne) (fun h => by rw [← hp]; exact h)
    fun _ _ => id

/-- A bay that is not ACTIVE changes its record and its place in the queue. -/
theorem setRecord {b : Bay} {r : ProvRecord} (hs : s.QueueLaw e) (hrec : t.psched.records = s.psched.records.set b r)
    (hch : t.psched.channels = s.psched.channels) (hbm : t.bmon = s.bmon)
    (hold : s.psched.records[b].state ≠ .active) (hnew : r.state ≠ .active) (hnd : t.psched.queue.Nodup)
    (hb : b ∈ t.psched.queue ↔ r.state = .waiting)
    (hx : ∀ x, x ≠ b → (x ∈ t.psched.queue ↔ x ∈ s.psched.queue)) : t.QueueLaw e := by
  have hst : ∀ x : Bay, t.psched.records[x].state = if x = b then r.state else s.psched.records[x].state := fun x => by
    rw [hrec, getElem_set_fin]
    split <;> rfl
  have hact : ∀ x : Bay, t.psched.records[x].state = .active ↔ s.psched.records[x].state = .active := fun x => by
    rw [hst]
    split
    · next h => subst h; exact ⟨fun h => absurd h hnew, fun h => absurd h hold⟩
    · exact Iff.rfl
  have hbay : ∀ c : Chan, t.psched.bayOf c = s.psched.bayOf c := fun c => by unfold PSched.bayOf; rw [hch]
  refine ⟨hnd, fun x => ?_, fun c x h => ?_, fun c d x h1 h2 => ?_, fun x h => ?_, fun x h => ?_⟩
  · rw [hst]
    split
    · next h => subst h; exact hb
    · next h => rw [hx x h]; exact hs.mem x
  · rw [hact]; exact hs.busy c x (by rw [← hbay]; exact h)
  · rw [hbay] at h1 h2; exact hs.once c d x h1 h2
  · rw [hbm]; simp only [hbay]; exact hs.active x ((hact x).mp h)
  · rw [hact]; rw [hbm] at h; exact hs.joined x h

theorem not_mem_of_state {b : Bay} (hs : s.QueueLaw e) (h : s.psched.records[b].state ≠ .waiting) :
    b ∉ s.psched.queue :=
  fun hm => h ((hs.mem b).mp hm)

/-- A bay that is not PRESENT is not ACTIVE. -/
theorem not_active {b : Bay} (hs : s.QueueLaw none) (h : s.bmon[b].occupancy ≠ .present) :
    s.psched.records[b].state ≠ .active :=
  fun ha => h ((hs.active b ha).2 (by simp))

/-- A bay that is not ACTIVE leaves the queue for a record that neither waits nor is ACTIVE. -/
theorem leaveQueue {b : Bay} {r : ProvRecord} (hs : s.QueueLaw e) (hold : s.psched.records[b].state ≠ .active)
    (hw : r.state ≠ .waiting) (ha : r.state ≠ .active) :
    ((s.setQueue (s.psched.queue.filter (· != b))).setProv b r).QueueLaw e := by
  refine hs.setRecord (b := b) (r := r) rfl rfl rfl hold ha (hs.nodup.filter _) ?_ fun x hx => ?_
  · exact ⟨fun h => absurd (List.mem_filter.mp h).2 (by simp), fun h => absurd h hw⟩
  · exact ⟨fun h => (List.mem_filter.mp h).1, fun h => List.mem_filter.mpr ⟨h, by simpa using hx⟩⟩

theorem clearCore {b : Bay} (hs : s.QueueLaw e) (hold : s.psched.records[b].state ≠ .active) :
    (clearCore b s).QueueLaw e :=
  hs.leaveQueue hold (by simp [ProvRecord.toNone]) (by simp [ProvRecord.toNone])

/-- A record changes in anything but its state. -/
theorem setProv_same {b : Bay} {r : ProvRecord} (hs : s.QueueLaw e) (h : r.state = s.psched.records[b].state) :
    (s.setProv b r).QueueLaw e := by
  refine hs.congr rfl (fun x => ?_) (fun _ => rfl) (fun x ha hne => (hs.active x ha).2 hne) fun _ h => h
  rw [setProv_psched, getElem_set_fin]
  split
  · next hx => subst hx; exact h
  · rfl

/-- A bay with a record that neither waits nor is ACTIVE takes another such record. -/
theorem setProv_idle {b : Bay} {r : ProvRecord} (hs : s.QueueLaw e) (hold : s.psched.records[b].state ≠ .active)
    (hold' : s.psched.records[b].state ≠ .waiting) (hw : r.state ≠ .waiting) (ha : r.state ≠ .active) :
    (s.setProv b r).QueueLaw e :=
  hs.setRecord (b := b) (r := r) rfl rfl rfl hold ha hs.nodup
    ⟨fun h => absurd h (hs.not_mem_of_state hold'), fun h => absurd h hw⟩ fun _ _ => Iff.rfl

/-- A bay with a record that neither waits nor is ACTIVE joins the queue at its tail. -/
theorem append {b : Bay} {r : ProvRecord} (hs : s.QueueLaw e) (hold : s.psched.records[b].state ≠ .active)
    (hold' : s.psched.records[b].state ≠ .waiting) (hw : r.state = .waiting) :
    ((s.setProv b r).setQueue (s.psched.queue ++ [b])).QueueLaw e := by
  have hn := hs.not_mem_of_state hold'
  refine hs.setRecord (b := b) (r := r) rfl rfl rfl hold (by rw [hw]; decide) ?_ ?_ fun x hx => ?_
  · exact List.nodup_append.mpr ⟨hs.nodup, List.nodup_singleton b, fun x hx y hy hxy => by
      rw [List.mem_singleton] at hy
      rw [hxy, hy] at hx
      exact hn hx⟩
  · exact ⟨fun _ => hw, fun _ => List.mem_append_right _ (List.mem_singleton_self b)⟩
  · exact ⟨fun h => (List.mem_append.mp h).resolve_right fun h => hx (List.mem_singleton.mp h),
      fun h => List.mem_append_left _ h⟩

end State.QueueLaw

/-! ## A grant -/

/-- PSCHED's part of a grant (R76), before its pass. -/
def granted (c : Chan) (b : Bay) (s : State) : State :=
  let r := s.psched.records[b]
  let t := (s.setQueue (s.psched.queue.filter (· != b))).setProv b { r with state := .active }
  let t := t.setChannel c
    { session := some
        { bay := b, start := s.minute, wanted := r.wanted, sessionLimit := r.sessionLimit
          silenceLimit := r.silenceLimit, since := s.now }
      lastEnded := s.psched.channels[c].lastEnded }
  join b c r.silenceLimit t

theorem grantCore_eq (c : Chan) (b : Bay) (s : State) : grantCore c b s = pass (granted c b s) := rfl

theorem granted_queue (c : Chan) (b : Bay) (s : State) :
    (granted c b s).psched.queue = s.psched.queue.filter (· != b) := by
  simp [granted, join]

theorem granted_record (c : Chan) (b x : Bay) (s : State) : (granted c b s).psched.records[x] =
    if x = b then { s.psched.records[b] with state := .active } else s.psched.records[x] := by
  simp only [granted, join, setEntry_psched, setChannel_psched, setProv_psched, setQueue_psched, getElem_set_fin]

theorem granted_channel (c : Chan) (b : Bay) (s : State) (d : Chan) : (granted c b s).psched.channels[d] =
    if d = c then { session := some { bay := b, start := s.minute, wanted := s.psched.records[b].wanted,
                                      sessionLimit := s.psched.records[b].sessionLimit,
                                      silenceLimit := s.psched.records[b].silenceLimit, since := s.now }
                    lastEnded := s.psched.channels[c].lastEnded }
    else s.psched.channels[d] := by
  simp only [granted, join, setEntry_psched, setChannel_psched, setProv_psched, setQueue_psched, getElem_set_fin]

theorem granted_entry (c : Chan) (b : Bay) (s : State) (x : Bay) : (granted c b s).bmon[x] =
    if x = b then { s.bmon[b] with path := .joined, joined := some c,
                                   silence := some { since := s.now, limit := s.psched.records[b].silenceLimit } }
    else s.bmon[x] := by
  simp only [granted, join, setEntry_bmon, setChannel_bmon, setProv_bmon, setQueue_bmon, getElem_set_fin,
    setChannel_now, setProv_now, setQueue_now]

theorem granted_bayOf (c : Chan) (b : Bay) (s : State) (d : Chan) :
    (granted c b s).psched.bayOf d = if d = c then some b else s.psched.bayOf d := by
  unfold PSched.bayOf
  rw [granted_channel]
  split <;> rfl

/-- An IDLE channel granted to a WAITING bay that is PRESENT keeps the law. -/
theorem grantCore_queueLaw {e : Option Bay} {c : Chan} {b : Bay} {s : State} (hs : s.QueueLaw e)
    (hc : s.psched.bayOf c = none) (hb : b ∈ s.psched.queue) (hpres : s.bmon[b].occupancy = .present) :
    (grantCore c b s).QueueLaw e := by
  have hwait := (hs.mem b).mp hb
  have hst : ∀ x : Bay, (granted c b s).psched.records[x].state = if x = b then .active else s.psched.records[x].state :=
    fun x => by rw [granted_record]; split <;> rfl
  rw [grantCore_eq]
  refine State.QueueLaw.of_frame (pass_frame _) ⟨?_, fun x => ?_, fun d x h => ?_, fun d f x h1 h2 => ?_,
    fun x h => ?_, fun x h => ?_⟩
  · rw [granted_queue]
    exact hs.nodup.filter _
  · rw [granted_queue, List.mem_filter, hst]
    split
    · next hx => simp [hx]
    · next hx => simpa [hx] using hs.mem x
  · rw [granted_bayOf] at h
    rw [hst]
    split at h
    · rw [if_pos (Option.some.inj h).symm]
    · have := hs.busy d x h
      rw [this, ite_self]
  · rw [granted_bayOf] at h1 h2
    have hne : ∀ d, s.psched.bayOf d ≠ some b := fun d hd => by
      have := hs.busy d b hd
      rw [hwait] at this
      exact absurd this (by decide)
    split at h1 <;> split at h2
    · next hd hf => exact hd.trans hf.symm
    · exact absurd (h1 ▸ h2) (hne f)
    · exact absurd (h2 ▸ h1) (hne d)
    · exact hs.once d f x h1 h2
  · rw [hst] at h
    rw [granted_entry]
    split at h
    · next hx => exact ⟨⟨c, by rw [granted_bayOf, if_pos rfl, hx]⟩, fun _ => by rw [if_pos hx]; exact hpres⟩
    · next hx =>
      obtain ⟨⟨d, hd⟩, ho⟩ := hs.active x h
      refine ⟨⟨d, ?_⟩, fun hne => by rw [if_neg hx]; exact ho hne⟩
      rw [granted_bayOf, if_neg (fun hdc => by rw [hdc, hc] at hd; exact absurd hd (by simp))]
      exact hd
  · rw [hst]
    rw [granted_entry] at h
    split at h
    · next hx => rw [if_pos hx]
    · next hx => rw [if_neg hx]; exact hs.joined x h

theorem firstIdle_bayOf {p : PSched} {c : Chan} (h : p.firstIdle = some c) : p.bayOf c = none := by
  have := List.find?_some h
  unfold PSched.bayOf
  rw [Option.isNone_iff_eq_none.mp this]
  rfl

theorem eligible_present {s : State} {b : Bay} (h : s.eligible b = true) : s.bmon[b].occupancy = .present :=
  ((eligible_iff s b).mp h).1

theorem scanCore_queueLaw {e : Option Bay} (n : Nat) {s : State} (hs : s.QueueLaw e) : (scanCore n s).QueueLaw e := by
  induction n generalizing s with
  | zero => exact hs
  | succ n ih =>
    unfold scanCore
    split
    · next c b hc hb =>
      exact ih (grantCore_queueLaw hs (firstIdle_bayOf hc) (List.mem_of_find?_eq_some hb)
        (eligible_present (List.find?_some hb)))
    · exact hs

theorem considerCore_queueLaw {e : Option Bay} {s : State} (hs : s.QueueLaw e) : (considerCore s).QueueLaw e := by
  unfold considerCore
  split
  · exact hs
  · exact scanCore_queueLaw 4 hs

/-! ## The end of a session -/

/-- A session end leaves its bay WAITING or in a state outside the queue and the channels (Table 4-4). -/
theorem afterEnd_not_active (r : ProvRecord) (o : SessionOutcome) (v : Half) : (r.afterEnd o v).state ≠ .active := by
  unfold ProvRecord.afterEnd
  cases o <;> simp only [ProvRecord.toNone, ProvRecord.counted] <;> (try split) <;> simp

theorem sessionClosed_record (c : Chan) (x : Session) (o : SessionOutcome) (r : Half) (s : State) (b : Bay) :
    (sessionClosed c x o r s).psched.records[b] =
      if b = x.bay then s.psched.records[x.bay].afterEnd o r else s.psched.records[b] := by
  unfold sessionClosed
  dsimp only
  split <;>
    simp only [unjoin, setQueue_psched, setProv_psched, setEntry_psched, setChannel_psched, getElem_set_fin]

theorem sessionClosed_queue (c : Chan) (x : Session) (o : SessionOutcome) (r : Half) (s : State) :
    (sessionClosed c x o r s).psched.queue =
      if (s.psched.records[x.bay].afterEnd o r).state = .waiting then s.psched.queue ++ [x.bay]
      else s.psched.queue := by
  unfold sessionClosed
  dsimp only
  simp only [unjoin, setEntry_psched, setChannel_psched]
  split <;> simp only [setQueue_psched, setProv_psched, setEntry_psched, setChannel_psched]

theorem sessionClosed_channel (c : Chan) (x : Session) (o : SessionOutcome) (r : Half) (s : State) (d : Chan) :
    (sessionClosed c x o r s).psched.channels[d] =
      if d = c then { session := none, lastEnded := some { bay := x.bay, outcome := o } }
      else s.psched.channels[d] := by
  unfold sessionClosed
  dsimp only
  split <;>
    simp only [unjoin, setQueue_psched, setProv_psched, setEntry_psched, setChannel_psched, getElem_set_fin]

theorem sessionClosed_entry (c : Chan) (x : Session) (o : SessionOutcome) (r : Half) (s : State) (b : Bay) :
    (sessionClosed c x o r s).bmon[b] =
      if b = x.bay then { s.bmon[x.bay] with
        path := s.bmon[x.bay].pathUnjoined, joined := none, silence := none
        faultTimer := if s.bmon[x.bay].pathUnjoined = .dark then none else s.bmon[x.bay].faultTimer }
      else s.bmon[b] := by
  unfold sessionClosed
  dsimp only
  split <;>
    simp only [unjoin, setQueue_bmon, setProv_bmon, setEntry_bmon, setChannel_bmon, getElem_set_fin]

theorem pathUnjoined_ne_joined (e : BayEntry) : e.pathUnjoined ≠ .joined := by
  unfold BayEntry.pathUnjoined
  split
  · decide
  · split
    · split
      · decide
      · assumption
    · decide

theorem sessionClosed_queueLaw {e : Option Bay} {c : Chan} {x : Session} {s : State} (hs : s.QueueLaw e)
    (hx : s.psched.channels[c].session = some x) (o : SessionOutcome) (r : Half) :
    (sessionClosed c x o r s).QueueLaw e := by
  have hcb : s.psched.bayOf c = some x.bay := bayOf_eq_some.mpr ⟨x, hx, rfl⟩
  have hact := hs.busy c x.bay hcb
  have hnot : x.bay ∉ s.psched.queue := hs.not_mem_of_state (by rw [hact]; decide)
  have hbay : ∀ d : Chan, (sessionClosed c x o r s).psched.bayOf d = if d = c then none else s.psched.bayOf d :=
    fun d => by unfold PSched.bayOf; rw [sessionClosed_channel]; split <;> rfl
  have hne : ∀ d : Chan, d ≠ c → s.psched.bayOf d ≠ some x.bay := fun d hd h => hd (hs.once d c _ h hcb)
  have hst : ∀ b : Bay, b ≠ x.bay → (sessionClosed c x o r s).psched.records[b] = s.psched.records[b] := fun b hb => by
    rw [sessionClosed_record, if_neg hb]
  have hself : (sessionClosed c x o r s).psched.records[x.bay] = s.psched.records[x.bay].afterEnd o r := by
    rw [sessionClosed_record, if_pos rfl]
  have hna := afterEnd_not_active s.psched.records[x.bay] o r
  refine ⟨?_, fun b => ?_, fun d b h => ?_, fun d f b h1 h2 => ?_, fun b h => ?_, fun b h => ?_⟩
  · rw [sessionClosed_queue]
    split
    · exact List.nodup_append.mpr ⟨hs.nodup, List.nodup_singleton _, fun y hy z hz hyz => by
        rw [List.mem_singleton] at hz
        rw [hyz, hz] at hy
        exact hnot hy⟩
    · exact hs.nodup
  · rw [sessionClosed_queue]
    by_cases hb : b = x.bay
    · subst hb
      rw [hself]
      split
      · next hw => exact ⟨fun _ => hw, fun _ => List.mem_append_right _ (List.mem_singleton_self _)⟩
      · next hw => exact ⟨fun h => absurd h hnot, fun h => absurd h hw⟩
    · rw [hst b hb, ← hs.mem b]
      split
      · simp [hb]
      · exact Iff.rfl
  · rw [hbay] at h
    split at h
    · exact absurd h (by simp)
    · next hd => rw [hst b fun hb => hne d hd (hb ▸ h)]; exact hs.busy d b h
  · rw [hbay] at h1 h2
    split at h1
    · exact absurd h1 (by simp)
    · split at h2
      · exact absurd h2 (by simp)
      · exact hs.once d f b h1 h2
  · by_cases hb : b = x.bay
    · rw [hb, hself] at h
      exact absurd h hna
    · rw [hst b hb] at h
      obtain ⟨⟨d, hd⟩, ho⟩ := hs.active b h
      refine ⟨⟨d, ?_⟩, fun he => by rw [sessionClosed_entry, if_neg hb]; exact ho he⟩
      rw [hbay, if_neg]
      · exact hd
      · rintro rfl
        exact hb (Option.some.inj (hd.symm.trans hcb))
  · rw [sessionClosed_entry] at h
    split at h
    · exact absurd h (pathUnjoined_ne_joined _)
    · next hb => rw [hst b hb]; exact hs.joined b h

theorem endSessionCore_queueLaw {e : Option Bay} (c : Chan) (o : SessionOutcome) (r : Half) {s : State}
    (hs : s.QueueLaw e) : (endSessionCore c o r s).QueueLaw e := by
  cases hx : s.psched.channels[c].session with
  | none => rw [endSessionCore_idle hx]; exact hs
  | some x =>
    rw [endSessionCore_busy hx]
    exact considerCore_queueLaw (State.QueueLaw.of_frame (endNotices_frame _ _) (State.QueueLaw.of_frame (pass_frame _)
      (sessionClosed_queueLaw hs hx o r)))

theorem endBayCore_queueLaw {e : Option Bay} (b : Bay) (o : SessionOutcome) {s : State} (hs : s.QueueLaw e) :
    (endBayCore b o s).QueueLaw e := by
  unfold endBayCore
  repeat' split
  · exact endSessionCore_queueLaw _ _ _ hs
  all_goals exact hs

/-! ## Considerations leave a bay outside the queue alone -/

theorem grantCore_record {c : Chan} {b x : Bay} (h : x ≠ b) (s : State) :
    (grantCore c b s).psched.records[x] = s.psched.records[x] := by
  rw [grantCore_eq, pass_psched, granted_record, if_neg h]

/-- One round of the scan: a grant to the first eligible bay of the queue on the lowest IDLE channel, or the end. -/
theorem scanCore_cases (n : Nat) (s : State) :
    (∃ c b, s.psched.firstIdle = some c ∧ s.psched.queue.find? s.eligible = some b ∧
      scanCore (n + 1) s = scanCore n (grantCore c b s)) ∨
    ((s.psched.firstIdle = none ∨ s.psched.queue.find? s.eligible = none) ∧ scanCore (n + 1) s = s) := by
  cases hc : s.psched.firstIdle with
  | none => exact .inr ⟨.inl rfl, by simp [scanCore, hc]⟩
  | some c =>
    cases hb : s.psched.queue.find? s.eligible with
    | none => exact .inr ⟨.inr rfl, by simp [scanCore, hc, hb]⟩
    | some b => exact .inl ⟨c, b, rfl, rfl, by simp [scanCore, hc, hb]⟩

theorem scanCore_record (n : Nat) {b : Bay} {s : State} (h : b ∉ s.psched.queue) :
    (scanCore n s).psched.records[b] = s.psched.records[b] := by
  induction n generalizing s with
  | zero => rfl
  | succ n ih =>
    rcases scanCore_cases n s with ⟨c, x, -, hx, he⟩ | ⟨-, he⟩ <;> rw [he]
    have hne : b ≠ x := fun hb => h (hb ▸ List.mem_of_find?_eq_some hx)
    rw [ih, grantCore_record hne]
    rw [grantCore_eq, pass_psched, granted_queue]
    exact fun hm => h (List.mem_filter.mp hm).1

theorem considerCore_record {b : Bay} {s : State} (h : b ∉ s.psched.queue) :
    (considerCore s).psched.records[b] = s.psched.records[b] := by
  unfold considerCore
  split
  · rfl
  · exact scanCore_record 4 h

theorem endNotices_psched (r : ProvRecord) (s : State) : (endNotices r s).psched = s.psched := by
  unfold endNotices
  split <;> simp

/-- The end of a session by a detach leaves its bay NONE. -/
theorem endBayCore_removed {e : Option Bay} {b : Bay} {s : State} (hs : s.QueueLaw e) :
    (endBayCore b .removed s).psched.records[b].state ≠ .active := by
  unfold endBayCore
  split
  · next ha =>
    split
    · next c hc =>
      have hbay := channelOf_eq_some hc
      obtain ⟨x, hx, rfl⟩ := bayOf_eq_some.mp hbay
      have hend : (s.psched.records[x.bay].afterEnd .removed 0).state = .none := rfl
      rw [endSessionCore_busy hx, considerCore_record, endNotices_psched, pass_psched, sessionClosed_record,
        if_pos rfl, hend]
      · decide
      · rw [endNotices_psched, pass_psched, sessionClosed_queue, hend, if_neg (by decide)]
        exact hs.not_mem_of_state (by rw [ha]; decide)
    · next hc =>
      have := (channelOf_isSome s.psched b).mpr (hs.active b ha).1
      rw [hc] at this
      exact absurd this (by decide)
  · assumption

end Sys2Proof.Machine
end

section
/-! PROOF. The provisioning queue, the records and the channels stay in agreement (R72, R73) over every step. -/

namespace Sys2Proof.Machine

-- One declaration after the other: the check compiles the whole text within a memory bound.
set_option Elab.async false

open State (QueueLaw)

theorem pschedEvent_queueLaw {e : Option Bay} {f : State → State} {s : State} (h : (f s).QueueLaw e) :
    (pschedEvent f s).QueueLaw e :=
  h.of_frame (pschedEvent_counts f s)

theorem consider_queueLaw {e : Option Bay} {s : State} (hs : s.QueueLaw e) : (consider s).QueueLaw e :=
  pschedEvent_queueLaw (considerCore_queueLaw hs)

theorem pschedWithdraw_queueLaw {e : Option Bay} (b : Bay) {s : State} (hs : s.QueueLaw e) :
    (pschedWithdraw b s).QueueLaw e := by
  refine pschedEvent_queueLaw (f := fun s => if s.psched.records[b].state = .waiting then clearCore b s else s) ?_
  split
  · next h => exact hs.clearCore (by rw [h]; decide)
  · exact hs

/-- The law of the queue is steady. -/
theorem queueLaw_steady (e : Option Bay) : Steady (State.QueueLaw e) where
  frame h hs := hs.of_frame h
  consider hs := consider_queueLaw hs
  reserve r _ hs := hs.of_frame (reservePass_frame r _)
  relocate _ hs := hs.of_frame (changeRecordAt_frame _ _ _)
  place b t _ hs := (hs.of_frame (clearBay_frame b _ _)).of_frame (placeTag_frame b t _)
  withdraw b _ hs := pschedWithdraw_queueLaw b hs

/-- A detach leaves its bay NONE, so that it need no longer be excepted. -/
theorem pschedDetach_queueLaw {b : Bay} {s : State} (hs : s.QueueLaw (some b)) : (pschedDetach b s).QueueLaw none := by
  refine pschedEvent_queueLaw (f := fun s => (clearCore b (endBayCore b .removed s)).setProv b
    { (clearCore b (endBayCore b .removed s)).psched.records[b] with installed := 0 }) ?_
  have hc := (endBayCore_queueLaw b .removed hs).clearCore (endBayCore_removed hs)
  have hst : (clearCore b (endBayCore b .removed s)).psched.records[b].state = .none := by
    unfold clearCore
    rw [setProv_psched, getElem_set_fin, if_pos rfl]
    rfl
  have hp := hc.setProv_same (b := b) (r := { (clearCore b (endBayCore b .removed s)).psched.records[b] with
    installed := 0 }) rfl
  refine ⟨hp.nodup, hp.mem, hp.busy, hp.once, fun x hx => ⟨(hp.active x hx).1, fun _ => (hp.active x hx).2 ?_⟩,
    hp.joined⟩
  rintro h
  obtain rfl := Option.some.inj h
  rw [setProv_psched, getElem_set_fin, if_pos rfl] at hx
  exact absurd (hst.symm.trans hx) (by decide)

theorem pschedPresent_queueLaw {b : Bay} {s : State} (hs : s.QueueLaw none)
    (h : s.psched.records[b].state ≠ .active) : (pschedPresent b s).QueueLaw none :=
  pschedEvent_queueLaw (considerCore_queueLaw ((hs.clearCore h).setProv_same rfl))

theorem pschedLineEvent_queueLaw (b : Bay) (c : Chan) (o : SessionOutcome) {s : State} (hs : s.QueueLaw none) :
    (pschedLineEvent b c o s).QueueLaw none := by
  refine pschedEvent_queueLaw ?_
  split
  · split
    · exact endSessionCore_queueLaw _ _ _ hs
    · exact hs
  · exact hs

theorem pschedMode_queueLaw (m : Mode) {s : State} (hs : s.QueueLaw none) : (pschedMode m s).QueueLaw none := by
  have hm : ∀ m : Mode, (s.withPsched { s.psched with mode := m }).QueueLaw none := fun m =>
    hs.of_frame (schedMode_frame m s)
  cases m
  · exact pschedEvent_queueLaw (f := fun s => considerCore (s.withPsched { s.psched with mode := .attended }))
      (considerCore_queueLaw (hm .attended))
  · refine pschedEvent_queueLaw (f := fun s => (List.finRange 4).foldl (fun t c => endSessionCore c .hostLost 0 t)
      (s.withPsched { s.psched with mode := .standalone })) ?_
    exact foldl_keeps (fun t c ht => endSessionCore_queueLaw c .hostLost 0 ht) _ (hm .standalone)

section commands
variable {s : State} (hs : s.QueueLaw none)
include hs

theorem cctlChange_queueLaw (b : Bay) (c : ChargeBay) : (cctlChange b c s).QueueLaw none := by
  have hp := (hs.of_frame (setCharge_frame b c s)).of_frame (passIfChanged_frame _)
  unfold cctlChange
  dsimp only
  split
  · exact consider_queueLaw hp
  · exact hp

/-! ## Bays and doors -/

theorem presenceChange_queueLaw (b : Bay) (v : Bool) : (presenceChange b v s).QueueLaw none := by
  have ht : (s.setPins b { s.pins[b] with presence := v }).QueueLaw none := hs.of_frame (setPins_frame b _ s)
  unfold presenceChange
  dsimp only
  split
  · exact hs
  split
  · exact ht.setEntry_same rfl rfl
  split
  · split
    · exact (queueLaw_steady none).custLossAbandoned b (ht.setEntry_same rfl rfl)
    · exact ht.setEntry_same rfl rfl
  · exact ht.setEntry_same rfl rfl

theorem attachBay_queueLaw (b : Bay) : (attachBay b s).QueueLaw none := by
  unfold attachBay
  split
  · next h =>
    have he : (s.setEntry b (s.bmon[b].attached s.now)).QueueLaw none :=
      hs.setEntry (fun ha => absurd ha (hs.not_active (by rw [h.1]; decide)))
        (fun hp => absurd hp (by simp [BayEntry.attached])) fun _ _ => id
    exact (he.of_frame (setCharge_frame b _ _)).of_frame (pass_frame _)
  · exact hs

theorem detachBay_queueLaw (b : Bay) : (detachBay b s).QueueLaw none := by
  unfold detachBay
  split
  · have he : (s.setEntry b s.bmon[b].detached).QueueLaw (some b) :=
      hs.setEntry (fun _ h => absurd rfl h) (fun hp => by
        unfold BayEntry.detached at hp
        dsimp only at hp
        split at hp
        · assumption
        · exact absurd hp (by decide)) fun _ _ _ => by simp
    exact (queueLaw_steady none).eitherOrder (fun t ht => cctlChange_queueLaw ht b _)
      (fun t ht => ht.of_frame (pallocDetach_frame b t))
      ((queueLaw_steady none).custDetach b _ (pschedDetach_queueLaw he))
  · exact hs

theorem enterAnon_queueLaw {b : Bay} (h : s.bmon[b].occupancy = .settling) : (enterAnon b s).QueueLaw none := by
  refine (queueLaw_steady none).custOtherEntry b _ (State.QueueLaw.of_frame (pass_frame _) (hs.setEntry ?_ ?_
    fun _ _ => id))
  · exact fun ha => absurd ha (hs.not_active (by rw [h]; decide))
  · exact fun hp => absurd hp (by simp)

theorem failAttempt_queueLaw {b : Bay} (h : s.bmon[b].occupancy = .settling) (r : TagRead) :
    (failAttempt b r s).QueueLaw none := by
  unfold failAttempt
  split
  · exact hs.setEntry_same rfl rfl
  · exact enterAnon_queueLaw hs h

theorem readTag_queueLaw {b : Bay} (h : s.bmon[b].occupancy = .settling) (t : Tag) : (readTag b t s).QueueLaw none := by
  have hna := hs.not_active (b := b) (by rw [h]; decide)
  unfold readTag
  split
  · exact (queueLaw_steady none).custOtherEntry b _ (State.QueueLaw.of_frame (pass_frame _)
      (State.QueueLaw.of_frame (raise_frame _ _) (hs.setEntry (fun ha => absurd ha hna) (fun hp => hp) fun _ _ => id)))
  · have he : (pass (s.setEntry b (s.bmon[b].entersPresent t s.pins[b].atFault s.now))).QueueLaw none :=
      State.QueueLaw.of_frame (pass_frame _) (hs.setEntry (fun ha => absurd ha hna)
        (fun hp => absurd hp (by simp [BayEntry.entersPresent])) fun _ _ => id)
    exact (queueLaw_steady none).custTagRead b t (pschedPresent_queueLaw he (by
      rw [pass_psched, setEntry_psched]; exact hna))

theorem doorInput_queueLaw (b : Bay) (v : Door) : (doorInput b v s).QueueLaw none := by
  unfold doorInput
  split
  · exact hs
  · exact State.QueueLaw.setEntry_same (hs.of_frame (setPins_frame b _ s)) rfl rfl

theorem doorHeld_queueLaw (b : Bay) : (doorHeld b s).QueueLaw none := by
  have hst := queueLaw_steady none
  unfold doorHeld
  split
  · split
    · unfold doorOpens
      dsimp only
      have hd : ∀ x : BayEntry, x.occupancy = s.bmon[b].occupancy → x.path = s.bmon[b].path →
          (cctlDoorOpen b (s.setEntry b x)).QueueLaw none := fun x ho hp =>
        (hs.setEntry_same ho hp).of_frame (cctlDoorOpen_frame b _)
      split
      · exact hst.custForced b (State.QueueLaw.of_frame (pass_frame _) (pschedEvent_queueLaw (endBayCore_queueLaw b
          .forced (State.QueueLaw.of_frame (raise_frame _ _) (hd _ rfl rfl)))))
      · exact hst.eitherOrder (fun t ht => ht.of_frame (pass_frame t)) (fun t => hst.ldrvDoorOpen b)
          (State.QueueLaw.of_frame (custDoorReleased_frame b _) (hd _ rfl rfl))
    · exact hst.eitherOrder (fun t ht => ht.of_frame (pass_frame t))
        (fun t ht => hst.custDoorClosed b (hst.consider ht)) (hs.setEntry_same rfl rfl)
  · exact hs

theorem latchInput_queueLaw (b : Bay) (v : LatchSense) : (latchInput b v s).QueueLaw none := by
  unfold latchInput
  split
  · exact hs
  · exact State.QueueLaw.setEntry_same (hs.of_frame (setPins_frame b _ s)) rfl rfl

theorem latchHeld_queueLaw (b : Bay) : (latchHeld b s).QueueLaw none := by
  unfold latchHeld
  split
  · exact consider_queueLaw (State.QueueLaw.of_frame (ldrvLatchSense_frame b _) (hs.setEntry_same rfl rfl))
  · exact hs

theorem levelEvent_queueLaw (b : Bay) : (levelEvent b s).QueueLaw none :=
  (queueLaw_steady none).eitherOrder (fun t ht => ht.of_frame (pallocLevel_frame b t))
    (fun t => consider_queueLaw) hs

theorem pollBay_queueLaw (b : Bay) : (pollBay b s).QueueLaw none := by
  unfold pollBay
  repeat' split
  · exact hs.setEntry_same rfl rfl
  all_goals exact hs

theorem levelReported_queueLaw (b : Bay) (n : Nat) (ok : Bool) : (levelReported b n ok s).QueueLaw none := by
  unfold levelReported
  split
  · have ht := hs.setEntry_same (b := b) (x := { s.bmon[b] with level := some n, levelAge := some s.now }) rfl rfl
    dsimp only
    split
    · exact ht
    · exact levelEvent_queueLaw ht b
  · exact hs

theorem reportWaitEnds_queueLaw (b : Bay) : (reportWaitEnds b s).QueueLaw none := by
  unfold reportWaitEnds
  split
  · exact hs.setEntry_same rfl rfl
  · exact hs

theorem levelStales_queueLaw (b : Bay) : (levelStales b s).QueueLaw none := by
  unfold levelStales
  split
  · have ht := hs.setEntry_same (b := b) (x := { s.bmon[b] with level := none, levelAge := none }) rfl rfl
    dsimp only
    split
    · exact ht
    · exact levelEvent_queueLaw ht b
  · exact hs

theorem lineActive_queueLaw (b : Bay) : (lineActive b s).QueueLaw none := by
  unfold lineActive
  split
  · exact hs.setEntry_same rfl rfl
  · exact hs

theorem silenceReached_queueLaw (b : Bay) : (silenceReached b s).QueueLaw none := by
  unfold silenceReached
  split
  · split
    · exact pschedLineEvent_queueLaw b _ _ (hs.setEntry_same rfl rfl)
    · exact hs
  · exact hs

theorem faultLevel_queueLaw (b : Bay) (v : Bool) : (faultLevel b v s).QueueLaw none := by
  have ht : (s.setPins b { s.pins[b] with atFault := v }).QueueLaw none := hs.of_frame (setPins_frame b _ s)
  unfold faultLevel
  dsimp only
  split
  · exact hs
  split
  · exact ht.setEntry_same rfl rfl
  · exact ht

theorem faultReached_queueLaw (b : Bay) : (faultReached b s).QueueLaw none := by
  unfold faultReached
  split
  · have he : (s.setEntry b { s.bmon[b] with path := .cut, faultTimer := none }).QueueLaw none :=
      hs.setEntry (fun ha hne => (hs.active b ha).2 hne) (fun hp => absurd hp (by simp)) fun _ _ => id
    have ht := he.of_frame (raise_frame .bayFault _)
    dsimp only
    split
    · exact consider_queueLaw (pschedLineEvent_queueLaw b _ _ ht)
    · exact consider_queueLaw ht
  · exact hs

/-! ## Charge, sessions and the heartbeat -/

theorem newDemand_queueLaw (b : Bay) (n : Nat) : (newDemand b n s).QueueLaw none := by
  unfold newDemand
  split
  · exact hs
  · exact cctlChange_queueLaw hs b _

theorem agreed_queueLaw (b : Bay) (n : Nat) : (agreed b n s).QueueLaw none := by
  unfold agreed
  split
  · exact cctlChange_queueLaw hs b _
  · exact newDemand_queueLaw hs b n
  all_goals exact hs

theorem negotiationExpires_queueLaw (b : Bay) : (negotiationExpires b s).QueueLaw none := by
  unfold negotiationExpires
  split
  · exact cctlChange_queueLaw hs b _
  · exact hs

theorem announced_queueLaw (b : Bay) (n : Nat) : (announced b n s).QueueLaw none := by
  unfold announced
  split
  · exact newDemand_queueLaw hs b n
  · exact hs

theorem comparatorSampled_queueLaw (b : Bay) (high : Bool) : (comparatorSampled b high s).QueueLaw none := by
  have ht : (tripBay b s).QueueLaw none := State.QueueLaw.of_frame (raise_frame _ _) (cctlChange_queueLaw hs b _)
  have hc : ∀ c : ChargeBay, (s.setCharge b c).QueueLaw none := fun c => hs.of_frame (setCharge_frame b c s)
  unfold comparatorSampled
  dsimp only
  split
  · split
    · exact hc _
    · split
      · exact hc _
      · exact ht
  · split
    · split
      · exact ht
      · exact hc _
    · exact hs

theorem cooldownExpires_queueLaw (b : Bay) : (cooldownExpires b s).QueueLaw none := by
  unfold cooldownExpires
  split
  · exact cctlChange_queueLaw hs b _
  · exact hs

theorem sessionTimeExpires_queueLaw (c : Chan) : (sessionTimeExpires c s).QueueLaw none := by
  unfold sessionTimeExpires
  repeat' split
  · exact pschedEvent_queueLaw (endSessionCore_queueLaw c _ _ hs)
  all_goals exact hs

theorem handMode_queueLaw (m : Mode) : (handMode m s).QueueLaw none :=
  (queueLaw_steady none).eitherOrder (fun t ht => ht.of_frame (pallocMode_frame m t))
    (fun t => pschedMode_queueLaw m) hs

theorem failure_queueLaw (f : HeartbeatFailure) : (failure f s).QueueLaw none := by
  have hm : ∀ m, (s.setSmon m).QueueLaw none := fun m => hs.of_frame (setSmon_frame m s)
  unfold failure
  dsimp only
  split
  · exact handMode_queueLaw (hm _) _
  · exact (hm _).of_frame (raise_frame _ _)

theorem returnAttended_queueLaw (m : Smon) : (returnAttended m s).QueueLaw none :=
  handMode_queueLaw ((hs.of_frame (setSmon_frame _ s)).of_frame (raise_frame _ _)) _

theorem heartbeat_queueLaw : (heartbeat s).QueueLaw none := by
  unfold heartbeat
  split
  · split
    · exact returnAttended_queueLaw hs _
    · exact hs
  · exact failure_queueLaw hs _
  · exact hs.of_frame (setSmon_frame _ s)

theorem windowTimeExpires_queueLaw : (windowTimeExpires s).QueueLaw none := by
  unfold windowTimeExpires
  split
  · exact failure_queueLaw hs _
  · exact hs

theorem watchEvents_queueLaw (bs : List (Nat × Byte)) : (watchEvents bs s).QueueLaw none := by
  have hw : ∀ (a : Nat) (f : Byte → State → State) (t : State), t.QueueLaw none → (∀ v, (f v t).QueueLaw none) →
      (watch bs a f t).QueueLaw none := fun a f t ht hf => by
    unfold watch
    split
    · exact hf _
    · exact ht
  have h0 := hw (listStateAt 0) (listCommand 0) s hs fun v => hs.of_frame (listCommand_frame 0 v s)
  have h1 := hw (listStateAt 1) (listCommand 1) _ h0 fun v => h0.of_frame (listCommand_frame 1 v _)
  have h2 := hw endWordAt (fun v s => s.withNctl (s.nctl.endWord v)) _ h1 fun v => h1.of_frame (withNctl_frame _ _)
  exact hw heartbeatAt (fun _ => heartbeat) _ h2 fun _ => heartbeat_queueLaw h2

theorem writeBurst_queueLaw (w : Burst) : (writeBurst w s).QueueLaw none := by
  unfold writeBurst
  split
  · exact watchEvents_queueLaw ((hs.of_frame (landBytes_frame _ s)).of_frame (recordHit_frame _ _)) _
  · exact hs

/-! ## Orders -/

omit hs in
/-- A visit of PROVISION (Table 4-5). -/
theorem provBay_queueLaw {x : State × Nat} (hx : x.1.QueueLaw none) (b : Bay) (rev : Half) (n m : Nat) :
    (provBay b rev n m x).1.QueueLaw none := by
  unfold provBay
  dsimp only
  split
  · next h =>
    have hp := hx.setProv_same (b := b) (r := { x.1.psched.records[b] with
      wanted := rev, sessionLimit := n, silenceLimit := m }) rfl
    unfold provWanted
    dsimp only
    split
    · next c _ =>
      refine hp.congr rfl (fun _ => rfl) (fun d => ?_) (fun y ha hne => (hp.active y ha).2 hne) fun _ h => h
      unfold PSched.bayOf
      rw [setChannel_psched, getElem_set_fin]
      split
      · next hd => subst hd; exact Option.map_map ..
      · rfl
    · exact hp
  · next h =>
    split
    · exact hx.leaveQueue (by rw [h]; decide) (by simp [ProvRecord.toCurrent]) (by simp [ProvRecord.toCurrent])
    · exact hx.setProv_same rfl
  all_goals
    next h =>
    split
    · exact hx.setProv_idle (by rw [h]; decide) (by rw [h]; decide) (by simp [ProvRecord.toCurrent])
        (by simp [ProvRecord.toCurrent])
    · exact hx.append (by rw [h]; decide) (by rw [h]; decide) rfl

theorem provVisits_queueLaw (bays : List Bay) (rev : Half) (n m : Nat) :
    (provVisits bays rev n m s).1.QueueLaw none := by
  have hv : ∀ (bs : List Bay) (x : State × Nat), x.1.QueueLaw none →
      (bs.foldl (provVisit rev n m) x).1.QueueLaw none := by
    intro bs
    induction bs with
    | nil => exact fun x hx => hx
    | cons b bs ih =>
      refine fun x hx => ih _ ?_
      unfold provVisit
      split
      · exact provBay_queueLaw hx b rev n m
      · exact hx
  exact hv bays (s, 0) hs

theorem provisionEvent_queueLaw (bays : List Bay) (rev : Half) (n m : Nat) :
    (provisionEvent bays rev n m s).QueueLaw none := by
  have hv := provVisits_queueLaw hs bays rev n m
  refine pschedEvent_queueLaw (f := fun s =>
    if (provVisits bays rev n m s).2 = 0 then (provVisits bays rev n m s).1
    else considerCore (provVisits bays rev n m s).1) ?_
  split
  · exact hv
  · exact considerCore_queueLaw hv

theorem cancelVisits_queueLaw (bays : List Bay) : (cancelVisits bays s).1.QueueLaw none := by
  have hv : ∀ (bs : List Bay) (x : State × Nat), x.1.QueueLaw none → (bs.foldl cancelVisit x).1.QueueLaw none := by
    intro bs
    induction bs with
    | nil => exact fun x hx => hx
    | cons b bs ih =>
      refine fun x hx => ih _ ?_
      unfold cancelVisit
      split
      · next h => exact hx.clearCore (by rw [h]; decide)
      · exact endBayCore_queueLaw b _ hx
      all_goals exact hx
  exact hv bays (s, 0) hs

theorem applyThresholds_queueLaw (rel mn : Nat) : (applyThresholds rel mn s).QueueLaw none := by
  have ht : (if rel = s.psched.releaseThreshold
      then s.withPsched { s.psched with releaseThreshold := rel, provMinimum := mn }
      else passIfChanged (s.withPsched { s.psched with releaseThreshold := rel, provMinimum := mn })).QueueLaw none := by
    split
    · exact hs.of_frame (thresholds_frame rel mn s)
    · exact (hs.of_frame (thresholds_frame rel mn s)).of_frame (passIfChanged_frame _)
  unfold applyThresholds
  dsimp only
  split
  · exact ht
  · exact considerCore_queueLaw ht

theorem clearCut_queueLaw (b : Bay) : (clearCut b s).QueueLaw none :=
  consider_queueLaw (hs.setEntry (fun ha hne => (hs.active b ha).2 hne)
    (fun hp => by dsimp only at hp; split at hp <;> exact absurd hp (by decide)) fun _ _ => id)

theorem orderClearFault_queueLaw (off : Nat) : (orderClearFault off s).1.QueueLaw none := by
  have hl : ∀ b, (clearLockout b s).QueueLaw none := fun b => cctlChange_queueLaw hs b _
  rcases orderClearFault_cases off s with h | ⟨b, ⟨-, h⟩ | ⟨-, h⟩ | ⟨-, -, h⟩⟩ <;> rw [h]
  · exact hs
  · exact hl b
  · exact clearCut_queueLaw hs b
  · exact clearCut_queueLaw (hl b) b

theorem applySupervision_queueLaw (c m : Nat) (en : Bool) : (applySupervision c m en s).QueueLaw none := by
  have hm : ∀ m, (s.setSmon m).QueueLaw none := fun m => hs.of_frame (setSmon_frame m s)
  unfold applySupervision
  dsimp only
  split
  · exact hm _
  · exact hm _
  · exact hm _
  · exact returnAttended_queueLaw hs _

theorem owner_queueLaw (k : OrderKind) (off : Nat) : (k.owner off s).1.QueueLaw none := by
  cases k with
  | setLimits => exact hs.of_frame (owner_frame .setLimits off s)
  | setThresholds => exact pschedEvent_queueLaw (applyThresholds_queueLaw hs _ _)
  | bayConfig =>
    rcases orderBayConfig_cases off s with h | ⟨_, _, h⟩ <;> rw [OrderKind.owner, h]
    · exact hs
    · exact hs.setEntry_same rfl rfl
  | reserve => exact hs.of_frame (owner_frame .reserve off s)
  | provision =>
    rcases orderProvision_cases off s with h | ⟨_, _, _, _, h⟩ <;> rw [OrderKind.owner, h]
    · exact hs
    · exact provisionEvent_queueLaw hs _ _ _ _
  | cancelProvision =>
    rcases orderCancelProvision_cases off s with h | ⟨bays, h⟩ <;> rw [OrderKind.owner, h]
    · exact hs
    · exact pschedEvent_queueLaw (f := fun s => (cancelVisits bays s).1) (cancelVisits_queueLaw hs bays)
  | sessionEnd =>
    rcases orderSessionEnd_cases off s with h | ⟨_, _, _, h⟩ <;> rw [OrderKind.owner, h]
    · exact hs
    · exact pschedEvent_queueLaw (endSessionCore_queueLaw _ _ _ hs)
  | setClock => exact hs.of_frame (owner_frame .setClock off s)
  | releaseBay =>
    exact orderReleaseBay_steady (queueLaw_steady none) off hs fun b =>
      pschedEvent_queueLaw (endBayCore_queueLaw b _ hs)
  | setLatchMode => exact orderSetLatchMode_steady (queueLaw_steady none) off hs
  | clearFault => exact orderClearFault_queueLaw hs off
  | setSupervision =>
    rcases orderSetSupervision_cases off s with h | ⟨_, _, _, h⟩ <;> rw [OrderKind.owner, h]
    · exact hs
    · exact applySupervision_queueLaw hs _ _ _
  | commitCredentials => exact hs.of_frame (owner_frame .commitCredentials off s)
  | commitWindows => exact hs.of_frame (owner_frame .commitWindows off s)
  | custodyRestore => exact hs.of_frame (owner_frame .custodyRestore off s)
  | forgetTablet => exact hs.of_frame (owner_frame .forgetTablet off s)
  | setNotice => exact hs.of_frame (owner_frame .setNotice off s)

end commands

/-! ## Every step (O8) -/

/-- A state that starts with PSCHED at its reset values and every path DARK. -/
theorem restart_queueLaw {s : State} (hr : ∀ b : Bay, s.psched.records[b] = ProvRecord.reset)
    (hq : s.psched.queue = []) (hc : ∀ c : Chan, s.psched.channels[c].session = none)
    (hp : ∀ b : Bay, s.bmon[b].path = .dark) : (clearCounts (pass s)).QueueLaw none := by
  have hbay : ∀ c, s.psched.bayOf c = none := fun c => by unfold PSched.bayOf; rw [hc]; rfl
  have hs : s.QueueLaw none := by
    refine ⟨by rw [hq]; exact List.nodup_nil, fun b => ?_, fun c b h => ?_, fun c d b h => ?_, fun b h => ?_,
      fun b h => ?_⟩
    · rw [hq, hr]
      exact ⟨fun h => absurd h List.not_mem_nil, fun h => absurd h (by decide)⟩
    · rw [hbay] at h; exact absurd h (by simp)
    · rw [hbay] at h; exact absurd h (by simp)
    · rw [hr] at h; exact absurd h (by decide)
    · rw [hp] at h; exact absurd h (by decide)
  exact (hs.of_frame (pass_frame s)).of_frame (clearCounts_frame _)

theorem partReset_queueLaw (k : ResetCause) (s : State) : (partReset k s).QueueLaw none :=
  restart_queueLaw (fun b => by simp [PSched.partReset, PSched.reset]) rfl
    (fun c => by simp [PSched.partReset, PSched.reset]) fun b => by simp [BayEntry.sensing, BayEntry.reset]

theorem powerUp_queueLaw (s : State) : (powerUp s).QueueLaw none :=
  restart_queueLaw (fun b => reset_record b) rfl (fun c => reset_session c)
    fun b => by simp [BayEntry.sensing, BayEntry.reset]

theorem exec_queueLaw : ∀ (i : Instr) (s t : State), s.QueueLaw none → exec i s = .next t → t.QueueLaw none := by
  refine exec_keeps_of_parts (l := [.bays, .paths, .prov]) ?_
    (dispatch_keeps (fun h hs => hs.of_frame h) fun k off s hs => owner_queueLaw hs k off) ?_
  · exact fun s t m h hm hs => hs.of_frame h (hm _ (by simp)) (hm _ (by simp)) (hm _ (by simp))
  intro i s t hi hpart hs h
  cases i with
  | powerOn => rw [exec_next_eq h rfl]; exact powerUp_queueLaw s
  | resetnPartReset cut => rw [exec_next_eq h rfl]; exact partReset_queueLaw _ _
  | controlPartReset ds => rw [exec_next_eq h rfl]; exact partReset_queueLaw _ _
  | registerWrite n data =>
    rw [exec_next_eq h rfl]
    rcases writeRegister_cases n data s with hw | hw <;> rw [hw]
    · exact hs
    · exact partReset_queueLaw _ _
  | memoryWrite w => rw [exec_next_eq h rfl]; exact writeBurst_queueLaw hs w
  | presenceInputChange b v => rw [exec_next_eq h rfl]; exact presenceChange_queueLaw hs b v
  | attach b => rw [exec_next_eq h rfl]; exact attachBay_queueLaw hs b
  | detach b => rw [exec_next_eq h rfl]; exact detachBay_queueLaw hs b
  | tagFrame b tag ok =>
    rw [exec_next_eq h rfl]
    unfold tagFrameArrives
    split
    · split
      · next h =>
        split
        · exact readTag_queueLaw hs h.1 tag
        · exact failAttempt_queueLaw hs h.1 _
      · exact hs
    · exact hs
  | tagReadAttemptExpiry b =>
    rw [exec_next_eq h rfl]
    unfold tagReadExpires
    split
    · split
      · next h => exact failAttempt_queueLaw hs h.1 _
      · exact hs
    · exact hs
  | doorInputChange b v => rw [exec_next_eq h rfl]; exact doorInput_queueLaw hs b _
  | doorEvent b => rw [exec_next_eq h rfl]; exact doorHeld_queueLaw hs b
  | latchSenseInputChange b v => rw [exec_next_eq h rfl]; exact latchInput_queueLaw hs b _
  | latchSenseChange b => rw [exec_next_eq h rfl]; exact latchHeld_queueLaw hs b
  | levelPoll b => rw [exec_next_eq h rfl]; exact pollBay_queueLaw hs b
  | levelReport b n ok => rw [exec_next_eq h rfl]; exact levelReported_queueLaw hs b _ ok
  | levelReportWaitExpiry b => rw [exec_next_eq h rfl]; exact reportWaitEnds_queueLaw hs b
  | levelStale b => rw [exec_next_eq h rfl]; exact levelStales_queueLaw hs b
  | lineActivity b => rw [exec_next_eq h rfl]; exact lineActive_queueLaw hs b
  | silenceEvent b => rw [exec_next_eq h rfl]; exact silenceReached_queueLaw hs b
  | faultLevelChange b v => rw [exec_next_eq h rfl]; exact faultLevel_queueLaw hs b v
  | faultLevelExpiry b => rw [exec_next_eq h rfl]; exact faultReached_queueLaw hs b
  | agreement b n => rw [exec_next_eq h rfl]; exact agreed_queueLaw hs b n
  | negotiationExpiry b => rw [exec_next_eq h rfl]; exact negotiationExpires_queueLaw hs b
  | demandAnnouncement b n => rw [exec_next_eq h rfl]; exact announced_queueLaw hs b n
  | overCurrentSample b high => rw [exec_next_eq h rfl]; exact comparatorSampled_queueLaw hs b high
  | cooldownExpiry b => rw [exec_next_eq h rfl]; exact cooldownExpires_queueLaw hs b
  | sessionTimerExpiry c => rw [exec_next_eq h rfl]; exact sessionTimeExpires_queueLaw hs c
  | tokenArrival f => rw [exec_next_eq h rfl]; exact (queueLaw_steady none).frameComplete f hs
  | releaseWindowExpiry b => rw [exec_next_eq h rfl]; exact (queueLaw_steady none).windowExpires b hs
  | latchWaitExpiry b => rw [exec_next_eq h rfl]; exact (queueLaw_steady none).latchWaitExpires b hs
  | driveTimeEnd k => rw [exec_next_eq h rfl]; exact (queueLaw_steady none).driveTimeEnds k hs
  | windowExpiry => rw [exec_next_eq h rfl]; exact windowTimeExpires_queueLaw hs
  | _ => first | exact absurd hi (by decide) | exact absurd hpart (by dsimp only [partsOf]; decide)

/-- Settles O8. -/
theorem everyStepKeepsQueueAndChannels : Obligations.EveryStepKeepsQueueAndChannels := by
  unfold Obligations.EveryStepKeepsQueueAndChannels
  simp only [queueGood_iff]
  exact step_keeps (fun _ _ h => h.congr rfl (fun _ => rfl) (fun _ => rfl) (fun b ha hne => (h.active b ha).2 hne)
      fun _ h => h)
    (fun _ _ h => h.congr rfl (fun _ => rfl) (fun _ => rfl) (fun b ha hne => (h.active b ha).2 hne) fun _ h => h)
    exec_queueLaw

end Sys2Proof.Machine
end

section
/-! PROOF. Laws of the blocks: tier and want of a bay (R38 to R41), presentable sources (R174), lookup and open
groups (R97, R99), and the port's bytes (R180). -/

namespace Sys2Proof.Machine

-- One declaration after the other: the check compiles the whole text within a memory bound.
set_option Elab.async false

/-! ## Tier and want (R38, R41) -/

theorem tierOf_session {s : State} {b : Bay} {c : Chan} {x : Session}
    (h : s.psched.channels[c].session = some x) (hb : x.bay = b) : s.tierOf b = .session := by
  have hc : (s.psched.channelOf b).isSome = true :=
    (channelOf_isSome _ b).2 ⟨c, bayOf_eq_some.2 ⟨x, h, hb⟩⟩
  simp [State.tierOf, hc]

/-- The tier of a bay that no channel is BUSY with (R38, R40). -/
theorem tierOf_idle {s : State} {b : Bay}
    (h : ∀ (c : Chan) (x : Session), s.psched.channels[c].session = some x → x.bay ≠ b) :
    (s.reservationNear b → s.tierOf b = .due) ∧
    (¬s.reservationNear b → s.palloc.bays[b].toppedMark = true → s.tierOf b = .topped) ∧
    (¬s.reservationNear b → s.palloc.bays[b].toppedMark = false →
      (s.bmon[b].level = none → s.tierOf b = .low) ∧
      ∀ l : Nat, s.bmon[b].level = some l → (l < 30 → s.tierOf b = .low) ∧ (30 ≤ l → s.tierOf b = .normal)) := by
  have hc : (s.psched.channelOf b).isSome = false := by rw [channelOf_eq_none h]; rfl
  rw [← reservationTest_iff]
  refine ⟨fun hr => ?_, fun hr ht => ?_, fun hr ht => ⟨fun hl => ?_, fun l hl => ⟨fun hx => ?_, fun hx => ?_⟩⟩⟩
  · simp [State.tierOf, hc, hr]
  · simp [-Fin.getElem_fin, State.tierOf, hc, hr, ht]
  · simp [-Fin.getElem_fin, State.tierOf, hc, hr, ht, hl]
  · simp [-Fin.getElem_fin, State.tierOf, hc, hr, ht, hl, hx]
  · simp [-Fin.getElem_fin, State.tierOf, hc, hr, ht, hl, Nat.not_lt.2 hx]

theorem wantOf_attached {s : State} {b : Bay} (ho : s.bmon[b].occupancy.attached = true)
    (hd : s.bmon[b].door = .closed) (hc : s.cctl[b].state = .negotiating ∨ s.cctl[b].state = .delivering)
    (t : Tier) : s.wantOf b t = if t = .topped then min s.cctl[b].demand 8 else s.cctl[b].demand := by
  obtain hc | hc := hc <;> simp [-Fin.getElem_fin, State.wantOf, ho, hd, hc, Config.toppedCap]

theorem attached_iff (o : Occupancy) : o.attached = true ↔ o = .present ∨ o = .anon ∨ o = .duplicate := by
  cases o <;> simp [Occupancy.attached]

/-- Settles O11: settled tiers and wants are those of `tierOf` and `wantOf`; with a want of 0 the pass grants
nothing, and the law of CCTL bounds the applied power by the grant. -/
theorem noPowerBehindOpenDoor : Obligations.NoPowerBehindOpenDoor := by
  intro s b hs
  obtain ⟨htier, hwant, hgrant⟩ := hs.2 b
  have hzero : (s.bmon[b].occupancy.attached = false ∨ s.bmon[b].door = .opened ∨
      (s.cctl[b].state ≠ .negotiating ∧ s.cctl[b].state ≠ .delivering)) →
      s.palloc.bays[b].want = 0 ∧ s.palloc.bays[b].grant = 0 := fun h =>
    ⟨hwant.trans (wantOf_eq_zero h _), hgrant.trans (grant_eq_zero (wantOf_eq_zero h _) _ _)⟩
  refine ⟨fun ⟨c, x, hx, hb⟩ => htier.trans (tierOf_session hx hb), fun h => ?_, fun ho hd hc => ?_, fun h => hzero ?_,
    fun hp h => ?_⟩
  · rw [htier]
    exact tierOf_idle h
  · rw [hwant, htier]
    exact wantOf_attached ((attached_iff _).2 ho) hd hc _
  · rcases h with h | h | h | h | h | h <;> simp [-Fin.getElem_fin, h, Occupancy.attached]
  · obtain ⟨hw, hg⟩ := hzero (h.elim (fun h => .inr (.inl h)) .inl)
    have ha : s.cctl[b].applied = 0 := by have := hp b; omega
    exact ⟨hw, hg, ha, by rw [ChargeBay.setpoint, ha, setpointOf]⟩

/-! ## The best of a list: the lowest key, the first among equals -/

/-- One visit of a search for the lowest key. -/
def pickBest {α β : Type} [LinearOrder β] (p : α → Bool) (key : α → β) (best : Option α) (i : α) : Option α :=
  if p i = true then
    match best with
    | none => some i
    | some j => if key i < key j then some i else some j
  else best

/-- What a search over `l` has found. -/
def IsBest {α β : Type} [LinearOrder α] [LinearOrder β] (p : α → Bool) (key : α → β) (l : List α) :
    Option α → Prop
  | none => ∀ j ∈ l, p j = false
  | some i => i ∈ l ∧ p i = true ∧ ∀ j ∈ l, p j = true → key i < key j ∨ (key i = key j ∧ i ≤ j)

theorem isBest_pickBest {α β : Type} [LinearOrder α] [LinearOrder β] {p : α → Bool} {key : α → β} {l : List α}
    {i : α} {o : Option α} (h : IsBest p key l o) (hi : ∀ j ∈ l, j < i) :
    IsBest p key (l ++ [i]) (pickBest p key o i) := by
  by_cases hp : p i = true
  · cases o with
    | none =>
      simp only [pickBest, hp, if_true]
      refine ⟨by simp, hp, fun j hj hpj => ?_⟩
      obtain hj | hj := List.mem_append.1 hj
      · exact absurd (h j hj) (by simp [hpj])
      · exact .inr (by simp [List.mem_singleton.1 hj])
    | some k =>
      obtain ⟨hk, hpk, hbest⟩ := h
      simp only [pickBest, hp, if_true]
      split
      · next hlt =>
        refine ⟨by simp, hp, fun j hj hpj => ?_⟩
        obtain hj | hj := List.mem_append.1 hj
        · exact .inl (hlt.trans_le ((hbest j hj hpj).elim le_of_lt fun h => h.1.le))
        · exact .inr (by simp [List.mem_singleton.1 hj])
      · next hle =>
        refine ⟨by simp [hk], hpk, fun j hj hpj => ?_⟩
        obtain hj | hj := List.mem_append.1 hj
        · exact hbest j hj hpj
        · rw [List.mem_singleton.1 hj]
          exact (not_lt.1 hle).lt_or_eq.imp_right fun h => ⟨h, (hi k hk).le⟩
  · have hp : p i = false := by simpa using hp
    cases o with
    | none => simpa [pickBest, hp, IsBest, or_imp, forall_and] using h
    | some k =>
      obtain ⟨hk, hpk, hbest⟩ := h
      simp only [pickBest, hp, Bool.false_eq_true, if_false]
      refine ⟨by simp [hk], hpk, fun j hj hpj => ?_⟩
      obtain hj | hj := List.mem_append.1 hj
      · exact hbest j hj hpj
      · exact absurd hpj (by simp [List.mem_singleton.1 hj, hp])

theorem isBest_foldl {α β : Type} [LinearOrder α] [LinearOrder β] (p : α → Bool) (key : α → β) {l : List α}
    (hl : l.Pairwise (· < ·)) : IsBest p key l (l.foldl (pickBest p key) none) := by
  induction l using List.reverseRecOn with
  | nil => exact fun j hj => absurd hj (by simp)
  | append_singleton l i ih =>
    rw [List.pairwise_append] at hl
    obtain ⟨hl, -, hi⟩ := hl
    rw [List.foldl_append]
    exact isBest_pickBest (ih hl) fun j hj => hi j hj i (by simp)

theorem finRange_sorted (n : Nat) : (List.finRange n).Pairwise (· < ·) := by
  simp [List.pairwise_iff_getElem]

/-! ## Presentable sources (R174) -/

theorem best_eq_foldl (n : Nctl) (sel : Fin 16 → Bool) :
    n.best sel = (List.finRange 16).foldl (pickBest sel fun i => n.sources[i].level) none := by
  unfold Nctl.best
  congr 1
  funext best i
  cases best <;> simp [pickBest]

theorem best_isBest (n : Nctl) (sel : Fin 16 → Bool) :
    IsBest sel (fun i => n.sources[i].level) (List.finRange 16) (n.best sel) :=
  best_eq_foldl n sel ▸ isBest_foldl sel _ (finRange_sorted 16)

theorem best_eq_none {n : Nctl} {sel : Fin 16 → Bool} (h : n.best sel = none) (i : Fin 16) : sel i = false := by
  have hb := best_isBest n sel
  rw [h] at hb
  exact hb i (List.mem_finRange i)

theorem best_eq_some {n : Nctl} {sel : Fin 16 → Bool} {i : Fin 16} (h : n.best sel = some i) :
    sel i = true ∧ ∀ j, sel j = true → n.sources[i].level < n.sources[j].level ∨
      (n.sources[i].level = n.sources[j].level ∧ i ≤ j) := by
  have hb := best_isBest n sel
  rw [h] at hb
  exact ⟨hb.2.1, fun j => hb.2.2 j (List.mem_finRange j)⟩

theorem presentable_iff (n : Nctl) (i : Fin 16) : n.presentable i = true ↔
    n.sources[i].request = true ∧ n.sources[i].inService = false ∧ n.sources[i].capture = true ∧
      n.sources[i].level ≤ n.threshold ∧
      ∀ j : Fin 16, n.sources[j].inService = true → n.sources[i].level < n.sources[j].level := by
  simp [-Fin.getElem_fin, Nctl.presentable, Nctl.belowService, and_assoc, imp_iff_not_or]

/-- Settles O13: the highest presentable source is the best of those that are presentable. -/
theorem attnFollowsPresentableSources : Obligations.AttnFollowsPresentableSources := by
  intro s
  refine ⟨⟨fun h => ?_, fun ⟨i, hi⟩ => ?_⟩, presentable_iff s.nctl, fun i hi => ?_, fun h => ?_⟩
  · obtain ⟨i, hi⟩ := Option.isSome_iff_exists.1 h
    exact ⟨i, (best_eq_some hi).1⟩
  · rw [State.attn, Option.isSome_iff_ne_none]
    intro h
    exact absurd hi (by simp [best_eq_none h i])
  · obtain ⟨hp, hbest⟩ := best_eq_some hi
    exact ⟨hp, by rw [Nctl.peek, hi]; rfl, by rw [State.status1, hi], hbest⟩
  · exact ⟨by rw [Nctl.peek, h]; rfl, by rw [State.status1, h]⟩

/-! ## Lookup and open groups (R97, R99) -/

/-- R97: the search finds an entry between `lo` and `hi` exactly by its token, where the tokens rise strictly. -/
theorem searchBank_iff {m : List Host.Cell} {k : Bank} {count : Nat}
    (hrise : ∀ a b, a < b → b < count → (credentialAt m k a).token < (credentialAt m k b).token) (token : Nat)
    (e : CredentialEntry) : ∀ n lo hi, hi ≤ count → hi - lo < 2 ^ n →
      (searchBank m k token n lo hi = some e ↔
        ∃ j, lo ≤ j ∧ j < hi ∧ credentialAt m k j = e ∧ e.token = token) := by
  intro n
  induction n with
  | zero =>
    intro lo hi _ hn
    simp only [searchBank, reduceCtorEq, false_iff]
    rintro ⟨j, hlo, hhi, -⟩
    omega
  | succ n ih =>
    intro lo hi hc hn
    simp only [searchBank]
    split
    · next hlt =>
      have hlo : lo ≤ (lo + hi) / 2 := by omega
      have hhi : (lo + hi) / 2 < hi := by omega
      split
      · next heq =>
        constructor
        · intro h
          exact ⟨_, hlo, hhi, Option.some.inj h, Option.some.inj h ▸ heq⟩
        · rintro ⟨j, _, hj, rfl, ht⟩
          rcases lt_trichotomy j ((lo + hi) / 2) with hlt | rfl | hgt
          · have := hrise _ _ hlt (hhi.trans_le hc); omega
          · rfl
          · have := hrise _ _ hgt (hj.trans_le hc); omega
      · next hne =>
        split
        · next hless =>
          rw [ih _ _ hc (by omega)]
          refine exists_congr fun j => ⟨fun ⟨h1, h2⟩ => ⟨by omega, h2⟩, fun ⟨h1, h2, h3, h4⟩ => ⟨?_, h2, h3, h4⟩⟩
          by_contra hlt
          rcases (show j < (lo + hi) / 2 ∨ j = (lo + hi) / 2 by omega) with hj | rfl
          · have := hrise _ _ hj (hhi.trans_le hc); rw [h3] at this; omega
          · rw [h3] at hne; exact hne h4
        · next hless =>
          rw [ih _ _ (by omega) (by omega)]
          refine exists_congr fun j => ⟨fun ⟨h1, h2, h3⟩ => ⟨h1, by omega, h3⟩,
            fun ⟨h1, h2, h3, h4⟩ => ⟨h1, ?_, h3, h4⟩⟩
          by_contra hlt
          rcases (show (lo + hi) / 2 < j ∨ j = (lo + hi) / 2 by omega) with hj | rfl
          · have := hrise _ _ hj (h2.trans_le hc); rw [h3] at this; omega
          · rw [h3] at hne; exact hne h4
    · simp only [reduceCtorEq, false_iff]
      rintro ⟨j, _, _, -⟩
      omega

/-- R94: the tokens of the entries of a commit that passed rise strictly. -/
theorem tokens_rise {m : List Host.Cell} {k : Bank} {count : Nat} (h : firstBadEntry m k count = none) :
    ∀ a b, a < b → b < count → (credentialAt m k a).token < (credentialAt m k b).token := by
  have hstep : ∀ b, b + 1 < count → (credentialAt m k b).token < (credentialAt m k (b + 1)).token := by
    intro b hb
    have hg := List.find?_eq_none.1 h (b + 1) (List.mem_range.2 hb)
    simp [CredentialEntry.good, tokenBefore] at hg
    omega
  intro a b hab
  induction b with
  | zero => omega
  | succ b ih =>
    intro hb
    rcases (show a < b ∨ a = b by omega) with hlt | rfl
    · exact (ih hlt (by omega)).trans (hstep b hb)
    · exact hstep a hb

/-- R97: a lookup in the entries in force of the active bank. -/
theorem lookup_iff {s : State} (hs : s.bankGood) {k : Bank} (hk : s.acc.activeBank = some k) (token : Token)
    (e : CredentialEntry) : s.lookup token = some e ↔ token ≠ noToken ∧
      ∃ n : Nat, n < s.acc.activeCount ∧ credentialAt s.swm.mem k n = e ∧ e.token = token.toNat := by
  obtain ⟨hcount, hgood⟩ := hs k hk
  have hsearch := searchBank_iff (tokens_rise hgood) token.toNat e 10 0 s.acc.activeCount le_rfl (by omega)
  simp only [State.lookup, hk]
  split
  · next h => simp [h]
  · next h =>
    rw [hsearch]
    simp [h]

theorem groupOpen_iff {s : State} {m : Nat} (hm : s.minute = some m) (g : Nat) :
    s.groupOpen g = true ↔ ∃ w ∈ s.acc.windows, w.days.getLsbD (m / 1440) = true ∧
      w.start ≤ m % 1440 ∧ m % 1440 < w.stop ∧ w.groups.getLsbD g = true := by
  have hmod : m - 1440 * (m / 1440) = m % 1440 := by omega
  simp only [State.groupOpen, hm, List.any_eq_true, WindowEntry.opens, hmod, Bool.and_eq_true, decide_eq_true_eq,
    and_assoc]

/-- Settles O14. -/
theorem lookupAndOpenGroups : Obligations.LookupAndOpenGroups := by
  refine ⟨fun s token hs => ⟨fun h => by rw [State.lookup, h], fun k e hk => lookup_iff hs hk token e⟩,
    fun s g => ⟨fun h => by rw [State.groupOpen, h], fun m hm => groupOpen_iff hm g⟩⟩

/-! ## The port's bytes (R180) -/

theorem offsetOf_offsetBytes (o : BitVec 24) :
    offsetOf (BitVec.extractLsb' 0 8 o) (BitVec.extractLsb' 8 8 o) (BitVec.extractLsb' 16 8 o) = o := by
  simp only [offsetOf]
  ext i hi
  simp only [BitVec.getElem_append, BitVec.getElem_extractLsb']
  split
  · simp [BitVec.getLsbD_eq_getElem hi]
  · split
    · rw [show 8 + (i - 8) = i by omega, BitVec.getLsbD_eq_getElem hi]
    · rw [show 16 + (i - 8 - 8) = i by omega, BitVec.getLsbD_eq_getElem hi]

/-- Settles O15, command by command; a well-formed one has a first data byte. -/
theorem portCommandsDecodeWhatIsEncoded : Obligations.PortCommandsDecodeWhatIsEncoded := by
  intro i bytes hw he
  cases i with
  | memoryRead o n =>
    obtain ⟨m, rfl⟩ : ∃ m, n = m + 1 := ⟨n - 1, by simp [Instr.wellFormed] at hw; omega⟩
    cases he
    simp [decodePort, offsetBytes, List.replicate_succ, offsetOf_offsetBytes]
  | memoryWrite w =>
    obtain ⟨o, _ | ⟨d, ds⟩⟩ := w
    · simp [Instr.wellFormed, Burst.wellFormed] at hw
    · cases he
      simp [decodePort, offsetBytes, offsetOf_offsetBytes]
  | registerRead r n =>
    obtain ⟨m, rfl⟩ : ∃ m, n = m + 1 := ⟨n - 1, by simp [Instr.wellFormed] at hw; omega⟩
    cases he
    simp [decodePort, List.replicate_succ]
  | controlPartReset ds =>
    cases he
    simp [decodePort, decodeRegisterWrite]
  | registerWrite r ds =>
    obtain _ | ⟨d, ds⟩ := ds
    · simp [Instr.wellFormed] at hw
    · have hd : ¬(r = controlNumber ∧ d = partResetCode) := by
        simpa [Instr.wellFormed, imp_iff_not_or] using hw
      cases he
      simpa [decodePort, decodeRegisterWrite] using hd
  | _ => simp [encodePort] at he

end Sys2Proof.Machine
end

section
/-! PROOF. The resets (R51, R52, R158, R170) and the register page (R159, R180). -/

namespace Sys2Proof.Machine

-- One declaration after the other: the check compiles the whole text within a memory bound.
set_option Elab.async false

/-! ## What a state is that has just restarted -/

/-- Every bay is EMPTY, OFF and without a session, and PALLOC has decided nothing. -/
structure State.Restarting (u : State) : Prop where
  occupancy : ∀ b : Bay, u.bmon[b].occupancy = .empty
  level : ∀ b : Bay, u.bmon[b].level = none
  session : ∀ c : Chan, u.psched.channels[c].session = none
  powerBay : ∀ b : Bay, u.palloc.bays[b] = PowerBay.reset

section
variable {u : State} (hu : u.Restarting)
include hu

theorem restarting_want (b : Bay) : u.wantOf b (u.tierOf b) = 0 :=
  wantOf_eq_zero (.inl (by rw [hu.occupancy]; rfl)) _

theorem restarting_charge (b : Bay) : (pass u).cctl[b] = u.cctl[b] := by
  have hg : u.passed.bays[b].grant = u.palloc.bays[b].grant := by
    rw [passed_grant, grant_eq_zero (restarting_want hu b), hu.powerBay]; rfl
  rw [pass_cctl, grantsTaken_charge, if_pos hg]

theorem restarting_idle (b : Bay) (c : Chan) (x : Session) (h : u.psched.channels[c].session = some x) : x.bay ≠ b :=
  absurd (h.symm.trans (hu.session c)) (by simp)

theorem restarting_powerBay (b : Bay) : u.passed.bays[b].toppedMark = false ∧
    u.passed.bays[b].want = 0 ∧ u.passed.bays[b].grant = 0 ∧
    (u.reservationNear b → u.passed.bays[b].tier = .due) ∧
    (¬u.reservationNear b → u.passed.bays[b].tier = .low) := by
  have htop : u.palloc.bays[b].toppedMark = false := by rw [hu.powerBay]; rfl
  obtain ⟨hdue, -, hlow⟩ := tierOf_idle (restarting_idle hu b)
  have htier : u.passed.bays[b].tier = u.tierOf b := by
    simpa [-Fin.getElem_fin, pass_tierOf] using ((pass_settled u).2 b).1
  rw [htier]
  refine ⟨?_, ?_, ?_, hdue, fun h => (hlow h htop).1 (hu.level b)⟩
  · simpa [State.passed] using htop
  · have hwant := ((pass_settled u).2 b).2.1
    simpa [-Fin.getElem_fin, pass_tierOf, pass_wantOf, restarting_want hu] using hwant
  · rw [passed_grant, grant_eq_zero (restarting_want hu b)]

end

theorem reservationNear_congr {s t : State} {b : Bay} (ha : t.acc = s.acc) (hl : t.bmon[b].level = s.bmon[b].level)
    (hp : t.psched.releaseThreshold = s.psched.releaseThreshold) : t.reservationNear b ↔ s.reservationNear b := by
  simp only [State.reservationNear, State.minute, ha, hl, hp]

/-- PALLOC's state before the first pass of a restart (R51, R52). -/
def PAlloc.Restarting (p : PAlloc) (input now : Nat) : Prop :=
  p.supply = .nominal ∧
  p.belowSag = (if input < p.sagSelect.threshold then some now else none) ∧
  p.belowDeep = (if input < p.deepSelect.threshold then some now else none) ∧
  p.aboveSag = (if p.sagSelect.threshold ≤ input then some now else none) ∧
  p.aboveDeep = (if p.deepSelect.threshold ≤ input then some now else none) ∧
  p.thermal = .sensorLost ∧ p.temp = none ∧ p.invalidSamples = 3 ∧ p.sampleSince = now ∧
  p.supervisionFactor = 4 ∧ p.reserve = 28

theorem restarting_of_timers {p : PAlloc} {input now : Nat} (hs : p.supply = .nominal) (ht : p.thermal = .sensorLost)
    (htemp : p.temp = none) (hi : p.invalidSamples = 3) (hf : p.supervisionFactor = 4) (hr : p.reserve = 28) :
    ({ p.restartTimers input now with sampleSince := now } : PAlloc).Restarting input now := by
  simp [PAlloc.Restarting, PAlloc.restartTimers, restartWhile, hs, ht, htemp, hi, hf, hr]

theorem pallocRestarted_of_pass {s u : State} (hu : u.Restarting) (hp : u.palloc.Restarting s.vsense s.now) :
    s.pallocRestarted (clearCounts (pass u)) := by
  obtain ⟨hsup, hbs, hbd, has, had, hth, htemp, hinv, hsince, hfac, hres⟩ := hp
  have hnet : u.palloc.netBudget = (u.palloc.limit - 160 - 28) * 4 * 4 * 8 / 256 := by
    simp [PAlloc.netBudget, netBudget, PAlloc.supplyFactor, hsup, SupplyState.factor, hfac, PAlloc.thermalFactor,
      hth, thermalFactor, hres, Config.overhead]
  have hfields : (clearCounts (pass u)).palloc = u.passed := by simp [clearCounts]
  have hfactor : u.passed.thermalFactor = 8 := by
    simp [State.passed, PAlloc.thermalFactor, hth, thermalFactor]
  rw [State.pallocRestarted, hfields]
  refine ⟨hsup, hbs, hbd, has, had, hth, htemp, hinv, hfactor, hsince, hfac, hres, hnet, fun b => ?_⟩
  rw [reservationNear_congr (s := u) (t := clearCounts (pass u)) (by simp [clearCounts]) (by simp [clearCounts])
    (by simp [clearCounts])]
  exact restarting_powerBay hu b

/-! ## The two resets -/

/-- The state of a part reset before PALLOC's first pass. -/
def partRestart (cause : ResetCause) (s : State) : State :=
  { s with
    bmon := Vector.ofFn fun b : Bay => BayEntry.sensing s.pins[b] s.bmon[b].pool s.now
    palloc := s.palloc.partReset s.vsense s.now
    cctl := Vector.replicate 36 ChargeBay.reset
    psched := s.psched.partReset
    acc := s.acc.partReset
    cust := s.cust.partReset s.minute
    ldrv := s.ldrv.partReset
    smon := Smon.reset
    swm := s.swm.partReset cause
    owalk := Vector.replicate 2 OrderList.reset
    nctl := Nctl.reset }

theorem partReset_eq (cause : ResetCause) (s : State) : partReset cause s = clearCounts (pass (partRestart cause s)) :=
  rfl

theorem partRestart_restarting (k : ResetCause) (s : State) : (partRestart k s).Restarting where
  occupancy b := by simp [partRestart, BayEntry.sensing, BayEntry.reset]
  level b := by simp [partRestart, BayEntry.sensing, BayEntry.reset]
  session c := by simp [partRestart, PSched.partReset, PSched.reset]
  powerBay b := by simp [partRestart, PAlloc.partReset, PAlloc.restartTimers, PAlloc.reset]

/-- The state of a power-on before PALLOC's first pass. -/
def powerRestart (s : State) : State :=
  { State.reset with
    pending := s.pending
    now := s.now
    choices := s.choices
    pins := s.pins
    vsense := s.vsense
    bmon := Vector.ofFn fun b : Bay => BayEntry.sensing s.pins[b] none s.now
    palloc := { PAlloc.reset.restartTimers s.vsense s.now with sampleSince := s.now } }

theorem powerUp_eq (s : State) : powerUp s = clearCounts (pass (powerRestart s)) := rfl

theorem powerRestart_restarting (s : State) : (powerRestart s).Restarting where
  occupancy b := by simp [powerRestart, BayEntry.sensing, BayEntry.reset]
  level b := by simp [powerRestart, BayEntry.sensing, BayEntry.reset]
  session c := reset_session c
  powerBay b := by simp [powerRestart, PAlloc.restartTimers, PAlloc.reset]

theorem restarted_charge {u : State} (hu : u.Restarting) (b : Bay) : (clearCounts (pass u)).cctl[b] = u.cctl[b] := by
  have h : (clearCounts (pass u)).cctl = (pass u).cctl := by simp [clearCounts]
  rw [h, restarting_charge hu]

/-- SWM keeps its bytes and its flags over the first pass, and every change count is 0 after it. -/
theorem restarted_swm (u : State) : (clearCounts (pass u)).swm =
    { u.swm with bayCounts := Vector.replicate 36 0, cartCount := 0 } := by
  simp [clearCounts]

theorem restarted_psched (u : State) : (clearCounts (pass u)).psched = { u.psched with pageCount := 0 } := by
  simp [clearCounts]

theorem partReset_restarts (k : ResetCause) (s : State) : s.partRestarted k (partReset k s) := by
  have hu := partRestart_restarting k s
  rw [partReset_eq]
  have hp : (clearCounts (pass (partRestart k s))).palloc = (partRestart k s).passed := by simp [clearCounts]
  refine ⟨(restarted_swm _).trans rfl, fun b => ⟨?_, ?_⟩, ⟨by rw [hp]; rfl, by rw [hp]; rfl, by rw [hp]; rfl,
    by rw [hp]; rfl, pallocRestarted_of_pass hu (restarting_of_timers rfl rfl rfl rfl rfl rfl)⟩,
    (restarted_psched _).trans rfl, ?_, ?_, ?_, ?_, ?_, ?_, ?_, ?_, ?_, ?_, ?_, ?_, ?_, ?_⟩
  · simp [clearCounts, partRestart]
  · rw [restarted_charge hu]
    simp [partRestart]
  all_goals simp [clearCounts, partRestart, Acc.partReset, Cust.partReset, CustodySlot.partReset, Ldrv.partReset]

/-- Settles O16. -/
theorem powerOnRestartsEveryBlock : Obligations.PowerOnRestartsEveryBlock := by
  intro s
  have hu := powerRestart_restarting s
  have hp : s.pallocRestarted (powerUp s) :=
    pallocRestarted_of_pass hu (restarting_of_timers rfl rfl rfl rfl rfl rfl)
  have hnctl : (powerUp s).nctl = Nctl.reset := by simp [powerUp_eq, clearCounts, powerRestart, State.reset]
  have hpalloc : (powerUp s).palloc = (powerRestart s).passed := by simp [powerUp_eq, clearCounts]
  obtain ⟨-, -, -, -, -, -, -, -, -, -, -, -, hnet, hbays⟩ := id hp
  refine ⟨powerUp s, rfl, (restarted_swm _).trans rfl, fun a => by rw [powerUp_mem]; rfl, fun b => ⟨?_, ?_⟩,
    ⟨by rw [hpalloc]; rfl, fun h => ?_, by rw [hpalloc]; rfl, by rw [hpalloc]; rfl, hp, ?_, fun b => ?_⟩,
    (restarted_psched _).trans rfl, ?_, ?_, ?_, ?_, ?_, hnctl, ?_, ?_, ?_, ?_, ?_, ?_⟩
  · simp [powerUp_eq, clearCounts, powerRestart]
  · rw [powerUp_eq, restarted_charge hu]
    exact reset_charge b
  · rw [hpalloc]
    simp [powerRestart, State.passed, PAlloc.restartTimers, PAlloc.reset]
  · rw [hnet, hpalloc]
    simp [powerRestart, State.passed, PAlloc.restartTimers, PAlloc.reset]
  · obtain ⟨-, -, -, -, hlow⟩ := hbays b
    refine hlow fun ⟨r, m, hr, _⟩ => ?_
    have hnone : (powerUp s).acc.reservations[b] = none := by
      simp [powerUp_eq, clearCounts, powerRestart, State.reset, Acc.reset]
    exact absurd (hr.symm.trans hnone) (by simp)
  · simp [powerUp_eq, clearCounts, powerRestart, State.reset]
  · simp [powerUp_eq, clearCounts, powerRestart, State.reset]
  · simp [powerUp_eq, clearCounts, powerRestart, State.reset]
  · simp [powerUp_eq, clearCounts, powerRestart, State.reset]
  · simp [powerUp_owalk]
  · rw [State.attn, hnctl]; decide
  · rw [hnctl]; decide
  all_goals simp [powerUp_eq, clearCounts, powerRestart]

/-- Settles O17: RESETn may cut off a write burst, whose landed bytes stay. -/
theorem partResetsKeepAndRestart : Obligations.PartResetsKeepAndRestart := by
  intro s
  refine ⟨⟨_, rfl, partReset_restarts .pin s⟩, fun w hr => ⟨_, rfl, ?_⟩, fun w hr => ⟨_, rfl, ?_⟩,
    fun rest => ⟨_, rfl, partReset_restarts .control s⟩⟩
  · rw [show cutBurst (some w) s = landBytes (burstBytes w) s by simp [cutBurst, hr]]
    exact partReset_restarts .pin _
  · rw [show cutBurst (some w) s = s by simp [cutBurst, hr]]
    exact partReset_restarts .pin s

/-! ## Memory ready and the register page (R158, R159, R180) -/

theorem status0_bit (s : State) (k : Nat) : s.status0.getLsbD k = true ↔ (k = 0 ∧ s.swm.ready = true) ∨
    (k = 1 ∧ s.smon.mode = .standalone) ∨ (k = 2 ∧ s.acc.service = true) ∨
    (k = 4 ∧ s.swm.resetCause = .pin) ∨ (k = 5 ∧ s.swm.resetCause = .control) := by
  have hk : k < 8 ∨ 8 ≤ k := by omega
  obtain hk | hk := hk
  · unfold State.status0
    generalize s.swm.ready = r
    generalize s.smon.mode = m
    generalize s.acc.service = v
    generalize s.swm.resetCause = c
    interval_cases k <;> cases r <;> cases m <;> cases v <;> cases c <;> decide
  · rw [BitVec.getLsbD_of_ge _ _ hk]
    constructor
    · exact fun h => absurd h (by simp)
    · rintro (⟨rfl, -⟩ | ⟨rfl, -⟩ | ⟨rfl, -⟩ | ⟨rfl, -⟩ | ⟨rfl, -⟩) <;> omega

theorem readRegister_data (number : Byte) (n : Nat) (s : State) :
    (readRegister number n s).out.portData = (List.range n).map fun i => byteIn (s.register number) i := rfl

theorem readRegister_two {number a b : Byte} {n : Nat} (s : State) (hn : 1 ≤ n) (h : s.register number = [a, b]) :
    (readRegister number n s).out.portData[0]? = some a ∧
      (2 ≤ n → (readRegister number n s).out.portData[1]? = some b) := by
  rw [readRegister_data, h]
  refine ⟨?_, fun hn2 => ?_⟩
  · rw [List.getElem?_map, List.getElem?_range (by omega)]; rfl
  · rw [List.getElem?_map, List.getElem?_range (by omega)]; rfl

/-- A register has two bytes at most, and none from number 3 on (Table 11-14). -/
theorem register_byte_beyond (s : State) {number : Byte} {k : Nat} (h : 2 ≤ k ∨ 2 ≤ number.toNat) :
    byteIn (s.register number) k = 0 := by
  unfold State.register
  split
  · next hn => subst hn; obtain h | h := h; exacts [List.getD_eq_default _ _ h, absurd h (by decide)]
  · split
    · next hn => subst hn; obtain h | h := h; exacts [List.getD_eq_default _ _ h, absurd h (by decide)]
    · split
      · cases k <;> rfl
      · rfl

/-- Settles O18. -/
theorem statusAndRegisterAccess : Obligations.StatusAndRegisterAccess := by
  intro s
  refine ⟨⟨_, rfl, rfl, rfl, memoryBecomesReady_frame s⟩, fun number n hn => ⟨_, rfl, ?_, ?_, ?_, ?_, ?_⟩,
    status0_bit s, fun number data hw => ?_⟩
  · simp [readRegister_data]
  · exact withOut_portData_frame _ s
  · rintro rfl
    exact readRegister_two s hn rfl
  · rintro rfl
    exact readRegister_two s hn rfl
  · intro k hk hbeyond
    rw [readRegister_data, List.getElem?_map, List.getElem?_range hk, Option.map_some, register_byte_beyond s hbeyond]
  · have hw : ¬(number = controlNumber ∧ data.head? = some partResetCode) := by
      simp [Instr.wellFormed] at hw
      rintro ⟨h, h'⟩
      exact hw.2.elim (fun k => k h) fun k => k h'
    rw [show exec (.registerWrite number data) s = .next (writeRegister number data s) from rfl, writeRegister,
      if_neg hw]

end Sys2Proof.Machine
end

section
/-! PROOF. What events leave alone, block by block: from a frame to the fields it names, and the fields through the
events of PSCHED, CUST and LDRV and through a consideration. -/

namespace Sys2Proof.Machine

-- One declaration after the other: the check compiles the whole text within a memory bound.
set_option Elab.async false

/-! ## From a frame to a block -/

section
variable {s t : State} {l : List Part}

theorem acc_of_frame (h : s.changedOnly l t)
    (hl : ∀ x ∈ [Part.access, .clock, .reservations, .reader, .collecting], x ∉ l := by decide) : t.acc = s.acc := by
  obtain ⟨hb, hc, hw, hs⟩ := h .access (hl _ (by simp))
  have hclock := h .clock (hl _ (by simp))
  have hres := h .reservations (hl _ (by simp))
  have hread := h .reader (hl _ (by simp))
  have hcol := h .collecting (hl _ (by simp))
  simp only [Part.same] at hclock hres hread hcol
  generalize t.acc = x at *
  generalize s.acc = y at *
  cases x
  cases y
  simp_all

theorem cust_of_frame (h : s.changedOnly l t)
    (hl : ∀ x ∈ [Part.custody, .journal, .releases], x ∉ l := by decide) : t.cust = s.cust := by
  obtain ⟨hj, hn⟩ := h .journal (hl _ (by simp))
  have hslots := h .custody (hl _ (by simp))
  have hrel := h .releases (hl _ (by simp))
  simp only [Part.same] at hslots hrel
  generalize t.cust = x at *
  generalize s.cust = y at *
  cases x
  cases y
  simp_all

theorem ldrv_of_frame (h : s.changedOnly l t)
    (hl : ∀ x ∈ [Part.latches, .latchMode, .stuck], x ∉ l := by decide) : t.ldrv = s.ldrv := by
  obtain ⟨hq, hk, hr⟩ := h .latches (hl _ (by simp))
  obtain ⟨hm, hp⟩ := h .latchMode (hl _ (by simp))
  have hst := h .stuck (hl _ (by simp))
  simp only [Part.same] at hst
  generalize t.ldrv = x at *
  generalize s.ldrv = y at *
  cases x
  cases y
  simp_all

theorem out_of_frame (h : s.changedOnly l t)
    (hl : ∀ x ∈ [Part.portData, .verdicts], x ∉ l := by decide) : t.out = s.out := by
  have hp := h .portData (hl _ (by simp))
  have hv := h .verdicts (hl _ (by simp))
  simp only [Part.same] at hp hv
  generalize t.out = x at *
  generalize s.out = y at *
  cases x
  cases y
  simp_all

theorem nctl_of_frame (h : s.changedOnly l t) (hl : Part.notices ∉ l := by decide) : t.nctl = s.nctl := h .notices hl

theorem smon_of_frame (h : s.changedOnly l t) (hl : Part.smon ∉ l := by decide) : t.smon = s.smon := h .smon hl

theorem owalk_of_frame (h : s.changedOnly l t) (hl : Part.lists ∉ l := by decide) : t.owalk = s.owalk := h .lists hl

theorem now_of_frame (h : s.changedOnly l t) (hl : Part.now ∉ l := by decide) : t.now = s.now := h .now hl

theorem pins_of_frame (h : s.changedOnly l t) (hl : Part.pins ∉ l := by decide) : t.pins = s.pins := (h .pins hl).1

theorem vsense_of_frame (h : s.changedOnly l t) (hl : Part.pins ∉ l := by decide) : t.vsense = s.vsense :=
  (h .pins hl).2

theorem mem_of_frame (h : s.changedOnly l t) (hl : Part.stored ∉ l := by decide) : t.swm.mem = s.swm.mem :=
  (h .stored hl).1

theorem ready_of_frame (h : s.changedOnly l t) (hl : Part.status ∉ l := by decide) : t.swm.ready = s.swm.ready :=
  (h .status hl).1

theorem body_of_frame (h : s.changedOnly l t) (hl : Part.bays ∉ l := by decide) (b : Bay) :
    t.bmon[b].body = s.bmon[b].body := h .bays hl b

theorem chargeBody_of_frame (h : s.changedOnly l t) (hl : Part.charge ∉ l := by decide) (b : Bay) :
    t.cctl[b].body = s.cctl[b].body := h .charge hl b

end

/-! ## Fields through the events of PSCHED, CUST and LDRV -/

section
variable (f : State → State) (s : State)

@[simp] theorem pschedEvent_pending : (pschedEvent f s).pending = (f s).pending := by
  unfold pschedEvent; dsimp only; split <;> simp

@[simp] theorem pschedEvent_now : (pschedEvent f s).now = (f s).now := by
  unfold pschedEvent; dsimp only; split <;> simp

@[simp] theorem pschedEvent_choices : (pschedEvent f s).choices = (f s).choices := by
  unfold pschedEvent; dsimp only; split <;> simp

@[simp] theorem pschedEvent_pins : (pschedEvent f s).pins = (f s).pins := by
  unfold pschedEvent; dsimp only; split <;> simp

@[simp] theorem pschedEvent_vsense : (pschedEvent f s).vsense = (f s).vsense := by
  unfold pschedEvent; dsimp only; split <;> simp

@[simp] theorem pschedEvent_bmon : (pschedEvent f s).bmon = (f s).bmon := by
  unfold pschedEvent; dsimp only; split <;> simp

@[simp] theorem pschedEvent_palloc : (pschedEvent f s).palloc = (f s).palloc := by
  unfold pschedEvent; dsimp only; split <;> simp

@[simp] theorem pschedEvent_cctl : (pschedEvent f s).cctl = (f s).cctl := by
  unfold pschedEvent; dsimp only; split <;> simp

@[simp] theorem pschedEvent_acc : (pschedEvent f s).acc = (f s).acc := by
  unfold pschedEvent; dsimp only; split <;> simp

@[simp] theorem pschedEvent_cust : (pschedEvent f s).cust = (f s).cust := by
  unfold pschedEvent; dsimp only; split <;> simp

@[simp] theorem pschedEvent_ldrv : (pschedEvent f s).ldrv = (f s).ldrv := by
  unfold pschedEvent; dsimp only; split <;> simp

@[simp] theorem pschedEvent_smon : (pschedEvent f s).smon = (f s).smon := by
  unfold pschedEvent; dsimp only; split <;> simp

@[simp] theorem pschedEvent_owalk : (pschedEvent f s).owalk = (f s).owalk := by
  unfold pschedEvent; dsimp only; split <;> simp

@[simp] theorem pschedEvent_nctl : (pschedEvent f s).nctl = (f s).nctl := by
  unfold pschedEvent; dsimp only; split <;> simp

@[simp] theorem pschedEvent_out : (pschedEvent f s).out = (f s).out := by
  unfold pschedEvent; dsimp only; split <;> simp

@[simp] theorem pschedEvent_psched_records : (pschedEvent f s).psched.records = (f s).psched.records := by
  unfold pschedEvent; dsimp only; split <;> simp

@[simp] theorem pschedEvent_psched_queue : (pschedEvent f s).psched.queue = (f s).psched.queue := by
  unfold pschedEvent; dsimp only; split <;> simp

@[simp] theorem pschedEvent_psched_channels : (pschedEvent f s).psched.channels = (f s).psched.channels := by
  unfold pschedEvent; dsimp only; split <;> simp

@[simp] theorem pschedEvent_psched_mode : (pschedEvent f s).psched.mode = (f s).psched.mode := by
  unfold pschedEvent; dsimp only; split <;> simp

@[simp] theorem pschedEvent_psched_releaseThreshold : (pschedEvent f s).psched.releaseThreshold = (f s).psched.releaseThreshold := by
  unfold pschedEvent; dsimp only; split <;> simp

@[simp] theorem pschedEvent_psched_provMinimum : (pschedEvent f s).psched.provMinimum = (f s).psched.provMinimum := by
  unfold pschedEvent; dsimp only; split <;> simp

@[simp] theorem custEvent_pending : (custEvent f s).pending = (f s).pending := by simp [custEvent]

@[simp] theorem custEvent_now : (custEvent f s).now = (f s).now := by simp [custEvent]

@[simp] theorem custEvent_choices : (custEvent f s).choices = (f s).choices := by simp [custEvent]

@[simp] theorem custEvent_pins : (custEvent f s).pins = (f s).pins := by simp [custEvent]

@[simp] theorem custEvent_vsense : (custEvent f s).vsense = (f s).vsense := by simp [custEvent]

@[simp] theorem custEvent_bmon : (custEvent f s).bmon = (f s).bmon := by simp [custEvent]

@[simp] theorem custEvent_palloc : (custEvent f s).palloc = (f s).palloc := by simp [custEvent]

@[simp] theorem custEvent_cctl : (custEvent f s).cctl = (f s).cctl := by simp [custEvent]

@[simp] theorem custEvent_acc : (custEvent f s).acc = (f s).acc := by simp [custEvent]

@[simp] theorem custEvent_cust : (custEvent f s).cust = (f s).cust := by simp [custEvent]

@[simp] theorem custEvent_ldrv : (custEvent f s).ldrv = (f s).ldrv := by simp [custEvent]

@[simp] theorem custEvent_smon : (custEvent f s).smon = (f s).smon := by simp [custEvent]

@[simp] theorem custEvent_owalk : (custEvent f s).owalk = (f s).owalk := by simp [custEvent]

@[simp] theorem custEvent_nctl : (custEvent f s).nctl = (f s).nctl := by simp [custEvent]

@[simp] theorem custEvent_out : (custEvent f s).out = (f s).out := by simp [custEvent]

@[simp] theorem custEvent_psched : (custEvent f s).psched = (f s).psched := by simp [custEvent]

@[simp] theorem ldrvEvent_pending : (ldrvEvent f s).pending = (f s).pending := by simp [ldrvEvent]

@[simp] theorem ldrvEvent_now : (ldrvEvent f s).now = (f s).now := by simp [ldrvEvent]

@[simp] theorem ldrvEvent_choices : (ldrvEvent f s).choices = (f s).choices := by simp [ldrvEvent]

@[simp] theorem ldrvEvent_pins : (ldrvEvent f s).pins = (f s).pins := by simp [ldrvEvent]

@[simp] theorem ldrvEvent_vsense : (ldrvEvent f s).vsense = (f s).vsense := by simp [ldrvEvent]

@[simp] theorem ldrvEvent_bmon : (ldrvEvent f s).bmon = (f s).bmon := by simp [ldrvEvent]

@[simp] theorem ldrvEvent_palloc : (ldrvEvent f s).palloc = (f s).palloc := by simp [ldrvEvent]

@[simp] theorem ldrvEvent_cctl : (ldrvEvent f s).cctl = (f s).cctl := by simp [ldrvEvent]

@[simp] theorem ldrvEvent_acc : (ldrvEvent f s).acc = (f s).acc := by simp [ldrvEvent]

@[simp] theorem ldrvEvent_cust : (ldrvEvent f s).cust = (f s).cust := by simp [ldrvEvent]

@[simp] theorem ldrvEvent_ldrv : (ldrvEvent f s).ldrv = (f s).ldrv := by simp [ldrvEvent]

@[simp] theorem ldrvEvent_smon : (ldrvEvent f s).smon = (f s).smon := by simp [ldrvEvent]

@[simp] theorem ldrvEvent_owalk : (ldrvEvent f s).owalk = (f s).owalk := by simp [ldrvEvent]

@[simp] theorem ldrvEvent_nctl : (ldrvEvent f s).nctl = (f s).nctl := by simp [ldrvEvent]

@[simp] theorem ldrvEvent_out : (ldrvEvent f s).out = (f s).out := by simp [ldrvEvent]

@[simp] theorem ldrvEvent_psched : (ldrvEvent f s).psched = (f s).psched := by simp [ldrvEvent]

end

/-! ## Fields through a consideration -/

section
variable (s : State)

@[simp] theorem considerCore_now : (considerCore s).now = s.now := now_of_frame (considerCore_frame s)

@[simp] theorem considerCore_pins : (considerCore s).pins = s.pins := pins_of_frame (considerCore_frame s)

@[simp] theorem considerCore_vsense : (considerCore s).vsense = s.vsense := vsense_of_frame (considerCore_frame s)

@[simp] theorem considerCore_acc : (considerCore s).acc = s.acc := acc_of_frame (considerCore_frame s)

@[simp] theorem considerCore_cust : (considerCore s).cust = s.cust := cust_of_frame (considerCore_frame s)

@[simp] theorem considerCore_ldrv : (considerCore s).ldrv = s.ldrv := ldrv_of_frame (considerCore_frame s)

@[simp] theorem considerCore_smon : (considerCore s).smon = s.smon := smon_of_frame (considerCore_frame s)

@[simp] theorem considerCore_owalk : (considerCore s).owalk = s.owalk := owalk_of_frame (considerCore_frame s)

@[simp] theorem considerCore_nctl : (considerCore s).nctl = s.nctl := nctl_of_frame (considerCore_frame s)

@[simp] theorem considerCore_out : (considerCore s).out = s.out := out_of_frame (considerCore_frame s)

@[simp] theorem considerCore_swm_mem : (considerCore s).swm.mem = s.swm.mem := mem_of_frame (considerCore_frame s)

@[simp] theorem considerCore_swm_ready : (considerCore s).swm.ready = s.swm.ready := ready_of_frame (considerCore_frame s)

theorem considerCore_body (b : Bay) : (considerCore s).bmon[b].body = s.bmon[b].body := body_of_frame (considerCore_frame s) (by decide) b

@[simp] theorem consider_now : (consider s).now = s.now := now_of_frame (consider_frame s)

@[simp] theorem consider_pins : (consider s).pins = s.pins := pins_of_frame (consider_frame s)

@[simp] theorem consider_vsense : (consider s).vsense = s.vsense := vsense_of_frame (consider_frame s)

@[simp] theorem consider_acc : (consider s).acc = s.acc := acc_of_frame (consider_frame s)

@[simp] theorem consider_cust : (consider s).cust = s.cust := cust_of_frame (consider_frame s)

@[simp] theorem consider_ldrv : (consider s).ldrv = s.ldrv := ldrv_of_frame (consider_frame s)

@[simp] theorem consider_smon : (consider s).smon = s.smon := smon_of_frame (consider_frame s)

@[simp] theorem consider_owalk : (consider s).owalk = s.owalk := owalk_of_frame (consider_frame s)

@[simp] theorem consider_nctl : (consider s).nctl = s.nctl := nctl_of_frame (consider_frame s)

@[simp] theorem consider_out : (consider s).out = s.out := out_of_frame (consider_frame s)

@[simp] theorem consider_swm_mem : (consider s).swm.mem = s.swm.mem := mem_of_frame (consider_frame s)

@[simp] theorem consider_swm_ready : (consider s).swm.ready = s.swm.ready := ready_of_frame (consider_frame s)

theorem consider_body (b : Bay) : (consider s).bmon[b].body = s.bmon[b].body := body_of_frame (consider_frame s) (by decide) b

end

/-! ## What an entry's body holds -/

theorem body_fields {e f : BayEntry} (h : e.body = f.body) : e.occupancy = f.occupancy ∧
    e.presenceDebounce = f.presenceDebounce ∧ e.tag = f.tag ∧ e.tagRead = f.tagRead ∧ e.door = f.door ∧
    e.doorDebounce = f.doorDebounce ∧ e.lastOpen = f.lastOpen ∧ e.latch = f.latch ∧
    e.latchDebounce = f.latchDebounce ∧ e.level = f.level ∧ e.levelAge = f.levelAge ∧ e.pollTimer = f.pollTimer ∧
    e.reportWait = f.reportWait ∧ e.pool = f.pool := by
  simpa [BayEntry.body] using h

@[simp] theorem withPath_body (e : BayEntry) (p : DataPath) (j : Option Chan) (x : Option SilenceTimer)
    (y : Option Nat) : ({ e with path := p, joined := j, silence := x, faultTimer := y } : BayEntry).body = e.body :=
  rfl

theorem setEntry_entry (s : State) (b x : Bay) (e : BayEntry) :
    (s.setEntry b e).bmon[x] = if x = b then e else s.bmon[x] := by
  simp only [setEntry_bmon]
  exact getElem_set_fin _ _ _ _

theorem setEntry_entry_self (s : State) (b : Bay) (e : BayEntry) : (s.setEntry b e).bmon[b] = e := by
  rw [setEntry_entry, if_pos rfl]

theorem setEntry_otherBays (s : State) (b : Bay) (e : BayEntry) : s.otherBays b (s.setEntry b e) := by
  intro x hx
  rw [setEntry_entry, if_neg hx]

theorem setCharge_charge (s : State) (b x : Bay) (c : ChargeBay) :
    (s.setCharge b c).cctl[x] = if x = b then c else s.cctl[x] := by
  simp only [setCharge_cctl]
  exact getElem_set_fin _ _ _ _

theorem setCharge_charge_self (s : State) (b : Bay) (c : ChargeBay) : (s.setCharge b c).cctl[b] = c := by
  rw [setCharge_charge, if_pos rfl]

/-- What leaves the bodies of the entries alone keeps what was said of one bay and of the others. -/
theorem otherBays_then {s t u : State} {b : Bay} {l : List Part} (h : s.otherBays b t) (hf : t.changedOnly l u)
    (hl : Part.bays ∉ l := by decide) : s.otherBays b u := fun x hx => (hf .bays hl x).trans (h x hx)

theorem otherCharges_then {s t u : State} {b : Bay} {l : List Part} (h : s.otherCharges b t)
    (hf : t.changedOnly l u) (hl : Part.charge ∉ l := by decide) : s.otherCharges b u := fun x hx =>
  (hf .charge hl x).trans (h x hx)

theorem raise_request (x : Notice) {s t : State} (h : t.nctl = (raise x s).nctl)
    (hc : s.nctl.sources[x.index].capture = true) : t.nctl.sources[x.index].request = true := by
  rw [h, raise_nctl]
  exact event_request _ _ hc

end Sys2Proof.Machine
end

section
/-! PROOF. The port's bursts (R156, R158, R162): reads with their TAKE (R175), writes of one watched byte, the END
word (R176). -/

namespace Sys2Proof.Machine

-- One declaration after the other: the check compiles the whole text within a memory bound.
set_option Elab.async false

/-! ## Read bursts -/

theorem readBurst_data (off : BitVec 24) (n : Nat) (s : State) :
    (readBurst off n s).out.portData = s.readBytes off n := rfl

theorem readBytes_length (s : State) (off : BitVec 24) (n : Nat) : (s.readBytes off n).length = n := by
  simp [State.readBytes, absent]
  omega

theorem readBytes_within {n i : Nat} (s : State) (off : BitVec 24) (hn : i < n) (hi : i < 256) :
    (s.readBytes off n)[i]? = some (if burstAt off i = takeWord ∧ s.swm.ready = true then s.nctl.peek
      else s.byteAt (burstAt off i)) := by
  have hmin : i < min n burstMax := by simp only [burstMax]; omega
  rw [State.readBytes, List.getElem?_append_left (by simpa using hmin), List.getElem?_map, List.getElem?_range hmin]
  rfl

theorem readBytes_beyond {n i : Nat} (s : State) (off : BitVec 24) (hn : i < n) (hi : 256 ≤ i) :
    (s.readBytes off n)[i]? = some 0xFF := by
  have hlen : ((List.range (min n burstMax)).map fun i => if burstAt off i = takeWord ∧ s.swm.ready = true then
      s.nctl.peek else s.byteAt (burstAt off i)).length = 256 := by simp [burstMax]; omega
  rw [State.readBytes, List.getElem?_append_right (by omega), hlen, absent, List.getElem?_replicate, if_pos]
  simp only [burstMax]
  omega

theorem byteAt_take (s : State) : s.byteAt 0x0140 = 0xFF := rfl

theorem coversTake_iff (off : BitVec 24) (n : Nat) : coversTake off (min n burstMax) = true ↔
    ∃ i : Nat, i < n ∧ i < 256 ∧ (off.toNat + i) % 0x8000 = 0x0140 := by
  simp [coversTake, burstMax, burstAt, takeWord, and_assoc]

theorem readBurst_eq_drive {off : BitVec 24} {n : Nat} {s : State} (h : s.swm.ready = false ∨ s.nctl.highest = none ∨
    ∀ i : Nat, i < n → i < 256 → (off.toNat + i) % 0x8000 ≠ 0x0140) :
    readBurst off n s = s.drive (s.readBytes off n) := by
  have hnone : s.nctl.highest = none → take s = s := fun h => by rw [take, h]
  rcases h with h | h | h
  · simp [readBurst, h]
  · simp [readBurst, hnone h]
  · have hc : coversTake off (min n burstMax) = false := by
      rw [Bool.eq_false_iff, Ne, coversTake_iff]
      exact fun ⟨i, h1, h2, h3⟩ => h i h1 h2 h3
    simp [readBurst, hc]

theorem taken_source (n : Nctl) (i j : Fin 16) : (n.taken i).sources[j] =
    if j = i then { n.sources[i] with request := false, inService := true } else n.sources[j] := by
  have h : (n.taken i).sources =
      n.sources.set i { n.sources[i] with request := false, inService := true } := by
    unfold Nctl.taken
    dsimp only
    split <;> rfl
  rw [h]
  exact getElem_set_fin _ _ _ _

theorem taken_threshold (n : Nctl) (i : Fin 16) : (n.taken i).threshold = n.threshold := by
  unfold Nctl.taken
  dsimp only
  split <;> rfl

theorem take_highest {s : State} {k : Fin 16} (h : s.nctl.highest = some k) : take s =
    if k = source16 then (s.withNctl (s.nctl.taken k)).withSwm { s.swm with guardArmed := true }
    else s.withNctl (s.nctl.taken k) := by
  simp only [take, h]
  rfl

theorem guardArmed_frame (v : Bool) (s : State) : s.changedOnly [.guard] (s.withSwm { s.swm with guardArmed := v }) := by
  intro x hx; cases x <;> first | exact absurd (by decide) hx | simp [Part.same]

/-- Settles O20. -/
theorem memoryReadAndTake : Obligations.MemoryReadAndTake := by
  intro s off n hn
  refine ⟨_, rfl, readBytes_length s off n, fun i hi hb => readBytes_beyond s off hi hb, fun i hi hb ht => ?_,
    fun i hi hb ht => ?_, fun h => ?_, fun k hr hk hcov => ?_⟩
  · rw [readBurst_data, readBytes_within s off hi hb, if_neg fun h => ht h.1]
    rfl
  · rw [readBurst_data, readBytes_within s off hi hb, show burstAt off i = takeWord from ht]
    simp only [true_and]
    split <;> simp_all [byteAt_take]
  · rw [readBurst_eq_drive h]
    exact withOut_portData_frame _ s
  · have hcov : coversTake off (min n burstMax) = true := (coversTake_iff off n).2 hcov
    have heq : readBurst off n s = (take s).drive (s.readBytes off n) := by simp [readBurst, hr, hcov]
    rw [heq, take_highest hk]
    by_cases h16 : k = 15
    · subst h16
      rw [if_pos rfl]
      refine ⟨?_, fun j hj => ?_, taken_threshold _ _, fun h => absurd rfl h, fun _ => ⟨rfl, rfl, rfl, rfl, ?_⟩⟩
      · exact (taken_source _ _ _).trans (if_pos rfl)
      · exact (taken_source _ _ _).trans (if_neg hj)
      · exact (((withNctl_frame _ s).mono (by decide)).then (guardArmed_frame true _)).then (withOut_portData_frame _ _)
    · rw [if_neg h16]
      refine ⟨?_, fun j hj => ?_, taken_threshold _ _, fun _ => ⟨?_, ?_, ?_⟩, fun h => absurd h h16⟩
      · exact (taken_source _ _ _).trans (if_pos rfl)
      · exact (taken_source _ _ _).trans (if_neg hj)
      · simp [State.drive, Nctl.taken, h16]
      · simp [State.drive, Nctl.taken, h16]
      · exact ((withNctl_frame _ s).mono (by decide)).then (withOut_portData_frame _ _)

/-! ## Write bursts of one watched byte -/

/-- A burst of one byte that the guard allows lands it, and then takes its watch event. -/
theorem writeBurst_one {s : State} {w : Burst} {a : Nat} {v : Byte} (hr : s.swm.ready = true)
    (hb : burstBytes w = [(a, v)]) (hm : s.mayWrite a v = true) :
    writeBurst w s = watchEvents [(a, v)] (land a v s) := by
  rw [writeBurst, if_pos hr, hb]
  simp [State.firstHit, hm, landBytes, recordHit]

theorem writeBurst_endWord {s : State} (hr : s.swm.ready = true) (v : Byte) :
    writeBurst { offset := 0x000142, data := [v] } s =
      (s.withSwm { s.swm with endWord := v }).withNctl (s.nctl.endWord v) := by
  rw [writeBurst_one (a := 0x0142) (v := v) hr rfl rfl]
  rfl

theorem writeBurst_heartbeat {s : State} (hr : s.swm.ready = true) (v : Byte) :
    writeBurst { offset := 0x000143, data := [v] } s =
      heartbeat (s.withSwm { s.swm with heartbeatWord := v }) := by
  rw [writeBurst_one (a := 0x0143) (v := v) hr rfl rfl]
  rfl

theorem setList_same (i : ListId) (s : State) : s.setList i s.owalk[i] = s := by
  have h : s.owalk.set i s.owalk[i] = s.owalk := by simp
  rw [State.setList, h]
  rfl

theorem writeBurst_listState {s : State} (hr : s.swm.ready = true) (i : ListId) (v : Byte) :
    writeBurst { offset := BitVec.ofNat 24 (0x0100 + 0x20 * i.val), data := [v] } s = listCommand i v s := by
  match i with
  | 0 =>
    rw [writeBurst_one (a := 0x0100) (v := v) hr rfl rfl]
    exact congrArg (listCommand 0 v) (setList_same 0 s)
  | 1 =>
    rw [writeBurst_one (a := 0x0120) (v := v) hr rfl rfl]
    exact congrArg (listCommand 1 v) (setList_same 1 s)

/-! ## The END word (R176) -/

theorem ended_source (n : Nctl) (i j : Fin 16) : (n.ended i).sources[j] =
    if j = i then { n.sources[i] with inService := false } else n.sources[j] := by
  have h : (n.ended i).sources = n.sources.set i { n.sources[i] with inService := false } := by
    unfold Nctl.ended
    dsimp only
    split <;> rfl
  rw [h]
  exact getElem_set_fin _ _ _ _

theorem ended_kept (n : Nctl) (i : Fin 16) :
    (n.ended i).threshold = n.threshold ∧ (n.ended i).pendingCauses = n.pendingCauses := by
  unfold Nctl.ended
  dsimp only
  split <;> exact ⟨rfl, rfl⟩

theorem ended_causes (n : Nctl) : (n.ended 15).serviceCauses = { order := false, guard := false } := rfl

theorem endWord_number {v : Byte} {i : Fin 16} (n : Nctl) (h : v.toNat = i.val + 1) :
    n.endWord v = if n.sources[i].inService then n.ended i else n := by
  have hv : 1 ≤ v.toNat ∧ v.toNat ≤ 16 := by omega
  rw [Nctl.endWord, dif_pos hv]
  obtain ⟨i, hlt⟩ := i
  obtain rfl : i = v.toNat - 1 := by simp at h; omega
  rfl

theorem endWord_all (n : Nctl) : n.endWord 0xFF =
    match n.best fun i => n.sources[i].inService with
    | some i => n.ended i
    | none => n := by
  rw [Nctl.endWord]
  exact (dif_neg (by decide)).trans (if_pos rfl)

theorem endWord_other {v : Byte} (n : Nctl) (hff : v ≠ 0xFF) (h : v = 0 ∨ 16 < v.toNat) : n.endWord v = n := by
  have hv : ¬(1 ≤ v.toNat ∧ v.toNat ≤ 16) := by
    rintro ⟨h1, h2⟩
    obtain rfl | h := h
    · exact absurd h1 (by decide)
    · omega
  rw [Nctl.endWord, dif_neg hv, if_neg hff]

theorem endWord_cases (n : Nctl) (v : Byte) : n.endWord v = n ∨ ∃ i, n.endWord v = n.ended i := by
  unfold Nctl.endWord
  dsimp only
  repeat' split
  all_goals first | exact .inl rfl | exact .inr ⟨_, rfl⟩

theorem notInService {x : NoticeSource} (h : x.inService = false) : x = { x with inService := false } := by
  cases x
  exact congrArg _ h

/-- The best of the sources in service is the one that the order of levels and numbers names. -/
theorem best_inService {n : Nctl} {i : Fin 16} (hi : n.sources[i].inService = true)
    (h : ∀ j : Fin 16, n.sources[j].inService = true → n.sources[i].level < n.sources[j].level ∨
      (n.sources[i].level = n.sources[j].level ∧ i ≤ j)) :
    (n.best fun i => n.sources[i].inService) = some i := by
  cases hb : n.best fun i => n.sources[i].inService with
  | none => exact absurd hi (by simpa using best_eq_none hb i)
  | some k =>
    obtain ⟨hk, hbest⟩ := best_eq_some hb
    have h1 := h k hk
    have h2 := hbest i hi
    congr 1
    apply Fin.ext
    omega

/-- Settles O22. -/
theorem endWordEndsService : Obligations.EndWordEndsService := by
  intro s v hr
  have hswm : s.changedOnly [.words] (s.withSwm { s.swm with endWord := v }) :=
    withSwm_words_frame _ s ⟨rfl, rfl, rfl, rfl, rfl, rfl, rfl⟩
  have hsame : s.nctl.endWord v = s.nctl →
      s.changedOnly [.words] ((s.withSwm { s.swm with endWord := v }).withNctl (s.nctl.endWord v)) := fun h => by
    rw [h]
    exact hswm
  refine ⟨_, congrArg Host.Outcome.next (writeBurst_endWord hr v), rfl, rfl,
    (hswm.mono (by decide)).then (withNctl_frame _ _), ?_, ?_, fun i hi => ?_, fun hv hnone => hsame ?_,
    fun hv i hi hbest => ?_, fun hv h => hsame (endWord_other _ hv h)⟩
  · rcases endWord_cases s.nctl v with h | ⟨i, h⟩ <;> simp only [withNctl_nctl, h]
    exact (ended_kept _ _).1
  · rcases endWord_cases s.nctl v with h | ⟨i, h⟩ <;> simp only [withNctl_nctl, h]
    exact (ended_kept _ _).2
  · simp only [withNctl_nctl]
    rw [endWord_number _ hi]
    split
    · exact ⟨(ended_source _ _ _).trans (if_pos rfl), fun j hj => (ended_source _ _ _).trans (if_neg hj),
        fun h _ => by rw [h]; rfl⟩
    · next hout =>
      have hout : s.nctl.sources[i].inService = false := by simpa using hout
      exact ⟨notInService hout, fun j hj => rfl, fun _ h => absurd h (by rw [hout]; decide)⟩
  · subst hv
    rw [endWord_all]
    cases hb : s.nctl.best fun i => s.nctl.sources[i].inService with
    | none => rfl
    | some i => exact absurd (best_eq_some hb).1 (by simpa using hnone i)
  · subst hv
    simp only [withNctl_nctl]
    rw [endWord_all, best_inService hi hbest]
    exact ⟨(ended_source _ _ _).trans (if_pos rfl), fun j hj => (ended_source _ _ _).trans (if_neg hj),
      fun h => by rw [h]; rfl⟩

end Sys2Proof.Machine
end

section
/-! PROOF. Events at NCTL as they add up, and the ends of an order list (R163 to R167): ARM, ABORT and what the walker
meets. -/

namespace Sys2Proof.Machine

-- One declaration after the other: the check compiles the whole text within a memory bound.
set_option Elab.async false

/-! ## Events at NCTL -/

/-- NCTL after events alone: the captures stand, and every request and cause that was set is still set. -/
def Nctl.noted (n m : Nctl) : Prop :=
  (∀ i : Fin 16, m.sources[i].capture = n.sources[i].capture ∧
    (n.sources[i].request = true → m.sources[i].request = true)) ∧
  (n.pendingCauses.order = true → m.pendingCauses.order = true) ∧
  (n.pendingCauses.guard = true → m.pendingCauses.guard = true)

theorem Nctl.noted.refl (n : Nctl) : n.noted n := ⟨fun _ => ⟨rfl, id⟩, id, id⟩

theorem Nctl.noted.of_eq {n m : Nctl} (h : m = n) : n.noted m := h ▸ .refl n

theorem Nctl.noted.trans {n m k : Nctl} (h : n.noted m) (h' : m.noted k) : n.noted k :=
  ⟨fun i => ⟨(h'.1 i).1.trans (h.1 i).1, fun x => (h'.1 i).2 ((h.1 i).2 x)⟩, fun x => h'.2.1 (h.2.1 x),
    fun x => h'.2.2 (h.2.2 x)⟩

theorem Nctl.noted.capture {n m : Nctl} (h : n.noted m) (i : Fin 16) :
    m.sources[i].capture = n.sources[i].capture := (h.1 i).1

theorem Nctl.noted.request {n m : Nctl} (h : n.noted m) {i : Fin 16} (hi : n.sources[i].request = true) :
    m.sources[i].request = true := (h.1 i).2 hi

theorem event_causes (n : Nctl) (i : Fin 16) : (n.event i).pendingCauses = n.pendingCauses := by
  unfold Nctl.event
  split <;> rfl

theorem event_noted (n : Nctl) (i : Fin 16) : n.noted (n.event i) :=
  ⟨fun j => ⟨event_capture n i j, event_keeps_request n i j⟩, fun h => (congrArg _ (event_causes n i)).trans h,
    fun h => (congrArg _ (event_causes n i)).trans h⟩

theorem event16_noted (n : Nctl) (c : Causes) : n.noted (n.event16 c) := by
  unfold Nctl.event16
  split
  · exact ⟨fun j => ⟨event_capture n 15 j, event_keeps_request n 15 j⟩, fun h => by simp [h], fun h => by simp [h]⟩
  · exact .refl n

theorem raise_noted (x : Notice) (s : State) : s.nctl.noted (raise x s).nctl := event_noted _ _

theorem raiseOrderFault_noted (s : State) : s.nctl.noted (raiseOrderFault s).nctl := event16_noted _ _

/-- A notice raised after events, and events after it. -/
theorem raised_of_noted (x : Notice) {n m k : Nctl} (hn : n.noted m) (hk : (m.event x.index).noted k)
    (hc : n.sources[x.index].capture = true) : k.sources[x.index].request = true :=
  hk.request (event_request _ _ ((hn.capture _).trans hc))

theorem orderFault_of_noted {n m k : Nctl} (hn : n.noted m) (hk : (m.event16 { order := true, guard := false }).noted k)
    (hc : n.sources[(15 : Fin 16)].capture = true) :
    k.sources[(15 : Fin 16)].request = true ∧ k.pendingCauses.order = true := by
  have hm : m.sources[source16].capture = true := (hn.capture 15).trans hc
  have he : m.event16 { order := true, guard := false } = { m.event source16 with
      pendingCauses := { order := m.pendingCauses.order || true, guard := m.pendingCauses.guard || false } } :=
    if_pos hm
  rw [he] at hk
  exact ⟨hk.request (i := source16) (event_request m source16 hm), hk.2.1 (by simp)⟩

/-! ## Start and end of a list -/

theorem runList_empty {i : ListId} {s : State} (h : s.owalk[i].first = 0) : runList i s = raise .listDone (s.setList i
    { s.owalk[i] with state := .done, taken := 0, next := 0, walked := [] }) := if_pos h

theorem runList_chain {i : ListId} {s : State} (h : s.owalk[i].first ≠ 0) : runList i s = s.setList i
    { s.owalk[i] with state := .running, next := s.owalk[i].first, walked := [] } := if_neg h

theorem runList_kept (i : ListId) (s : State) : (runList (otherList i) s).owalk[i] = s.owalk[i] :=
  (list_otherList_otherList _ i).symm.trans ((runList_other (otherList i) s).trans (list_otherList_otherList _ i))

theorem runList_noted (i : ListId) (s : State) : s.nctl.noted (runList i s).nctl := by
  unfold runList
  dsimp only
  split
  · exact raise_noted _ (s.setList i _)
  · exact .refl _

theorem startArmed_kept {i : ListId} {s : State} (h : s.owalk[i].state ≠ .armed) (n : Nat) : startArmed n i s = s := by
  cases n with
  | zero => rfl
  | succ n => exact if_neg h

/-- Beside a list that is not ARMED, an ARMED other list starts, and that is all. -/
theorem startArmed_other {i : ListId} {s : State} (h : s.owalk[i].state ≠ .armed) : startArmed 2 (otherList i) s =
    if s.owalk[otherList i].state = .armed then runList (otherList i) s else s := by
  have hkept : startArmed 1 (otherList (otherList i)) (runList (otherList i) s) = runList (otherList i) s := by
    refine startArmed_kept ?_ 1
    rw [list_otherList_otherList, runList_kept]
    exact h
  rw [startArmed]
  dsimp only
  rw [hkept, ite_self]

theorem startArmed_noted {i : ListId} {s : State} (h : s.owalk[i].state ≠ .armed) :
    s.nctl.noted (startArmed 2 (otherList i) s).nctl := by
  rw [startArmed_other h]
  split
  · exact runList_noted _ _
  · exact .refl _

theorem startArmed_ended {i : ListId} {s : State} (h : s.owalk[i].state ≠ .armed) :
    (startArmed 2 (otherList i) s).owalk[i] = s.owalk[i] := by
  rw [startArmed_other h]
  split
  · exact runList_kept i s
  · rfl

/-- What an end of list `i` leaves: list `i` as it ended, and the other list started if it is ARMED (R165). -/
theorem startArmed_endsList {i : ListId} {l : OrderList} {s u : State} (hi : u.owalk[i] = l)
    (ho : u.owalk[otherList i] = s.owalk[otherList i]) (hl : l.state ≠ .armed) (hn : s.nctl.noted u.nctl) :
    s.endsList i l (startArmed 2 (otherList i) u) := by
  have hi' : u.owalk[i].state ≠ .armed := by rw [hi]; exact hl
  refine ⟨(startArmed_ended hi').trans hi, fun h => ?_, fun h hf => ?_, fun h hf => ?_⟩
  all_goals rw [startArmed_other hi', ho]
  · rw [if_neg h]
    exact ho
  · rw [if_pos h, runList_chain (by rw [ho]; exact hf), setList_self, ho]
  · rw [if_pos h, runList_empty (by rw [ho]; exact hf)]
    refine ⟨?_, raised_of_noted .listDone hn (.of_eq ?_)⟩
    · rw [raise_list, setList_self, ho]
    · simp

theorem endDone_endsList (i : ListId) (s : State) :
    s.endsList i { s.owalk[i] with state := .done, stall := none, walked := [] } (endDone i s) :=
  startArmed_endsList ((raise_list _ _ _).trans (setList_self _ _ _))
    ((raise_list _ _ _).trans (setList_other _ _ _)) (by simp) (raise_noted .listDone _)

theorem endFault_endsList (i : ListId) (c : ListFault) (o : Half) (s : State) : s.endsList i { s.owalk[i] with
    state := .fault, faultCode := some c, faultOffset := some o, stall := none, walked := [] } (endFault i c o s) :=
  startArmed_endsList ((raiseOrderFault_list _ _).trans (setList_self _ _ _))
    ((raiseOrderFault_list _ _).trans (setList_other _ _ _)) (by simp) (raiseOrderFault_noted _)

theorem endDone_raises (i : ListId) {s : State} (hc : s.nctl.sources[(14 : Fin 16)].capture = true) :
    (endDone i s).nctl.sources[(14 : Fin 16)].request = true :=
  raised_of_noted .listDone (.refl s.nctl) (startArmed_noted (s := raise .listDone (s.setList i
    { s.owalk[i] with state := .done, stall := none, walked := [] })) (i := i) (by simp)) hc

theorem endFault_raises (i : ListId) (c : ListFault) (o : Half) {s : State}
    (hc : s.nctl.sources[(15 : Fin 16)].capture = true) :
    (endFault i c o s).nctl.sources[(15 : Fin 16)].request = true ∧
      (endFault i c o s).nctl.pendingCauses.order = true :=
  orderFault_of_noted (.refl s.nctl) (startArmed_noted (s := raiseOrderFault (s.setList i { s.owalk[i] with
    state := .fault, faultCode := some c, faultOffset := some o, stall := none, walked := [] })) (i := i) (by simp)) hc

/-! ## ARM and ABORT (R163, R164) -/

/-- A list that may be armed: IDLE, DONE or FAULT. -/
def OrderList.resting (l : OrderList) : Prop := l.state = .idle ∨ l.state = .done ∨ l.state = .fault

/-- A list with its taken count and its fault cleared (R163). -/
def OrderList.cleared (l : OrderList) : OrderList := { l with taken := 0, faultCode := none, faultOffset := none }

theorem armList_resting {i : ListId} {s : State} (h : s.owalk[i].resting) : arm i s =
    if s.owalk[otherList i].walking then s.setList i { s.owalk[i].cleared with state := .armed }
    else
      if (runList i (s.setList i s.owalk[i].cleared)).owalk[i].state = .done then
        startArmed 2 (otherList i) (runList i (s.setList i s.owalk[i].cleared))
      else runList i (s.setList i s.owalk[i].cleared) := by
  unfold OrderList.resting at h
  unfold arm
  dsimp only
  split
  · rfl
  · rfl
  · rfl
  all_goals next hst => exact absurd h (by rw [hst]; simp)

theorem armList_stalled {i : ListId} {s : State} (h : s.owalk[i].state = .stalled) : arm i s =
    s.setList i { s.owalk[i] with state := .running, stall := none, faultOffset := none } := by
  simp only [arm, h]

theorem armList_busy {i : ListId} {s : State} (h : s.owalk[i].state = .armed ∨ s.owalk[i].state = .running) :
    arm i s = s := by
  rcases h with h | h <;> simp only [arm, h]

theorem abort_walking {i : ListId} {s : State} (h : s.owalk[i].state = .running ∨ s.owalk[i].state = .stalled) :
    abort i s = endFault i .aborted s.owalk[i].next s := by
  rcases h with h | h <;> simp only [abort, h]

theorem abort_armed {i : ListId} {s : State} (h : s.owalk[i].state = .armed) :
    abort i s = s.setList i { s.owalk[i] with state := .idle } := by
  simp only [abort, h]

theorem abort_resting {i : ListId} {s : State} (h : s.owalk[i].resting) : abort i s = s := by
  rcases h with h | h | h <;> simp only [abort, h]

theorem walking_iff (l : OrderList) : l.walking = true ↔ l.state = .running ∨ l.state = .stalled := by
  simp [OrderList.walking]

theorem setList_setList (i : ListId) (l m : OrderList) (s : State) :
    (s.setList i l).setList i m = s.setList i m := by
  have h : (s.owalk.set i l).set i m = s.owalk.set i m := by simp
  exact congrArg s.withOwalk h

/-- An armed chain starts: the list is RUNNING at its first record. -/
theorem armList_chain {i : ListId} {s : State} (h : s.owalk[i].resting) (ho : s.owalk[otherList i].walking = false)
    (hf : s.owalk[i].first ≠ 0) : arm i s = s.setList i
      { s.owalk[i].cleared with state := .running, next := s.owalk[i].first, walked := [] } := by
  have hrun : runList i (s.setList i s.owalk[i].cleared) = s.setList i
      { s.owalk[i].cleared with state := .running, next := s.owalk[i].first, walked := [] } := by
    rw [runList_chain (by rw [setList_self]; exact hf), setList_self, setList_setList]
    rfl
  rw [armList_resting h, ho, if_neg (by decide), hrun, if_neg (by simp)]

/-- An armed list without a chain ends DONE at once. -/
theorem armList_empty {i : ListId} {s : State} (h : s.owalk[i].resting) (ho : s.owalk[otherList i].walking = false)
    (hf : s.owalk[i].first = 0) :
    (arm i s).owalk[i] = { s.owalk[i].cleared with state := .done, taken := 0, next := 0, walked := [] } := by
  have hrun : (runList i (s.setList i s.owalk[i].cleared)).owalk[i] =
      { s.owalk[i].cleared with state := .done, taken := 0, next := 0, walked := [] } := by
    rw [runList_empty (by rw [setList_self]; exact hf), raise_list, setList_self, setList_self]
  rw [armList_resting h, ho, if_neg (by decide), if_pos (by rw [hrun]), startArmed_ended (by rw [hrun]; simp)]
  exact hrun

/-- Settles O24. -/
theorem armAndAbortRuleAList : Obligations.ArmAndAbortRuleAList := by
  intro s i v hr _
  have hframe : s.changedOnly [.lists, .notices] (listCommand i v s) :=
    (listCommand_frame i v s).mono (by decide)
  refine ⟨_, congrArg Host.Outcome.next (writeBurst_listState hr i v), hframe, fun h1 h2 => ?_, ?_, ?_, ?_, ?_, ?_, ?_⟩
  · rw [listCommand, if_neg h1, if_neg h2]
    exact .refl _ _
  · rintro rfl hrest
    change (arm i s).owalk[i].taken = 0 ∧ _
    cases ho : s.owalk[otherList i].walking with
    | true =>
      have harm : listCommand i 0xA1 s = s.setList i { s.owalk[i].cleared with state := .armed } := by
        rw [listCommand, if_pos rfl, armList_resting hrest, if_pos ho]
      have hw := (walking_iff _).1 ho
      change (listCommand i 0xA1 s).owalk[i].taken = 0 ∧ _
      rw [harm, setList_self]
      exact ⟨rfl, rfl, rfl, fun _ => ⟨rfl, rfl⟩, fun h1 h2 => (hw.elim h1 h2).elim⟩
    | false =>
      have hw : ¬(s.owalk[otherList i].state = .running ∨ s.owalk[otherList i].state = .stalled) := by
        rw [← walking_iff, ho]; decide
      have harm : listCommand i 0xA1 s = arm i s := if_pos rfl
      rw [harm]
      by_cases hf : s.owalk[i].first = 0
      · rw [armList_empty hrest ho hf]
        exact ⟨rfl, rfl, rfl, fun h => absurd h hw, fun _ _ => ⟨fun h => absurd hf h, fun _ => rfl⟩⟩
      · rw [armList_chain hrest ho hf, setList_self]
        exact ⟨rfl, rfl, rfl, fun h => absurd h hw,
          fun _ _ => ⟨fun _ => ⟨rfl, rfl, rfl, setList_other _ _ _⟩, fun h => absurd h hf⟩⟩
  · rintro rfl hst
    have h : listCommand i 0xA1 s = _ := (if_pos rfl).trans (armList_stalled hst)
    rw [h]
    exact ⟨rfl, rfl⟩
  · rintro rfl hst
    have h : listCommand i 0xA1 s = s := (if_pos rfl).trans (armList_busy hst)
    rw [h]
    exact .refl _ _
  · rintro rfl hst
    have h : listCommand i 0xA2 s = _ := ((if_neg (by decide)).trans (if_pos rfl)).trans (abort_walking hst)
    rw [h]
    exact ⟨endFault_endsList _ _ _ _, endFault_raises _ _ _⟩
  · rintro rfl hst
    have h : listCommand i 0xA2 s = _ := ((if_neg (by decide)).trans (if_pos rfl)).trans (abort_armed hst)
    rw [h]
    exact ⟨rfl, rfl⟩
  · rintro rfl hst
    have h : listCommand i 0xA2 s = s := ((if_neg (by decide)).trans (if_pos rfl)).trans (abort_resting hst)
    rw [h]
    exact .refl _ _

/-! ## What the walker meets (R165 to R167) -/

theorem notDispatched_badLink {s : State} {i : ListId} (hr : s.runningList = some i)
    (ha : s.arrivalOf s.owalk[i] = .badLink) :
    notDispatched s = endFault i .badLink s.owalk[i].next s := by
  simp only [notDispatched, hr, ha]

theorem notDispatched_notPosted {s : State} {i : ListId} (hr : s.runningList = some i)
    (ha : s.arrivalOf s.owalk[i] = .notPosted) : notDispatched s = notPosted i s := by
  simp only [notDispatched, hr, ha]

theorem notDispatched_tooLong {s : State} {i : ListId} (hr : s.runningList = some i)
    (ha : s.arrivalOf s.owalk[i] = .tooLong) : notDispatched s = endFault i .tooLong s.owalk[i].next s := by
  simp only [notDispatched, hr, ha]

/-- A record that the walker refuses is answered, and nothing else changes (R166, R168). -/
theorem notDispatched_refuses {s : State} {i : ListId} {off n : Nat} {a : Answer} (hm : s.memGood)
    (hr : s.runningList = some i) (hoff : s.owalk[i].next.toNat = off) (ha : s.arrivalOf s.owalk[i] = .refused a n) :
    s.refuses i off n a.outcome a.detail (notDispatched s) := by
  have heq : notDispatched s = answered i off n (s.linkOf off) a s := by
    subst hoff
    simp only [notDispatched, hr, ha]
  rw [heq]
  exact ⟨answered_answers i off n a s s hm rfl rfl, answered_frame _ _ _ _ _ _⟩

/-- What reaching a POSTED record comes to, with fewer than 255 taken (R166, steps 4 to 7). -/
def State.postedArrival (s : State) (off : Nat) : Arrival :=
  if (s.field1 off 2).toNat = 0 ∨ 16 < (s.field1 off 2).toNat then .refused ⟨.badLength, 0⟩ 16
  else if 0x37FF < off + 16 * (s.field1 off 2).toNat - 1 then .badLink
  else
    match OrderKind.ofCode (s.field1 off 1) with
    | none => .refused ⟨.unknownKind, 0⟩ (16 * (s.field1 off 2).toNat)
    | some k =>
      if (s.field1 off 2).toNat < k.units (s.field1 off 0x0C).toNat then
        .refused ⟨.badLength, k.units (s.field1 off 0x0C).toNat⟩ (16 * (s.field1 off 2).toNat)
      else .order k (16 * (s.field1 off 2).toNat)

theorem arrivalOf_within {s : State} {l : OrderList} {off : Nat} (hoff : l.next.toNat = off) (h1 : 0x1800 ≤ off)
    (h2 : off ≤ 0x37FF) (h3 : off % 16 = 0) : s.arrivalOf l =
    if s.field1 off 0 ≠ 1 then .notPosted else if l.taken = 255 then .tooLong else s.postedArrival off := by
  subst hoff
  have hin : ¬(l.next.toNat < 0x1800 ∨ 0x37FF < l.next.toNat ∨ l.next.toNat % 16 ≠ 0) := by omega
  rw [State.arrivalOf, if_neg (by omega), if_neg hin]
  rfl

/-- Settles O47. -/
theorem walksEndAndStall : Obligations.WalksEndAndStall := by
  rintro s i l hm rfl
  have hends : ∀ c o, s.changedOnly [.lists, .notices] (endFault i c o s) := fun c o =>
    (endFault_frame i c o s).mono (by decide)
  refine ⟨fun hr h0 => ?_, fun hr h0 hbad => ?_, fun off hoff h1 h2 h3 => ?_, fun w hst hw hdue => ?_⟩
  · have ha : s.arrivalOf s.owalk[i] = .linkOf0 := if_pos (by rw [h0]; rfl)
    have heq : chainEnds s = endDone i s := by simp only [chainEnds, hr, ha, if_true]
    exact ⟨_, congrArg Host.Outcome.next heq, (endDone_frame i s).mono (by decide), endDone_endsList i s, endDone_raises i⟩
  · have h0' : s.owalk[i].next.toNat ≠ 0 := fun h => h0 (BitVec.eq_of_toNat_eq h)
    have ha : s.arrivalOf s.owalk[i] = .badLink := (if_neg h0').trans (if_pos hbad)
    exact ⟨_, congrArg Host.Outcome.next (notDispatched_badLink hr ha), hends _ _, endFault_endsList _ _ _ _, endFault_raises _ _ _⟩
  · have hat := arrivalOf_within (s := s) hoff h1 h2 h3
    refine ⟨fun hr hp hpol => ?_, fun hr hp hpol => ?_, fun hr hp ht => ?_, fun hr hp ht => ?_⟩
    · have heq : notDispatched s = s.setList i { s.owalk[i] with
          state := .stalled, faultOffset := some s.owalk[i].next, stall := some s.now } :=
        (notDispatched_notPosted hr (hat.trans (if_pos hp))).trans (if_neg hpol)
      exact ⟨_, congrArg Host.Outcome.next heq, setList_frame _ _ _, rfl⟩
    · have heq : notDispatched s = endFault i .notPosted s.owalk[i].next s :=
        (notDispatched_notPosted hr (hat.trans (if_pos hp))).trans (if_pos hpol)
      exact ⟨_, congrArg Host.Outcome.next heq, hends _ _, endFault_endsList _ _ _ _⟩
    · have ha := (hat.trans (if_neg (not_not.2 hp))).trans (if_pos ht)
      exact ⟨_, congrArg Host.Outcome.next (notDispatched_tooLong hr ha), hends _ _, endFault_endsList _ _ _ _⟩
    · have hat := (hat.trans (if_neg (not_not.2 hp))).trans (if_neg ht)
      refine ⟨fun hu => ?_, fun hu1 hu2 hend hk => ?_, fun hu1 hu2 hend => ?_, fun k hu1 hu2 hend hk hlen => ?_⟩
      · exact ⟨_, rfl, notDispatched_refuses (a := ⟨.badLength, 0⟩) hm hr hoff (hat.trans (if_pos hu))⟩
      all_goals have hu : ¬((s.field1 off 2).toNat = 0 ∨ 16 < (s.field1 off 2).toNat) := by omega
      · have ha := hat.trans ((if_neg hu).trans (if_neg (by omega)))
        rw [hk] at ha
        exact ⟨_, rfl, notDispatched_refuses (a := ⟨.unknownKind, 0⟩) hm hr hoff ha⟩
      · have ha := hat.trans ((if_neg hu).trans (if_pos (by omega)))
        exact ⟨_, congrArg Host.Outcome.next (notDispatched_badLink hr ha), hends _ _, endFault_endsList _ _ _ _,
          endFault_raises _ _ _⟩
      · have ha := hat.trans ((if_neg hu).trans (if_neg (by omega)))
        rw [hk] at ha
        exact ⟨_, rfl, notDispatched_refuses (a := ⟨.badLength, k.units (s.field1 off 0x0C).toNat⟩) hm hr hoff
          (ha.trans (if_pos hlen))⟩
  · have heq : stallExpires i s = endFault i .notPosted s.owalk[i].next s :=
      if_pos ⟨hst, by rw [hw]; exact decide_eq_true hdue⟩
    exact ⟨_, congrArg Host.Outcome.next heq, hends _ _, endFault_endsList _ _ _ _, endFault_raises _ _ _⟩

end Sys2Proof.Machine
end

section
/-! PROOF. A consideration of a grant (R74 to R76, R89): which bays it joins to which channels, and what it leaves of the
other bays and channels. -/

namespace Sys2Proof.Machine

-- One declaration after the other: the check compiles the whole text within a memory bound.
set_option Elab.async false

/-! ## What a pass decides of a tier and a charge -/

theorem pass_tier (s : State) (b : Bay) : (pass s).palloc.bays[b].tier = s.tierOf b := by
  rw [pass_palloc]
  unfold State.passed
  simp only [Fin.getElem_fin, Vector.getElem_ofFn]
  exact passInputs_tier s b

theorem pass_chargeState (s : State) (b : Bay) : (pass s).cctl[b].state = s.cctl[b].state :=
  (state_of_body (chargeBody_of_frame (pass_frame s) (by decide) b)).1

/-! ## Eligibility -/

theorem eligible_congr {s u : State} {b : Bay} (hb : u.bmon[b].body = s.bmon[b].body)
    (hp : u.bmon[b].path = s.bmon[b].path) (hd : u.ldrv.driving b = s.ldrv.driving b)
    (hc : u.cust.inCartAt b = s.cust.inCartAt b) (hm : u.psched.provMinimum = s.psched.provMinimum)
    (hs : u.cctl[b].state = s.cctl[b].state) : u.eligible b = s.eligible b := by
  obtain ⟨ho, -, -, -, hdoor, -, -, hlatch, -, hlevel, -⟩ := body_fields hb
  unfold State.eligible
  rw [ho, hdoor, hlatch, hlevel, hp, hd, hc, hm, hs]

theorem granted_eligible {c : Chan} {b x : Bay} (h : x ≠ b) (s : State) :
    (grantCore c b s).eligible x = s.eligible x := by
  have he : (grantCore c b s).bmon[x] = s.bmon[x] := by
    rw [grantCore_eq, pass_bmon, granted_entry, if_neg h]
  refine eligible_congr (by rw [he]) (by rw [he]) ?_ ?_ ?_ ?_
  · simp [grantCore_eq, granted, join]
  · simp [grantCore_eq, granted, join]
  · simp [grantCore_eq, granted, join]
  · rw [grantCore_eq, pass_chargeState]
    simp [granted, join]

/-! ## The pairs of a consideration -/

/-- The first element that passes `p`, and then those of the list without it. -/
theorem filter_eq_cons {α : Type} [DecidableEq α] {l : List α} (hnd : l.Nodup) {p q : α → Bool} {a : α}
    (h : l.find? p = some a) (hq : ∀ x, x ∈ l → q x = (p x && x != a)) : l.filter p = a :: l.filter q := by
  rw [← List.head?_filter] at h
  obtain ⟨rest, hrest⟩ : ∃ rest, l.filter p = a :: rest := by
    cases hl : l.filter p with
    | nil => rw [hl] at h; exact absurd h (by simp)
    | cons y rest => rw [hl] at h; exact ⟨rest, by simp at h; rw [h]⟩
  have hnotin : a ∉ rest := by
    have := hnd.filter p
    rw [hrest] at this
    exact (List.nodup_cons.1 this).1
  have hq' : l.filter q = rest := by
    calc l.filter q = l.filter fun x => p x && x != a := List.filter_congr hq
      _ = (l.filter p).filter (· != a) := by rw [List.filter_filter]; simp [Bool.and_comm]
      _ = rest := by
        rw [hrest, List.filter_cons_of_neg (by simp), List.filter_eq_self]
        intro x hx
        simp only [bne_iff_ne, ne_eq]
        exact fun h => hnotin (h ▸ hx)
  rw [hrest, hq']

/-- The IDLE channels in ascending number. -/
def PSched.idle (p : PSched) : List Chan := (List.finRange 4).filter fun c => p.channels[c].session.isNone

theorem grantPairs_eq (s : State) : s.grantPairs s.eligible = (s.psched.queue.filter s.eligible).zip s.psched.idle := rfl

theorem grantCore_idle {c : Chan} {b : Bay} {s : State} (hc : s.psched.firstIdle = some c) :
    s.psched.idle = c :: (grantCore c b s).psched.idle := by
  refine filter_eq_cons (List.nodup_finRange 4) hc fun d _ => ?_
  rw [grantCore_eq, pass_psched, granted_channel]
  by_cases hd : d = c
  · simp [hd]
  · rw [if_neg hd]
    simp [hd]

theorem grantCore_waiting {c : Chan} {b : Bay} {s : State} (hnd : s.psched.queue.Nodup)
    (hb : s.psched.queue.find? s.eligible = some b) : s.psched.queue.filter s.eligible =
      b :: (grantCore c b s).psched.queue.filter (grantCore c b s).eligible := by
  rw [grantCore_eq, pass_psched, granted_queue, List.filter_filter, ← grantCore_eq]
  refine filter_eq_cons hnd hb fun x _ => ?_
  by_cases hx : x = b
  · simp [hx]
  · simp [granted_eligible hx]

theorem grantPairs_grantCore {c : Chan} {b : Bay} {s : State} (hnd : s.psched.queue.Nodup)
    (hc : s.psched.firstIdle = some c) (hb : s.psched.queue.find? s.eligible = some b) :
    s.grantPairs s.eligible = (b, c) :: (grantCore c b s).grantPairs (grantCore c b s).eligible := by
  rw [grantPairs_eq, grantPairs_eq, grantCore_idle hc, grantCore_waiting (c := c) hnd hb]
  rfl

theorem grantPairs_none {s : State}
    (h : s.psched.firstIdle = none ∨ s.psched.queue.find? s.eligible = none) : s.grantPairs s.eligible = [] := by
  rw [grantPairs_eq]
  rcases h with h | h
  · have : s.psched.idle = [] := List.filter_eq_nil_iff.2 fun c hc => by simpa using List.find?_eq_none.1 h c hc
    rw [this, List.zip_nil_right]
  · have : s.psched.queue.filter s.eligible = [] :=
      List.filter_eq_nil_iff.2 fun b hb => List.find?_eq_none.1 h b hb
    rw [this, List.zip_nil_left]

theorem grantPairs_length (s : State) (ok : Bay → Bool) : (s.grantPairs ok).length ≤ 4 := by
  rw [State.grantPairs, List.length_zip]
  exact (min_le_right _ _).trans ((List.length_filter_le _ _).trans (by simp))

/-! ## The scan -/

/-- The tier of every bay with a session is SESSION. -/
def State.sessionTiers (s : State) : Prop :=
  ∀ (c : Chan) (x : Session), s.psched.channels[c].session = some x → s.palloc.bays[x.bay].tier = .session

theorem pass_sessionTiers (s : State) : (pass s).sessionTiers := fun c x h => by
  rw [pass_tier]
  exact tierOf_session (by rw [pass_psched] at h; exact h) rfl

theorem scanCore_sessionTiers (n : Nat) {s : State} (hs : s.sessionTiers) : (scanCore n s).sessionTiers := by
  induction n generalizing s with
  | zero => exact hs
  | succ n ih =>
    rcases scanCore_cases n s with ⟨c, b, -, -, h⟩ | ⟨-, h⟩ <;> rw [h]
    · exact ih (pass_sessionTiers (granted c b s))
    · exact hs

/-- `t` is `s` with the channels of `pairs` granted to their bays. -/
structure State.Granting (s : State) (pairs : List (Bay × Chan)) (t : State) : Prop where
  grants : ∀ (b : Bay) (c : Chan), (b, c) ∈ pairs → s.grantsChannel b c t
  bays : ∀ b : Bay, (∀ c : Chan, (b, c) ∉ pairs) →
    t.psched.records[b] = s.psched.records[b] ∧ t.bmon[b] = s.bmon[b]
  channels : ∀ c : Chan, (∀ b : Bay, (b, c) ∉ pairs) → t.psched.channels[c] = s.psched.channels[c]
  queue : t.psched.queue = s.psched.queue.filter fun b => !(pairs.any fun p => p.1 == b)

theorem State.Granting.refl (s : State) : s.Granting [] s :=
  ⟨fun _ _ h => absurd h (by simp), fun _ _ => ⟨rfl, rfl⟩, fun _ _ => rfl, by simp⟩

/-- A grant followed by the grants of other bays and channels. -/
theorem State.Granting.cons {s t : State} {b : Bay} {c : Chan} {pairs : List (Bay × Chan)}
    (h : (grantCore c b s).Granting pairs t) (hb : ∀ d, (b, d) ∉ pairs) (hc : ∀ x, (x, c) ∉ pairs)
    (ht : t.sessionTiers) : s.Granting ((b, c) :: pairs) t := by
  have hrec : ∀ x : Bay, (grantCore c b s).psched.records[x] =
      if x = b then { s.psched.records[b] with state := .active } else s.psched.records[x] := fun x => by
    rw [grantCore_eq, pass_psched, granted_record]
  have hch : ∀ d : Chan, (grantCore c b s).psched.channels[d] = _ := fun d =>
    (congrArg (fun p : PSched => p.channels[d]) (pass_psched (s := granted c b s))).trans (granted_channel c b s d)
  have hent : ∀ x : Bay, (grantCore c b s).bmon[x] = _ := fun x =>
    (congrArg (fun v : Vector BayEntry 36 => v[x]) (pass_bmon (s := granted c b s))).trans (granted_entry c b s x)
  refine ⟨fun x d hxd => ?_, fun x hx => ?_, fun d hd => ?_, ?_⟩
  · rcases List.mem_cons.1 hxd with heq | hmem
    · obtain ⟨rfl, rfl⟩ := Prod.mk.inj heq
      have h1 := h.bays x hb
      have h2 := h.channels d hc
      rw [hrec, if_pos rfl] at h1
      rw [hent, if_pos rfl] at h1
      rw [hch, if_pos rfl] at h2
      refine ⟨h1.1, h2, ?_, ?_, ?_, ?_⟩
      · rw [h1.2]
      · rw [h1.2]
      · rw [h1.2]
      · exact ht d _ (congrArg Channel.session h2)
    · have hx : x ≠ b := fun he => hb d (he ▸ hmem)
      have hd : d ≠ c := fun he => hc x (he ▸ hmem)
      have hg := h.grants x d hmem
      unfold State.grantsChannel at hg ⊢
      rw [hrec, if_neg hx, hch, if_neg hd] at hg
      simpa [grantCore_eq, granted, join, State.minute] using hg
  · have hne : x ≠ b := fun he => hx c (by rw [he]; exact List.mem_cons_self)
    obtain ⟨h1, h2⟩ := h.bays x fun d hd => hx d (List.mem_cons_of_mem _ hd)
    rw [hrec, if_neg hne] at h1
    rw [hent, if_neg hne] at h2
    exact ⟨h1, h2⟩
  · have hne : d ≠ c := fun he => hd b (by rw [he]; exact List.mem_cons_self)
    have h1 := h.channels d fun x hx => hd x (List.mem_cons_of_mem _ hx)
    rw [hch, if_neg hne] at h1
    exact h1
  · rw [h.queue, grantCore_eq, pass_psched, granted_queue, List.filter_filter]
    refine List.filter_congr fun x _ => ?_
    rw [List.any_cons, Bool.not_or, Bool.and_comm]
    congr 1
    exact bne_comm

/-- The scan grants the first pairs, one in each of its rounds. -/
theorem scanCore_granting (n : Nat) {s : State} (hnd : s.psched.queue.Nodup) :
    s.Granting ((s.grantPairs s.eligible).take n) (scanCore n s) := by
  induction n generalizing s with
  | zero => exact .refl s
  | succ n ih =>
    rcases scanCore_cases n s with ⟨c, b, hc, hb, h⟩ | ⟨hnone, h⟩ <;> rw [h]
    · have hqueue : (grantCore c b s).psched.queue = s.psched.queue.filter (· != b) := by
        rw [grantCore_eq, pass_psched, granted_queue]
      have hbusy : (grantCore c b s).psched.channels[c].session ≠ none := by
        rw [grantCore_eq, pass_psched, granted_channel, if_pos rfl]
        simp
      have hfree : ∀ x d, (x, d) ∈ ((grantCore c b s).grantPairs (grantCore c b s).eligible).take n →
          x ≠ b ∧ d ≠ c := fun x d hm => by
        obtain ⟨hx, hd⟩ := List.of_mem_zip (List.mem_of_mem_take hm)
        have hx := (List.mem_filter.1 hx).1
        rw [hqueue] at hx
        have hd := (List.mem_filter.1 hd).2
        exact ⟨by simpa using (List.mem_filter.1 hx).2, fun h => hbusy (by simpa [h] using hd)⟩
      rw [grantPairs_grantCore hnd hc hb, List.take_succ_cons]
      exact (ih (by rw [hqueue]; exact hnd.filter _)).cons (fun d hm => (hfree b d hm).1 rfl)
        (fun x hm => (hfree x c hm).2 rfl) (scanCore_sessionTiers n (pass_sessionTiers _))
    · rw [grantPairs_none hnone, List.take_nil]
      exact .refl s

/-! ## A consideration -/

theorem considers_of_granting {s t : State} (hst : s.psched.mode = .standalone → t.psched.records = s.psched.records ∧
      t.psched.queue = s.psched.queue ∧ t.psched.channels = s.psched.channels ∧ Part.paths.same s t)
    (hat : s.psched.mode = .attended → s.psched.queue.Nodup → s.Granting (s.grantPairs s.eligible) t) :
    s.considers t := by
  refine ⟨hst, fun ok hm hnd hok => ?_⟩
  obtain rfl : ok = s.eligible := funext fun b => Bool.eq_iff_iff.2 ((hok b).trans (eligible_iff s b).symm)
  have h := hat hm hnd
  refine ⟨h.grants, fun b hb => ?_, h.channels, h.queue⟩
  obtain ⟨h1, h2⟩ := h.bays b hb
  rw [h2]
  exact ⟨h1, rfl, rfl, rfl⟩

/-- What PSCHED considers is what R75 says. -/
theorem considerCore_considers (s : State) : s.considers (considerCore s) := by
  refine considers_of_granting (fun hm => ?_) fun hm hnd => ?_
  · rw [considerCore, if_pos hm]
    exact ⟨rfl, rfl, rfl, fun b => ⟨rfl, rfl, rfl, rfl⟩⟩
  · rw [considerCore, if_neg (by rw [hm]; decide)]
    have h := scanCore_granting 4 hnd
    rwa [List.take_of_length_le (grantPairs_length s _)] at h

/-- What a consideration says of `t` is of its records, queue, channels, paths and the tiers of its sessions. -/
theorem considers_right {s t u : State} (h : s.considers t) (hr : u.psched.records = t.psched.records)
    (hq : u.psched.queue = t.psched.queue) (hc : u.psched.channels = t.psched.channels) (hp : Part.paths.same t u)
    (ht : ∀ (c : Chan) (x : Session), t.psched.channels[c].session = some x →
      t.palloc.bays[x.bay].tier = .session → u.palloc.bays[x.bay].tier = .session) : s.considers u := by
  obtain ⟨hst, hat⟩ := h
  refine ⟨fun hm => ?_, fun ok hm hnd hok => ?_⟩
  · obtain ⟨h1, h2, h3, h4⟩ := hst hm
    refine ⟨hr.trans h1, hq.trans h2, hc.trans h3, fun b => ?_⟩
    obtain ⟨p1, p2, p3, p4⟩ := hp b
    obtain ⟨q1, q2, q3, q4⟩ := h4 b
    exact ⟨p1.trans q1, p2.trans q2, p3.trans q3, p4.trans q4⟩
  · obtain ⟨h1, h2, h3, h4⟩ := hat ok hm hnd hok
    rw [hq, hc, hr]
    refine ⟨fun b c hbc => ?_, fun b hb => ?_, h3, h4⟩
    · obtain ⟨g1, g2, g3, g4, g5, g6⟩ := h1 b c hbc
      obtain ⟨p1, p2, p3, -⟩ := hp b
      exact ⟨by rw [hr]; exact g1, by rw [hc]; exact g2, p1.trans g3, p2.trans g4, p3.trans g5,
        ht c _ (congrArg Channel.session g2) g6⟩
    · obtain ⟨g1, g2, g3, g4⟩ := h2 b hb
      obtain ⟨p1, p2, p3, -⟩ := hp b
      exact ⟨g1, p1.trans g2, p2.trans g3, p3.trans g4⟩

theorem consider_considers (s : State) : s.considers (consider s) :=
  considers_right (considerCore_considers s) (pschedEvent_psched_records _ _) (pschedEvent_psched_queue _ _)
    (pschedEvent_psched_channels _ _) (fun b => by rw [consider, pschedEvent_bmon]; exact ⟨rfl, rfl, rfl, rfl⟩)
    fun c x _ h => by rw [consider, pschedEvent_palloc]; exact h

/-- A pass after a consideration leaves the tiers of the sessions. -/
theorem considers_then_pass {s t u : State} (h : s.considers t) (hu : t.changedOnly (.choices :: .limits :: passParts) u)
    : s.considers (pass u) := by
  have hpr : Part.prov.same t u := hu .prov (by decide)
  refine considers_right h (by rw [pass_psched, hpr.1]) (by rw [pass_psched, hpr.2.1]) (by rw [pass_psched, hpr.2.2])
    (fun b => by rw [pass_bmon]; exact hu .paths (by decide) b) fun c x hx _ => ?_
  rw [pass_tier]
  exact tierOf_session (by rw [hpr.2.2]; exact hx) rfl

/-- Two states in which a consideration finds the same records, queue, channels, paths and eligible bays. -/
structure State.SameGround (s u : State) : Prop where
  records : u.psched.records = s.psched.records
  queue : u.psched.queue = s.psched.queue
  channels : u.psched.channels = s.psched.channels
  mode : u.psched.mode = s.psched.mode
  now : u.now = s.now
  minute : u.minute = s.minute
  paths : Part.paths.same s u
  eligible : ∀ b : Bay, u.eligible b = s.eligible b

theorem State.SameGround.trans {s t u : State} (g : s.SameGround t) (h : t.SameGround u) : s.SameGround u :=
  ⟨h.records.trans g.records, h.queue.trans g.queue, h.channels.trans g.channels, h.mode.trans g.mode,
    h.now.trans g.now, h.minute.trans g.minute, fun b => ⟨(h.paths b).1.trans (g.paths b).1,
      (h.paths b).2.1.trans (g.paths b).2.1, (h.paths b).2.2.1.trans (g.paths b).2.2.1,
      (h.paths b).2.2.2.trans (g.paths b).2.2.2⟩, fun b => (h.eligible b).trans (g.eligible b)⟩

theorem considers_left {s u t : State} (g : s.SameGround u) (h : u.considers t) : s.considers t := by
  obtain ⟨hst, hat⟩ := h
  have hpairs : ∀ ok, u.grantPairs ok = s.grantPairs ok := fun ok => by
    rw [State.grantPairs, State.grantPairs, g.queue, g.channels]
  rw [g.mode, g.queue, g.records, g.channels] at *
  refine ⟨fun hm => ?_, fun ok hm hnd hok => ?_⟩
  · obtain ⟨h1, h2, h3, h4⟩ := hst hm
    refine ⟨h1, h2, h3, fun b => ?_⟩
    obtain ⟨p1, p2, p3, p4⟩ := g.paths b
    obtain ⟨q1, q2, q3, q4⟩ := h4 b
    exact ⟨q1.trans p1, q2.trans p2, q3.trans p3, q4.trans p4⟩
  · have hok' : ∀ b, ok b = true ↔ u.mayJoin b := fun b => by
      rw [hok b, ← eligible_iff, ← eligible_iff, g.eligible]
    obtain ⟨h1, h2, h3, h4⟩ := hat ok hm hnd hok'
    rw [hpairs] at h1 h2 h3 h4
    refine ⟨fun b c hbc => ?_, fun b hb => ?_, h3, h4⟩
    · have := h1 b c hbc
      unfold State.grantsChannel at this ⊢
      rwa [g.records, g.channels, g.minute, g.now] at this
    · obtain ⟨g1, g2, g3, g4⟩ := h2 b hb
      obtain ⟨p1, p2, p3, -⟩ := g.paths b
      exact ⟨g1, g2.trans p1, g3.trans p2, g4.trans p3⟩

theorem inCartAt_congr {c d : Cust} (h : d.slots = c.slots) (b : Bay) : d.inCartAt b = c.inCartAt b := by
  unfold Cust.inCartAt Cust.recordAt Cust.slotAt
  rw [h]

/-- Nothing that a consideration reads changes outside these parts. -/
theorem SameGround.of_frame {s u : State} {l : List Part} (h : s.changedOnly l u)
    (hl : ∀ x ∈ [Part.bays, .paths, .prov, .provSettings, .now, .clock, .latches, .custody, .charge], x ∉ l := by decide) :
    s.SameGround u := by
  have hs : ∀ x ∈ [Part.bays, .paths, .prov, .provSettings, .now, .clock, .latches, .custody, .charge], x.same s u :=
    fun x hx => h x (hl x hx)
  obtain ⟨h1, h2, h3⟩ : Part.prov.same s u := hs .prov (by decide)
  obtain ⟨m1, -, m3⟩ : Part.provSettings.same s u := hs .provSettings (by decide)
  obtain ⟨-, l2, -⟩ : Part.latches.same s u := hs .latches (by decide)
  refine ⟨h1, h2, h3, m1, hs .now (by decide), congrArg (Option.map CartClock.minute) (hs .clock (by decide)),
    hs .paths (by decide), fun b => ?_⟩
  refine eligible_congr (hs .bays (by decide) b) (hs .paths (by decide) b).1 ?_
    (inCartAt_congr (hs .custody (by decide)) b) m3 (state_of_body (hs .charge (by decide) b)).1
  unfold Ldrv.driving Ldrv.slotDrives
  rw [l2]

end Sys2Proof.Machine
end

section
/-! PROOF. The ends of sessions (R77 to R81) and the changes of mode (R88, R89): what an end leaves of the bay and of its
channel, and what the entry to STANDALONE and the return to ATTENDED leave. -/

namespace Sys2Proof.Machine

-- One declaration after the other: the check compiles the whole text within a memory bound.
set_option Elab.async false

/-! ## A bay that a consideration cannot join -/

theorem grantCore_entry {c : Chan} {b x : Bay} (h : x ≠ b) (s : State) : (grantCore c b s).bmon[x] = s.bmon[x] := by
  rw [grantCore_eq, pass_bmon, granted_entry, if_neg h]

theorem eligible_watch {s : State} {b : Bay} (h : s.eligible b = true) : s.bmon[b].path = .watch :=
  ((eligible_iff s b).1 h).2.2.2.2.2.2.1

/-- A bay outside the queue, or without a path in WATCH, keeps its record and its entry in a scan. -/
theorem scanCore_untouched (n : Nat) {b : Bay} {s : State} (h : b ∉ s.psched.queue ∨ s.bmon[b].path ≠ .watch) :
    (scanCore n s).psched.records[b] = s.psched.records[b] ∧ (scanCore n s).bmon[b] = s.bmon[b] := by
  induction n generalizing s with
  | zero => exact ⟨rfl, rfl⟩
  | succ n ih =>
    rcases scanCore_cases n s with ⟨c, x, -, hx, he⟩ | ⟨-, he⟩ <;> rw [he]
    · have hne : b ≠ x := by
        rintro rfl
        exact h.elim (fun h => h (List.mem_of_find?_eq_some hx)) fun h => h (eligible_watch (List.find?_some hx))
      have hrec := grantCore_record (c := c) hne s
      have hent := grantCore_entry (c := c) hne s
      obtain ⟨h1, h2⟩ := ih (s := grantCore c x s) (h.imp
        (fun h hm => h (List.mem_filter.1 (by rwa [grantCore_eq, pass_psched, granted_queue] at hm)).1)
        (fun h => by rwa [hent]))
      exact ⟨h1.trans hrec, h2.trans hent⟩
    · exact ⟨rfl, rfl⟩

theorem considerCore_untouched {b : Bay} {s : State} (h : b ∉ s.psched.queue ∨ s.bmon[b].path ≠ .watch) :
    (considerCore s).psched.records[b] = s.psched.records[b] ∧ (considerCore s).bmon[b] = s.bmon[b] := by
  unfold considerCore
  split
  · exact ⟨rfl, rfl⟩
  · exact scanCore_untouched 4 h

theorem consider_untouched {b : Bay} {s : State} (h : b ∉ s.psched.queue ∨ s.bmon[b].path ≠ .watch) :
    (consider s).psched.records[b] = s.psched.records[b] ∧ (consider s).bmon[b] = s.bmon[b] := by
  rw [consider, pschedEvent_psched_records, pschedEvent_bmon]
  exact considerCore_untouched h

/-- A consideration changes of a record at most its state, and that of a WAITING bay to ACTIVE. -/
theorem scanCore_recordState (n : Nat) (b : Bay) (s : State) :
    (scanCore n s).psched.records[b] = s.psched.records[b] ∨
      (scanCore n s).psched.records[b] = { s.psched.records[b] with state := .active } := by
  induction n generalizing s with
  | zero => exact .inl rfl
  | succ n ih =>
    rcases scanCore_cases n s with ⟨c, x, -, -, he⟩ | ⟨-, he⟩ <;> rw [he]
    · by_cases hb : b = x
      · subst hb
        have hrec : (grantCore c b s).psched.records[b] = { s.psched.records[b] with state := .active } := by
          rw [grantCore_eq, pass_psched, granted_record, if_pos rfl]
        rcases ih (grantCore c b s) with h | h <;> rw [h, hrec] <;> exact .inr rfl
      · rw [← grantCore_record (c := c) hb s]
        exact ih _
    · exact .inl rfl

theorem considerCore_recordState (b : Bay) (s : State) :
    (considerCore s).psched.records[b] = s.psched.records[b] ∨
      (considerCore s).psched.records[b] = { s.psched.records[b] with state := .active } := by
  unfold considerCore
  split
  · exact .inl rfl
  · exact scanCore_recordState 4 b s

/-! ## What the end of a session leaves -/

theorem endNotices_noted (r : ProvRecord) (s : State) : (s.nctl.event Notice.provDone.index).noted (endNotices r s).nctl := by
  unfold endNotices
  split
  · exact (raise_noted .provFailed _)
  · exact .refl _

/-- The record of a bay whose session has ended: as Table 4-4 says, and ACTIVE at most by the consideration. -/
theorem endSessionCore_record {c : Chan} {x : Session} {s : State} (h : s.psched.channels[c].session = some x)
    (o : SessionOutcome) (r : Half) :
    (endSessionCore c o r s).psched.records[x.bay] = s.psched.records[x.bay].afterEnd o r ∨
      (endSessionCore c o r s).psched.records[x.bay] =
        { s.psched.records[x.bay].afterEnd o r with state := .active } := by
  have hrec : (endNotices (s.psched.records[x.bay].afterEnd o r) (pass (sessionClosed c x o r s))).psched.records[x.bay] =
      s.psched.records[x.bay].afterEnd o r := by
    rw [endNotices_psched, pass_psched, sessionClosed_record, if_pos rfl]
  have hcases := considerCore_recordState x.bay
    (endNotices (s.psched.records[x.bay].afterEnd o r) (pass (sessionClosed c x o r s)))
  rw [hrec] at hcases
  rw [endSessionCore_busy h]
  exact hcases

/-- A bay that does not wait after the end keeps the record and the entry that the end left. -/
theorem endSessionCore_settles {c : Chan} {x : Session} {s : State} (h : s.psched.channels[c].session = some x)
    {o : SessionOutcome} {r : Half} (hq : x.bay ∉ (sessionClosed c x o r s).psched.queue ∨
      (sessionClosed c x o r s).bmon[x.bay].path ≠ .watch) :
    (endSessionCore c o r s).psched.records[x.bay] = s.psched.records[x.bay].afterEnd o r ∧
      (endSessionCore c o r s).bmon[x.bay] = { s.bmon[x.bay] with
        path := s.bmon[x.bay].pathUnjoined, joined := none, silence := none
        faultTimer := if s.bmon[x.bay].pathUnjoined = .dark then none else s.bmon[x.bay].faultTimer } := by
  have hpsched : (endNotices (s.psched.records[x.bay].afterEnd o r) (pass (sessionClosed c x o r s))).psched =
      (sessionClosed c x o r s).psched := by rw [endNotices_psched, pass_psched]
  have hbmon : (endNotices (s.psched.records[x.bay].afterEnd o r) (pass (sessionClosed c x o r s))).bmon =
      (sessionClosed c x o r s).bmon := by
    unfold endNotices
    split <;> simp
  obtain ⟨h1, h2⟩ := considerCore_untouched (b := x.bay)
    (s := endNotices (s.psched.records[x.bay].afterEnd o r) (pass (sessionClosed c x o r s)))
    (by rw [hpsched, hbmon]; exact hq)
  rw [hpsched, sessionClosed_record, if_pos rfl] at h1
  rw [hbmon, sessionClosed_entry, if_pos rfl] at h2
  rw [endSessionCore_busy h]
  exact ⟨h1, h2⟩

theorem endSessionCore_noted {c : Chan} {x : Session} {s : State} (h : s.psched.channels[c].session = some x)
    (o : SessionOutcome) (r : Half) :
    (s.nctl.event Notice.provDone.index).noted (endSessionCore c o r s).nctl := by
  have hn : (pass (sessionClosed c x o r s)).nctl = s.nctl := by
    rw [pass_nctl]
    exact nctl_of_frame (sessionClosed_frame c x o r s)
  rw [endSessionCore_busy h, considerCore_nctl, ← hn]
  exact endNotices_noted _ _

theorem not_waiting_of_session {s : State} (hq : s.queueGood) {c : Chan} {x : Session}
    (h : s.psched.channels[c].session = some x) : x.bay ∉ s.psched.queue := fun hm => by
  obtain ⟨-, hmem, hbusy, -⟩ := hq
  have := (hmem x.bay).1 hm
  rw [hbusy c x h] at this
  exact absurd this (by decide)

/-- A session end that leaves its bay FAILED (R79). -/
theorem endSessionCore_fails {c : Chan} {x : Session} {s : State} (hq : s.queueGood)
    (h : s.psched.channels[c].session = some x) {o : SessionOutcome} {r : Half}
    (hf : (s.psched.records[x.bay].afterEnd o r).state = .failed) :
    (endSessionCore c o r s).psched.records[x.bay] = s.psched.records[x.bay].afterEnd o r ∧
      (endSessionCore c o r s).bmon[x.bay].path ≠ .joined ∧ (endSessionCore c o r s).bmon[x.bay].joined = none ∧
      (s.nctl.sources[(13 : Fin 16)].capture = true →
        (endSessionCore c o r s).nctl.sources[(13 : Fin 16)].request = true) := by
  have hqueue : (sessionClosed c x o r s).psched.queue = s.psched.queue := by
    rw [sessionClosed_queue, if_neg (by rw [hf]; decide)]
  obtain ⟨h1, h2⟩ := endSessionCore_settles (o := o) (r := r) h
    (.inl (by rw [hqueue]; exact not_waiting_of_session hq h))
  refine ⟨h1, by rw [h2]; exact pathUnjoined_ne_joined _, by rw [h2], fun hc => ?_⟩
  rw [endSessionCore_busy h, considerCore_nctl, endNotices, if_pos hf]
  have hn : (pass (sessionClosed c x o r s)).nctl = s.nctl :=
    (nctl_of_frame (pass_frame _)).trans (nctl_of_frame (sessionClosed_frame c x o r s))
  refine raised_of_noted .provFailed (raise_noted .provDone _) (.refl _) ?_
  rw [hn]
  exact hc

/-- What a session end, as one event, does to the record and to the notices. -/
theorem sessionEnds {c : Chan} {x : Session} {s : State} (h : s.psched.channels[c].session = some x)
    (o : SessionOutcome) (r : Half) : ∃ st : ProvState,
    (pschedEvent (endSessionCore c o r) s).psched.records[x.bay] =
      { s.psched.records[x.bay].afterEnd o r with state := st } ∧
    (st = (s.psched.records[x.bay].afterEnd o r).state ∨ st = .active) ∧
    (s.nctl.sources[(12 : Fin 16)].capture = true →
      (pschedEvent (endSessionCore c o r) s).nctl.sources[(12 : Fin 16)].request = true) := by
  rw [pschedEvent_psched_records, pschedEvent_nctl]
  have hreq := raised_of_noted .provDone (.refl s.nctl) (endSessionCore_noted h o r)
  rcases endSessionCore_record h o r with hrec | hrec
  · exact ⟨_, hrec, .inl rfl, hreq⟩
  · exact ⟨_, hrec, .inr rfl, hreq⟩

/-! ## Silence, the session limit and the fault level -/

theorem silenceReached_due {s : State} {b : Bay} {c : Chan} {y : SilenceTimer} (hp : s.bmon[b].path = .joined)
    (hj : s.bmon[b].joined = some c) (hy : s.bmon[b].silence = some y) (hdue : y.since + 1000 * y.limit ≤ s.now) :
    silenceReached b s = pschedLineEvent b c .stalled (s.setEntry b { s.bmon[b] with silence := none }) := by
  unfold silenceReached
  rw [hp, hj, hy]
  exact if_pos hdue

theorem pschedEvent_congr {f g : State → State} {s : State} (h : f s = g s) : pschedEvent f s = pschedEvent g s := by
  unfold pschedEvent
  dsimp only
  rw [h]

theorem pschedLineEvent_session {s : State} {b : Bay} {c : Chan} {x : Session} (o : SessionOutcome)
    (h : s.psched.channels[c].session = some x) (hb : x.bay = b) :
    pschedLineEvent b c o s = pschedEvent (endSessionCore c o 0) s := by
  refine pschedEvent_congr ?_
  rw [h]
  exact if_pos hb

theorem sessionTimeExpires_due {s : State} {c : Chan} {x : Session} (h : s.psched.channels[c].session = some x)
    (hdue : x.since + 60000 * x.sessionLimit ≤ s.now) :
    sessionTimeExpires c s = pschedEvent (endSessionCore c .expired 0) s := by
  unfold sessionTimeExpires
  rw [h]
  exact if_pos hdue

/-- Settles O34. -/
theorem silentAndLongSessionsEnd : Obligations.SilentAndLongSessionsEnd := by
  rintro s b c x hq hx rfl
  refine ⟨fun y hp hy => ?_, fun y hp hj hy hdue => ?_, fun hdue => ?_⟩
  · have heq : lineActive x.bay s = s.setEntry x.bay
        { s.bmon[x.bay] with silence := some { y with since := s.now } } := by
      rw [lineActive, if_pos hp, hy]
      rfl
    refine ⟨_, congrArg Host.Outcome.next heq, ?_, by simp⟩
    exact setEntry_quiet_path_frame rfl rfl
  · have hx' : (s.setEntry x.bay { s.bmon[x.bay] with silence := none }).psched.channels[c].session = some x := by
      rw [setEntry_psched]
      exact hx
    obtain ⟨st, hrec, -, hreq⟩ := sessionEnds hx' .stalled 0
    have heq := (silenceReached_due hp hj hy hdue).trans (pschedLineEvent_session .stalled hx' rfl)
    refine ⟨_, congrArg Host.Outcome.next heq, by rw [hrec]; rfl, ?_, fun hc => hreq (by rw [setEntry_nctl]; exact hc),
      heq ▸ (silenceReached_frame x.bay s).mono (by decide)⟩
    rw [hrec, setEntry_psched]
    rfl
  · obtain ⟨st, hrec, hst, hreq⟩ := sessionEnds hx .expired 0
    have heq := sessionTimeExpires_due hx hdue
    refine ⟨_, congrArg Host.Outcome.next heq, by rw [hrec]; rfl, by rw [hrec]; rfl, by rw [hrec]; rfl, fun h2 => ?_,
      fun h2 => ?_, hreq, heq ▸ (sessionTimeExpires_frame c s).mono (by decide)⟩
    · have hf : (s.psched.records[x.bay].afterEnd .expired 0).state = .failed := if_neg (Nat.not_lt.2 (Nat.succ_le_succ h2))
      obtain ⟨f1, f2, f3, f4⟩ := endSessionCore_fails hq hx hf
      rw [pschedEvent_psched_records, pschedEvent_bmon, pschedEvent_nctl]
      exact ⟨by rw [f1]; exact hf, f2, f3, f4⟩
    · have hw : (s.psched.records[x.bay].afterEnd .expired 0).state = .waiting := if_pos (Nat.succ_lt_succ h2)
      rw [hw] at hst
      rw [hrec]
      exact hst

theorem cut_ne_watch {p : DataPath} (h : p = .cut) : p ≠ .watch := by
  rw [h]
  decide

theorem faultReached_watch {s : State} {b : Bay} {since : Nat} (hw : s.bmon[b].path = .watch)
    (ht : s.bmon[b].faultTimer = some since) (hdue : since + 800 ≤ s.now) : faultReached b s =
      consider (raise .bayFault (s.setEntry b { s.bmon[b] with path := .cut, faultTimer := none })) := by
  unfold faultReached
  rw [hw, ht, if_pos ⟨rfl, decide_eq_true hdue⟩]

theorem faultReached_joined {s : State} {b : Bay} {since : Nat} (hw : s.bmon[b].path = .joined)
    (ht : s.bmon[b].faultTimer = some since) (hdue : since + 800 ≤ s.now) :
    faultReached b s = consider (match s.bmon[b].joined with
      | some c => pschedLineEvent b c .linkFault
          (raise .bayFault (s.setEntry b { s.bmon[b] with path := .cut, faultTimer := none }))
      | none => raise .bayFault (s.setEntry b { s.bmon[b] with path := .cut, faultTimer := none })) := by
  unfold faultReached
  rw [hw, ht, if_pos ⟨rfl, decide_eq_true hdue⟩]
  cases s.bmon[b].joined <;> rfl

theorem pschedLineEvent_other {s : State} {b : Bay} {c : Chan} (o : SessionOutcome)
    (h : ∀ x : Session, s.psched.channels[c].session = some x → x.bay ≠ b) :
    pschedLineEvent b c o s = pschedEvent id s := by
  refine pschedEvent_congr ?_
  cases hx : s.psched.channels[c].session with
  | none => rfl
  | some x => exact if_neg (h x hx)

/-- A stuck line leaves the path CUT; a session on the channel ends LINK_FAULT. -/
theorem lineFault_entry {s : State} {b : Bay} (c : Chan) (hp : s.bmon[b].path = .cut) (hf : s.bmon[b].faultTimer = none) :
    (pschedLineEvent b c .linkFault s).bmon[b].path = .cut ∧
    (pschedLineEvent b c .linkFault s).bmon[b].faultTimer = none ∧
    s.nctl.noted (pschedLineEvent b c .linkFault s).nctl ∧
    ∀ x : Session, s.psched.channels[c].session = some x → x.bay = b →
      (pschedLineEvent b c .linkFault s).bmon[b].joined = none ∧
      (pschedLineEvent b c .linkFault s).psched.records[b] = s.psched.records[b].afterEnd .linkFault 0 := by
  have hun : s.bmon[b].pathUnjoined = .cut := if_pos hp
  by_cases h : ∃ x, s.psched.channels[c].session = some x ∧ x.bay = b
  · obtain ⟨x, hx, rfl⟩ := h
    have hclosed : (sessionClosed c x .linkFault 0 s).bmon[x.bay].path ≠ .watch := by
      rw [sessionClosed_entry, if_pos rfl]
      exact cut_ne_watch hun
    obtain ⟨h1, h2⟩ := endSessionCore_settles hx (.inr hclosed)
    rw [pschedLineEvent_session .linkFault hx rfl, pschedEvent_bmon, pschedEvent_psched_records, pschedEvent_nctl, h1,
      h2, hun]
    exact ⟨rfl, hf, (event_noted _ _).trans (endSessionCore_noted hx _ _), fun y hy _ => ⟨rfl, rfl⟩⟩
  · rw [pschedLineEvent_other .linkFault fun x hx hb => h ⟨x, hx, hb⟩, pschedEvent_bmon, pschedEvent_nctl]
    exact ⟨hp, hf, .refl _, fun x hx hb => absurd ⟨x, hx, hb⟩ h⟩

/-- Settles O35. -/
theorem faultLevelCutsThePath : Obligations.FaultLevelCutsThePath := by
  intro s b since ht hdue hpath
  have hframe : s.changedOnly (.notices :: considerParts) (faultReached b s) :=
    (faultReached_frame b s).mono (by decide)
  have hent : (raise .bayFault (s.setEntry b { s.bmon[b] with path := .cut, faultTimer := none })).bmon[b] =
      { s.bmon[b] with path := .cut, faultTimer := none } := by
    rw [raise_bmon, setEntry_entry_self]
  rcases hpath with hw | hj
  · have heq := faultReached_watch hw ht hdue
    obtain ⟨-, h2⟩ := consider_untouched (b := b)
      (s := raise .bayFault (s.setEntry b { s.bmon[b] with path := .cut, faultTimer := none }))
      (.inr (cut_ne_watch (by rw [hent])))
    rw [hent] at h2
    refine ⟨_, congrArg Host.Outcome.next heq, by rw [h2], by rw [h2], fun hc => ?_, fun _ => heq ▸ hframe,
      fun c x h => absurd (hw.symm.trans h) (by decide), heq ▸ hframe⟩
    exact raise_request .bayFault (s := s) (by rw [consider_nctl, raise_nctl, setEntry_nctl, raise_nctl]) hc
  · have heq := faultReached_joined hj ht hdue
    have hcut := fun c => lineFault_entry c (b := b)
      (s := raise .bayFault (s.setEntry b { s.bmon[b] with path := .cut, faultTimer := none }))
      (by rw [hent]) (by rw [hent])
    have hraise : s.nctl.sources[(4 : Fin 16)].capture = true → ∀ n : Nctl,
        (raise .bayFault (s.setEntry b { s.bmon[b] with path := .cut, faultTimer := none })).nctl.noted n →
          n.sources[(4 : Fin 16)].request = true := fun hc n hn =>
      raised_of_noted .bayFault (.refl s.nctl) (by rwa [raise_nctl, setEntry_nctl] at hn) hc
    cases hc : s.bmon[b].joined with
    | none =>
      rw [hc] at heq
      obtain ⟨-, h2⟩ := consider_untouched (b := b)
        (s := raise .bayFault (s.setEntry b { s.bmon[b] with path := .cut, faultTimer := none }))
        (.inr (cut_ne_watch (by rw [hent])))
      rw [hent] at h2
      refine ⟨_, congrArg Host.Outcome.next heq, by rw [h2], by rw [h2], fun hc => hraise hc _ (.of_eq (consider_nctl _)),
        fun _ => heq ▸ hframe, fun c x _ h => absurd h (by simp), heq ▸ hframe⟩
    | some c =>
      rw [hc] at heq
      obtain ⟨h1, h2, h3, h4⟩ := hcut c
      obtain ⟨u1, u2⟩ := consider_untouched (b := b) (s := pschedLineEvent b c .linkFault
        (raise .bayFault (s.setEntry b { s.bmon[b] with path := .cut, faultTimer := none })))
        (.inr (cut_ne_watch h1))
      refine ⟨_, congrArg Host.Outcome.next heq, by rw [u2]; exact h1, by rw [u2]; exact h2,
        fun hc => hraise hc _ (by rw [consider_nctl]; exact h3), fun _ => heq ▸ hframe, fun d x _ hd hx hb => ?_,
        heq ▸ hframe⟩
      obtain rfl : c = d := Option.some.inj hd
      obtain ⟨g1, g2⟩ := h4 x (by rw [raise_psched, setEntry_psched]; exact hx) hb
      rw [raise_psched, setEntry_psched] at g2
      refine ⟨by rw [u2]; exact g1, ?_, ?_⟩
      · rw [u1, g2]
        rfl
      · rw [u1, g2]
        rfl

end Sys2Proof.Machine
end

section
/-! PROOF. The entry to STANDALONE and the return to ATTENDED (R88, R89), and the events at SMON that lead to them. -/

namespace Sys2Proof.Machine

-- One declaration after the other: the check compiles the whole text within a memory bound.
set_option Elab.async false

/-! ## What the loss of a session leaves -/

/-- A record whose session ended HOST_LOST (Table 4-4). -/
def ProvRecord.lost (r : ProvRecord) : ProvRecord := { r with state := .waiting, lastOutcome := some .hostLost }

/-- A bay entry after an unjoin report (R20). -/
def BayEntry.unjoined (e : BayEntry) : BayEntry :=
  { e with
    path := e.pathUnjoined, joined := none, silence := none
    faultTimer := if e.pathUnjoined = .dark then none else e.faultTimer }

/-- A channel whose session, if it had one, ended HOST_LOST. -/
def Channel.lost (x : Channel) : Channel :=
  match x.session with
  | some y => { session := none, lastEnded := some { bay := y.bay, outcome := .hostLost } }
  | none => x

theorem lost_lost (r : ProvRecord) : r.lost.lost = r.lost := rfl

theorem unjoined_pathUnjoined (e : BayEntry) : e.unjoined.pathUnjoined = e.pathUnjoined := by
  cases hp : e.path <;> by_cases ho : e.occupancy = .present <;>
    simp [BayEntry.pathUnjoined, BayEntry.unjoined, hp, ho]

theorem unjoined_unjoined (e : BayEntry) : e.unjoined.unjoined = e.unjoined := by
  have h := unjoined_pathUnjoined e
  unfold BayEntry.unjoined at *
  rw [h]
  dsimp only
  by_cases hd : e.pathUnjoined = .dark
  · rw [if_pos hd, if_pos hd]
  · rw [if_neg hd, if_neg hd]

/-- `t` is `s`, in STANDALONE, with the sessions on the channels `cs` lost. -/
structure State.Lost (s : State) (cs : List Chan) (t : State) : Prop where
  mode : t.psched.mode = s.psched.mode
  channels : ∀ c : Chan, t.psched.channels[c] =
    if c ∈ cs then s.psched.channels[c].lost else s.psched.channels[c]
  records : ∀ b : Bay, t.psched.records[b] =
    if ∃ c ∈ cs, s.psched.bayOf c = some b then s.psched.records[b].lost else s.psched.records[b]
  entries : ∀ b : Bay, t.bmon[b] = if ∃ c ∈ cs, s.psched.bayOf c = some b then s.bmon[b].unjoined else s.bmon[b]
  queue : t.psched.queue = s.psched.queue ++ cs.filterMap s.psched.bayOf
  noted : s.nctl.noted t.nctl
  raised : ∀ c ∈ cs, s.psched.channels[c].session.isSome = true → s.nctl.sources[(12 : Fin 16)].capture = true →
    t.nctl.sources[(12 : Fin 16)].request = true

theorem State.Lost.refl (s : State) : s.Lost [] s :=
  ⟨rfl, fun c => by simp, fun b => by simp, fun b => by simp, by simp, .refl _, fun c h => absurd h (by simp)⟩

theorem endSessionCore_lost (c : Chan) {s : State} (hm : s.psched.mode = .standalone) :
    s.Lost [c] (endSessionCore c .hostLost 0 s) := by
  have hone : ∀ b : Bay, (∃ d ∈ [c], s.psched.bayOf d = some b) ↔ s.psched.bayOf c = some b := fun b => by simp
  cases hx : s.psched.channels[c].session with
  | none =>
    have hb : s.psched.bayOf c = none := congrArg (Option.map Session.bay) hx
    rw [endSessionCore_idle hx]
    refine ⟨rfl, fun d => ?_, fun b => ?_, fun b => ?_, by simp [hb], .refl _, fun d hd h => ?_⟩
    · split
      · next h =>
        obtain rfl := List.mem_singleton.1 h
        unfold Channel.lost
        rw [hx]
      · rfl
    · rw [if_neg (by rw [hone, hb]; simp)]
    · rw [if_neg (by rw [hone, hb]; simp)]
    · obtain rfl := List.mem_singleton.1 hd
      rw [hx] at h
      exact absurd h (by decide)
  | some x =>
    have hb : s.psched.bayOf c = some x.bay := congrArg (Option.map Session.bay) hx
    have hid : ∀ u : State, u.psched.mode = .standalone → considerCore u = u := fun u hu => if_pos hu
    have hmode : (sessionClosed c x .hostLost 0 s).psched.mode = s.psched.mode :=
      (sessionClosed_frame c x .hostLost 0 s .provSettings (by decide)).1
    have hend : endSessionCore c .hostLost 0 s = endNotices s.psched.records[x.bay].lost
        (pass (sessionClosed c x .hostLost 0 s)) := by
      rw [endSessionCore_busy hx, hid _ (by rw [endNotices_psched, pass_psched, hmode, hm])]
      rfl
    have hpsched : (endSessionCore c .hostLost 0 s).psched = (sessionClosed c x .hostLost 0 s).psched := by
      rw [hend, endNotices_psched, pass_psched]
    have hbmon : (endSessionCore c .hostLost 0 s).bmon = (sessionClosed c x .hostLost 0 s).bmon := by
      rw [hend]
      unfold endNotices
      split <;> simp
    have hnoted := endSessionCore_noted hx .hostLost 0
    refine ⟨by rw [hpsched, hmode], fun d => ?_, fun b => ?_, fun b => ?_, ?_, (event_noted _ _).trans hnoted,
      fun _ _ _ hc => raised_of_noted .provDone (.refl _) hnoted hc⟩
    · rw [hpsched, sessionClosed_channel]
      by_cases hd : d = c
      · rw [if_pos hd, if_pos (by simp [hd]), hd]
        unfold Channel.lost
        rw [hx]
      · rw [if_neg hd, if_neg (by simp [hd])]
    · rw [hpsched, sessionClosed_record]
      by_cases h : b = x.bay
      · rw [if_pos h, if_pos (by rw [hone, hb, h]), h]
        rfl
      · rw [if_neg h, if_neg (by rw [hone, hb]; simpa using Ne.symm h)]
    · rw [hbmon, sessionClosed_entry]
      by_cases h : b = x.bay
      · have hl : ∃ d ∈ [c], s.psched.bayOf d = some b := (hone b).2 (by rw [hb, h])
        rw [if_pos h, if_pos hl, h]
        rfl
      · rw [if_neg h, if_neg (by rw [hone, hb]; simpa using Ne.symm h)]
    · rw [hpsched, sessionClosed_queue,
        if_pos (show (s.psched.records[x.bay].afterEnd .hostLost 0).state = .waiting from rfl)]
      simp [hb]

/-- The losses of channels add up. -/
theorem State.Lost.cons {s u t : State} {c : Chan} {cs : List Chan} (h : s.Lost [c] u) (h' : u.Lost cs t) (hc : c ∉ cs) :
    s.Lost (c :: cs) t := by
  have hch : ∀ d ∈ cs, u.psched.channels[d] = s.psched.channels[d] := fun d hd => by
    rw [h.channels, if_neg]
    rintro hm
    obtain rfl := List.mem_singleton.1 hm
    exact hc hd
  have hbay : ∀ d ∈ cs, u.psched.bayOf d = s.psched.bayOf d := fun d hd =>
    congrArg (fun y : Channel => y.session.map Session.bay) (hch d hd)
  have hex : ∀ b : Bay, (∃ d ∈ cs, u.psched.bayOf d = some b) ↔ ∃ d ∈ cs, s.psched.bayOf d = some b := fun b =>
    ⟨fun ⟨d, hd, e⟩ => ⟨d, hd, hbay d hd ▸ e⟩, fun ⟨d, hd, e⟩ => ⟨d, hd, (hbay d hd).trans e⟩⟩
  have hone : ∀ b : Bay, (∃ d ∈ [c], s.psched.bayOf d = some b) ↔ s.psched.bayOf c = some b := fun b => by simp
  have hcons : ∀ b : Bay, (∃ d ∈ c :: cs, s.psched.bayOf d = some b) ↔
      s.psched.bayOf c = some b ∨ ∃ d ∈ cs, s.psched.bayOf d = some b := fun b => by simp
  refine ⟨h'.mode.trans h.mode, fun d => ?_, fun b => ?_, fun b => ?_, ?_, h.noted.trans h'.noted, fun d hd hs hcap => ?_⟩
  · rw [h'.channels]
    by_cases hd : d ∈ cs
    · rw [if_pos hd, if_pos (List.mem_cons_of_mem _ hd), hch d hd]
    · rw [if_neg hd, h.channels]
      simp [hd]
  · simp only [h'.records, h.records, hex, hcons, hone]
    by_cases h1 : ∃ d ∈ cs, s.psched.bayOf d = some b <;> by_cases h2 : s.psched.bayOf c = some b <;>
      simp only [h1, h2, if_true, if_false, or_true, or_false, or_self, lost_lost]
  · simp only [h'.entries, h.entries, hex, hcons, hone]
    by_cases h1 : ∃ d ∈ cs, s.psched.bayOf d = some b <;> by_cases h2 : s.psched.bayOf c = some b <;>
      simp only [h1, h2, if_true, if_false, or_true, or_false, or_self, unjoined_unjoined]
  · rw [h'.queue, h.queue, List.filterMap_cons, List.filterMap_congr hbay, List.append_assoc]
    cases hb : s.psched.bayOf c <;> simp [hb]
  · rcases List.mem_cons.1 hd with rfl | hd
    · exact h'.noted.request (h.raised d (by simp) hs hcap)
    · exact h'.raised d hd (by rw [hch d hd]; exact hs) ((h.noted.capture 12).trans hcap)

theorem endSessions_lost (cs : List Chan) (hnd : cs.Nodup) {s : State} (hm : s.psched.mode = .standalone) :
    s.Lost cs (cs.foldl (fun t c => endSessionCore c .hostLost 0 t) s) := by
  induction cs generalizing s with
  | nil => exact .refl s
  | cons c cs ih =>
    obtain ⟨hc, hnd⟩ := List.nodup_cons.1 hnd
    have h1 := endSessionCore_lost c hm
    exact h1.cons (ih hnd (h1.mode.trans hm)) hc

/-! ## The entry to STANDALONE -/

/-- All sessions lost, said as Table 4-4 says it. -/
theorem losesSessions_of_lost {s u v t : State} (hb : u.bmon = s.bmon) (hr : u.psched.records = s.psched.records)
    (hq : u.psched.queue = s.psched.queue) (hc : u.psched.channels = s.psched.channels) (hn : s.nctl.noted u.nctl)
    (hm : u.psched.mode = .standalone) (h : u.Lost (List.finRange 4) v)
    (tb : t.bmon = v.bmon) (tm : t.psched.mode = v.psched.mode) (tr : t.psched.records = v.psched.records)
    (tq : t.psched.queue = v.psched.queue) (tc : t.psched.channels = v.psched.channels)
    (tn : t.nctl = v.nctl) : s.losesSessions t ∧ ∀ c : Chan, t.psched.channels[c].session = none := by
  have hbay : ∀ c, u.psched.bayOf c = s.psched.channels[c].session.map Session.bay := fun c => by
    unfold PSched.bayOf
    rw [hc]
  have hch : ∀ c : Chan, t.psched.channels[c] = (s.psched.channels[c]).lost := fun c => by
    rw [tc, h.channels, if_pos (List.mem_finRange c), hc]
  have hsome : ∀ (c : Chan) (x : Session), s.psched.channels[c].session = some x →
      ∃ d ∈ List.finRange 4, u.psched.bayOf d = some x.bay := fun c x hx =>
    ⟨c, List.mem_finRange c, by rw [hbay, hx]; rfl⟩
  have hent : ∀ (c : Chan) (x : Session), s.psched.channels[c].session = some x →
      t.bmon[x.bay] = s.bmon[x.bay].unjoined := fun c x hx => by
    rw [tb, h.entries, if_pos (hsome c x hx), hb]
  refine ⟨⟨by rw [tm, h.mode, hm], fun c x hx => ⟨?_, ?_, ?_, ?_, ?_, fun hp hj => ?_, fun hcap => ?_⟩, fun c hx => ?_,
    fun b hno => ?_, ?_⟩, fun c => ?_⟩
  · rw [hch, Channel.lost, hx]
  · rw [tr, h.records, if_pos (hsome c x hx), hr]
    rfl
  · rw [hent c x hx]
    rfl
  · rw [hent c x hx]
    rfl
  · rw [hent c x hx]
    exact pathUnjoined_ne_joined _
  · rw [hent c x hx]
    change s.bmon[x.bay].pathUnjoined = .watch
    rw [BayEntry.pathUnjoined, hj, if_neg (by decide), if_pos hp, if_pos rfl]
  · rw [tn]
    exact h.raised c (List.mem_finRange c) (by rw [hc, hx]; rfl) ((hn.capture 12).trans hcap)
  · rw [hch, Channel.lost, hx]
  · have hnone : ¬∃ d ∈ List.finRange 4, u.psched.bayOf d = some b := by
      rintro ⟨d, -, hd⟩
      rw [hbay, Option.map_eq_some_iff] at hd
      obtain ⟨x, hx, hxb⟩ := hd
      exact hno d x hx hxb
    rw [tr, h.records, if_neg hnone, hr, tb, h.entries, if_neg hnone, hb]
    exact ⟨rfl, rfl⟩
  · rw [tq, h.queue, hq]
    exact congrArg _ (List.filterMap_congr fun c _ => hbay c)
  · rw [hch, Channel.lost]
    cases hx : s.psched.channels[c].session with
    | none => exact hx
    | some x => rfl

/-! ## A change of mode at PALLOC and at PSCHED -/

theorem pallocMode_factor (m : Mode) (s : State) : (pallocMode m s).palloc.supervisionFactor =
    match m with
    | .attended => 4
    | .standalone => 3 := by
  cases m <;> simp [pallocMode, State.passed]

theorem factor_of_frame {s t : State} {l : List Part} (h : s.changedOnly l t) (hl : Part.limits ∉ l := by decide) :
    t.palloc.supervisionFactor = s.palloc.supervisionFactor := by
  have hs : t.palloc.settings = s.palloc.settings := h .limits hl
  have := congrArg PAlloc.supervisionFactor hs
  exact this

/-- The two orders in which PALLOC and PSCHED may take a change of mode. -/
theorem handMode_cases (m : Mode) (s : State) : ∃ u : State, s.changedOnly [.choices] u ∧ u.psched = s.psched ∧
    u.bmon = s.bmon ∧ u.nctl = s.nctl ∧
    (handMode m s = pschedMode m (pallocMode m u) ∨ handMode m s = pallocMode m (pschedMode m u)) :=
  ⟨s.withChoices (s.choices + 1), withChoices_frame _ _, rfl, rfl, rfl, eitherOrder_cases _ _ _⟩

theorem handMode_settles (m : Mode) (s : State) : (handMode m s).settled := by
  obtain ⟨u, -, -, -, -, h | h⟩ := handMode_cases m s <;> rw [h]
  · exact pschedMode_settled m (pass_settled _)
  · exact pass_settled _

theorem handMode_factor (m : Mode) (s : State) : (handMode m s).palloc.supervisionFactor =
    match m with
    | .attended => 4
    | .standalone => 3 := by
  obtain ⟨u, -, -, -, -, h | h⟩ := handMode_cases m s <;> rw [h]
  · rw [factor_of_frame (pschedMode_frame m _)]
    exact pallocMode_factor m u
  · exact pallocMode_factor m _

theorem pallocMode_psched (m : Mode) (s : State) : (pallocMode m s).psched = s.psched := by
  simp [pallocMode]

theorem pallocMode_bmon (m : Mode) (s : State) : (pallocMode m s).bmon = s.bmon := by
  simp [pallocMode]

theorem pallocMode_nctl (m : Mode) (s : State) : (pallocMode m s).nctl = s.nctl := by
  simp [pallocMode]

/-- The entry to STANDALONE ends every session HOST_LOST (R88), in either order of PALLOC and PSCHED. -/
theorem handMode_loses {s u : State} (hb : u.bmon = s.bmon) (hp : u.psched = s.psched) (hn : u.nctl = s.nctl) :
    s.losesSessions (handMode .standalone u) ∧ ∀ c : Chan, (handMode .standalone u).psched.channels[c].session = none := by
  have key : ∀ v t : State, v.bmon = s.bmon → v.psched = s.psched → v.nctl = s.nctl →
      t.bmon = (pschedLost v).bmon → t.psched = (pschedLost v).psched → t.nctl = (pschedLost v).nctl →
      s.losesSessions t ∧ ∀ c : Chan, t.psched.channels[c].session = none := by
    intro v t h1 h2 h3 t1 t2 t3
    refine losesSessions_of_lost (u := v.withPsched { v.psched with mode := .standalone }) h1
      (congrArg PSched.records h2 :) (congrArg PSched.queue h2 :) (congrArg PSched.channels h2 :) (.of_eq h3) rfl
      (endSessions_lost _ (List.nodup_finRange 4) rfl) ?_ ?_ ?_ ?_ ?_ ?_
    · rw [t1, pschedLost, pschedEvent_bmon]
    · rw [t2, pschedLost, pschedEvent_psched_mode]
    · rw [t2, pschedLost, pschedEvent_psched_records]
    · rw [t2, pschedLost, pschedEvent_psched_queue]
    · rw [t2, pschedLost, pschedEvent_psched_channels]
    · rw [t3, pschedLost, pschedEvent_nctl]
  obtain ⟨w, -, w1, w2, w3, h | h⟩ := handMode_cases .standalone u <;> rw [h]
  · refine key (pallocMode .standalone w) _ ?_ ?_ ?_ rfl rfl rfl
    · rw [pallocMode_bmon, w2, hb]
    · rw [pallocMode_psched, w1, hp]
    · rw [pallocMode_nctl, w3, hn]
  · refine key w _ (w2.trans hb) (w1.trans hp) (w3.trans hn) ?_ ?_ ?_
    · rw [pallocMode_bmon]
      rfl
    · rw [pallocMode_psched]
      rfl
    · rw [pallocMode_nctl]
      rfl

theorem SameGround.attended {s u : State} (g : s.SameGround u) :
    (s.withPsched { s.psched with mode := .attended }).SameGround
      (u.withPsched { u.psched with mode := .attended }) :=
  ⟨g.records, g.queue, g.channels, rfl, g.now, g.minute, g.paths, g.eligible⟩

theorem pschedReturn_considers (s : State) :
    (s.withPsched { s.psched with mode := .attended }).considers (pschedReturn s) :=
  considers_right (considerCore_considers _) (pschedEvent_psched_records _ _) (pschedEvent_psched_queue _ _)
    (pschedEvent_psched_channels _ _) (fun b => by rw [pschedReturn, pschedEvent_bmon]; exact ⟨rfl, rfl, rfl, rfl⟩)
    fun c x _ h => by rw [pschedReturn, pschedEvent_palloc]; exact h

/-- The return to ATTENDED considers a grant (R89), in either order of PALLOC and PSCHED. -/
theorem handMode_considers {s u : State} (g : s.SameGround u) :
    (s.withPsched { s.psched with mode := .attended }).considers (handMode .attended u) := by
  obtain ⟨w, hw, -, -, -, h | h⟩ := handMode_cases .attended u <;> rw [h]
  · have hf := (hw.mono (m := .choices :: .limits :: passParts) (by decide)).then (pallocMode_frame .attended w)
    exact considers_left (SameGround.attended (g.trans (SameGround.of_frame hf))) (pschedReturn_considers _)
  · exact considers_left (SameGround.attended (g.trans (SameGround.of_frame hw)))
      (considers_then_pass (pschedReturn_considers w) ((setPalloc_frame _ _).mono (by decide)))

theorem handMode_attended_nctl (s : State) : (handMode .attended s).nctl = s.nctl := by
  have hret : ∀ w : State, (pschedMode .attended w).nctl = w.nctl := fun w => by
    rw [pschedMode, pschedReturn, pschedEvent_nctl, considerCore_nctl]
    rfl
  obtain ⟨w, -, -, -, hw, h | h⟩ := handMode_cases .attended s <;> rw [h]
  · rw [hret, pallocMode_nctl, hw]
  · rw [pallocMode_nctl, hret, hw]

theorem handMode_mode (m : Mode) (s : State) : (handMode m s).psched.mode = m := by
  have hmode : ∀ w : State, (pschedMode m w).psched.mode = m := fun w => by
    cases m with
    | attended =>
      rw [pschedMode, pschedReturn, pschedEvent_psched_mode]
      exact (considerCore_frame _ .provSettings (by decide)).1
    | standalone =>
      rw [pschedMode, pschedLost, pschedEvent_psched_mode]
      exact (endSessions_lost _ (List.nodup_finRange 4) rfl).mode
  obtain ⟨w, -, -, -, -, h | h⟩ := handMode_cases m s <;> rw [h]
  · exact hmode _
  · rw [pallocMode_psched]
    exact hmode w

theorem handMode_smon (m : Mode) (s : State) : (handMode m s).smon = s.smon := smon_of_frame (handMode_frame m s)

theorem handMode_swm (m : Mode) (s : State) : (handMode m s).swm.heartbeatWord = s.swm.heartbeatWord :=
  (handMode_frame m s .words (by decide)).2

/-! ## The heartbeat window (R149 to R153) -/

theorem hostLateOutstanding_iff (n : Nctl) : n.hostLateOutstanding = true ↔
    n.sources[(2 : Fin 16)].request = true ∨ n.sources[(2 : Fin 16)].inService = true := by
  simp [Nctl.hostLateOutstanding, Notice.index]

/-- A first failure raises HOST_LATE and begins a window (R150, R151). -/
theorem failure_first {s : State} (f : HeartbeatFailure) (hr : s.nctl.sources[(2 : Fin 16)].request = false)
    (hi : s.nctl.sources[(2 : Fin 16)].inService = false) : failure f s = raise .hostLate (s.setSmon
      { s.smon with
        lastFailure := some f
        phase := match f with
          | .early => s.smon.firstPhase
          | .late => .opened
        since := some s.now }) := by
  have h : ¬s.nctl.hostLateOutstanding = true := by
    rw [hostLateOutstanding_iff, hr, hi]
    decide
  unfold failure
  dsimp only
  rw [if_neg h]
  cases f <;> rfl

/-- A second failure enters STANDALONE (R152). -/
theorem failure_second {s : State} (f : HeartbeatFailure) (h : s.nctl.sources[(2 : Fin 16)].request = true ∨
    s.nctl.sources[(2 : Fin 16)].inService = true) : failure f s = handMode .standalone (s.setSmon
      { s.smon with lastFailure := some f, mode := .standalone, phase := .stopped, since := none }) := by
  unfold failure
  dsimp only
  rw [if_pos ((hostLateOutstanding_iff _).2 h)]
  rfl

theorem firstFailure_frame (m : Smon) (s : State) : s.changedOnly [.smon, .counts, .notices] (raise .hostLate (s.setSmon m)) :=
  ((setSmon_frame m s).mono (by decide)).then (raise_frame _ _)

/-- Settles O46. -/
theorem heartbeatWindowExpires : Obligations.HeartbeatWindowExpires := by
  intro s w hw
  have hexp : s.smon.phase = .opened → w + 1000 * s.smon.maximum ≤ s.now → windowTimeExpires s = failure .late s := by
    intro hp hd
    exact if_pos ⟨hp, by rw [hw]; exact decide_eq_true hd⟩
  refine ⟨fun hp hd => ?_, fun hp hd hr hi => ?_, fun hp hd ho => ?_⟩
  · have heq : closedPhaseEnds s = s.setSmon { s.smon with phase := .opened } :=
      if_pos ⟨hp, by rw [hw]; exact decide_eq_true hd⟩
    exact ⟨_, congrArg Host.Outcome.next heq, by simp, setSmon_frame _ _⟩
  · have heq := (hexp hp hd).trans (failure_first .late hr hi)
    refine ⟨_, congrArg Host.Outcome.next heq, by simp, fun hc => ?_, firstFailure_frame _ s⟩
    exact raised_of_noted .hostLate (.refl s.nctl) (.of_eq (by simp)) hc
  · have heq := (hexp hp hd).trans (failure_second .late ho)
    obtain ⟨hl, hnone⟩ := handMode_loses (s := s) (u := s.setSmon
      { s.smon with lastFailure := some .late, mode := .standalone, phase := .stopped, since := none })
      (by simp) (by simp) (by simp)
    refine ⟨_, congrArg Host.Outcome.next heq, by rw [handMode_smon, setSmon_smon], handMode_mode _ _,
      handMode_factor .standalone _, handMode_settles _ _, hnone, hl, ?_⟩
    exact ((setSmon_frame _ s).mono (by decide)).then (handMode_frame _ _)

/-- The return to ATTENDED (R153). -/
theorem returnAttended_returns {s v : State} (m : Smon) (g : s.SameGround v) (hn : v.nctl = s.nctl) :
    (returnAttended m v).smon = { m with mode := .attended } ∧ (returnAttended m v).psched.mode = .attended ∧
    (returnAttended m v).palloc.supervisionFactor = 4 ∧ (returnAttended m v).settled ∧
    (s.withPsched { s.psched with mode := .attended }).considers (returnAttended m v) ∧
    (s.nctl.sources[(3 : Fin 16)].capture = true →
      (returnAttended m v).nctl.sources[(3 : Fin 16)].request = true) ∧
    v.changedOnly heartbeatParts (returnAttended m v) := by
  have hf : v.changedOnly [.smon, .counts, .notices] (raise .hostRestored (v.setSmon { m with mode := .attended })) :=
    ((setSmon_frame _ v).mono (by decide)).then (raise_frame _ _)
  refine ⟨by rw [returnAttended, handMode_smon]; simp, handMode_mode _ _, handMode_factor .attended _,
    handMode_settles _ _, handMode_considers (g.trans (SameGround.of_frame hf)), fun hc => ?_, returnAttended_frame m v⟩
  refine raised_of_noted .hostRestored (.of_eq hn) (.of_eq ?_) hc
  rw [returnAttended, handMode_attended_nctl, raise_nctl, setSmon_nctl]

/-- Settles O23. -/
theorem heartbeatIsRuledByWindow : Obligations.HeartbeatIsRuledByWindow := by
  intro s v hr
  have hw : s.changedOnly [.words] (s.withSwm { s.swm with heartbeatWord := v }) :=
    withSwm_words_frame _ s ⟨rfl, rfl, rfl, rfl, rfl, rfl, rfl⟩
  have heq := writeBurst_heartbeat hr v
  have hword : (heartbeat (s.withSwm { s.swm with heartbeatWord := v })).swm.heartbeatWord = v :=
    (heartbeat_frame _ .words (by decide)).2
  refine ⟨_, congrArg Host.Outcome.next heq, hword, fun hp hm => ?_, fun hp => ?_, fun hp h1 h2 => ?_, fun hp h => ?_,
    fun hp hm => ?_⟩
  · have h : heartbeat (s.withSwm { s.swm with heartbeatWord := v }) = s.withSwm { s.swm with heartbeatWord := v } := by
      simp [heartbeat, hp, hm]
    rw [h]
    exact hw
  · have h : heartbeat (s.withSwm { s.swm with heartbeatWord := v }) = (s.withSwm { s.swm with heartbeatWord := v }).setSmon
        (s.smon.begin s.smon.firstPhase s.now) := by
      simp [heartbeat, hp]
    rw [h]
    exact ⟨(hw.mono (by decide)).then (setSmon_frame _ _), by simp [Smon.begin, Smon.firstPhase]⟩
  · have h : heartbeat (s.withSwm { s.swm with heartbeatWord := v }) =
        failure .early (s.withSwm { s.swm with heartbeatWord := v }) := by
      simp [heartbeat, hp]
    rw [h.trans (failure_first (s := s.withSwm { s.swm with heartbeatWord := v }) .early h1 h2)]
    refine ⟨(hw.mono (by decide)).then (firstFailure_frame _ _), by rw [raise_smon, setSmon_smon]; rfl, fun hc => ?_⟩
    exact raised_of_noted .hostLate (.refl s.nctl) (.of_eq (by simp)) hc
  · have hh : heartbeat (s.withSwm { s.swm with heartbeatWord := v }) =
        failure .early (s.withSwm { s.swm with heartbeatWord := v }) := by
      simp [heartbeat, hp]
    have hsec := hh.trans (failure_second (s := s.withSwm { s.swm with heartbeatWord := v }) .early h)
    obtain ⟨hl, hnone⟩ := handMode_loses (s := s) (u := (s.withSwm { s.swm with heartbeatWord := v }).setSmon
      { s.smon with lastFailure := some .early, mode := .standalone, phase := .stopped, since := none })
      (by simp) (by simp) (by simp)
    rw [hsec]
    refine ⟨by rw [handMode_smon, setSmon_smon]; rfl, handMode_mode _ _,
      handMode_factor .standalone _, handMode_settles _ _, hnone, hl, ?_⟩
    exact ((hw.mono (by decide)).then (setSmon_frame _ _)).then (handMode_frame _ _)
  · have h : heartbeat (s.withSwm { s.swm with heartbeatWord := v }) = returnAttended
        (s.smon.begin s.smon.firstPhase s.now) (s.withSwm { s.swm with heartbeatWord := v }) := by
      simp [heartbeat, hp, hm]
    obtain ⟨r1, r2, r3, r4, r5, r6, r7⟩ := returnAttended_returns (s.smon.begin s.smon.firstPhase s.now)
      (SameGround.of_frame hw) rfl
    rw [h]
    exact ⟨by rw [r1]; simp [Smon.begin, Smon.firstPhase], r2, r3, r4, r5, r6, (hw.mono (by decide)).then r7⟩

end Sys2Proof.Machine
end

section
/-! PROOF. The part-written pages (Tables 11-1 to 11-9, R179): each block's bytes lie where the tables put them. -/

namespace Sys2Proof.Machine

-- One declaration after the other: the check compiles the whole text within a memory bound.
set_option Elab.async false

/-! ## Bytes of a record -/

theorem byteIn_append_left {xs ys : List Byte} {i : Nat} (h : i < xs.length) : byteIn (xs ++ ys) i = byteIn xs i := by
  simp [byteIn, List.getElem?_append_left h]

theorem byteIn_append_right (xs ys : List Byte) {m : Nat} (h : xs.length = m) (i : Nat) :
    byteIn (xs ++ ys) (m + i) = byteIn ys i := by
  subst h
  simp [byteIn, List.getElem?_append_right]

theorem byteIn_beyond {xs : List Byte} {i : Nat} (h : xs.length ≤ i) : byteIn xs i = 0 := by
  simp [byteIn, h]

theorem byteIn_leBytes {n i : Nat} (v : Nat) (h : i < n) : byteIn (leBytes n v) i = byteOf (v / 256 ^ i) := by
  induction n generalizing v i with
  | zero => omega
  | succ n ih =>
    cases i with
    | zero => simp [leBytes, byteIn]
    | succ i =>
      have := ih (v := v / 256) (i := i) (by omega)
      rw [Nat.div_div_eq_div_mul, ← pow_succ'] at this
      exact this

theorem byteIn_absent {n i : Nat} (h : i < n) : byteIn (absent n) i = 0xFF := by
  simp [byteIn, absent, h]

theorem byteIn_pad (n i : Nat) : byteIn (pad n) i = 0 := by
  by_cases h : i < n <;> simp [byteIn, pad, h]

/-- The `n` bytes of a list at `k` are those of a field. -/
def FieldAt (bs : List Byte) (k n : Nat) (v : Option Nat) : Prop :=
  ∀ i : Nat, i < n → byteIn bs (k + i) =
    (match v with
      | some x => byteOf (x / 256 ^ i)
      | none => 0xFF)

theorem byteIn_slice {bs ys : List Byte} {k n : Nat} (h : (bs.drop k).take n = ys) {i : Nat} (hi : i < n) :
    byteIn bs (k + i) = byteIn ys i := by
  subst h
  simp [byteIn, hi]

theorem FieldAt.of_slice {bs : List Byte} {k n : Nat} {v : Option Nat} (h : (bs.drop k).take n = optBytes n v) :
    FieldAt bs k n v := fun i hi => by
  rw [byteIn_slice h hi]
  cases v with
  | some x => exact byteIn_leBytes x hi
  | none => exact byteIn_absent hi

theorem FieldAt.left {xs : List Byte} {k n : Nat} {v : Option Nat} (h : FieldAt xs k n v) (hk : k + n ≤ xs.length)
    (ys : List Byte) : FieldAt (xs ++ ys) k n v := fun i hi => by
  rw [byteIn_append_left (by omega)]
  exact h i hi

theorem FieldAt.right {ys : List Byte} {k n m : Nat} {v : Option Nat} (h : FieldAt ys k n v) {xs : List Byte}
    (hm : xs.length = m) : FieldAt (xs ++ ys) (m + k) n v := fun i hi => by
  rw [Nat.add_assoc, byteIn_append_right _ _ hm]
  exact h i hi

/-- A list of records of `m` bytes each. -/
theorem byteIn_flatMap {α : Type} {l : List α} {f : α → List Byte} {m : Nat} (hm : ∀ a, (f a).length = m) {i j : Nat}
    (hi : i < l.length) (hj : j < m) : byteIn (l.flatMap f) (m * i + j) = byteIn (f l[i]) j := by
  induction l generalizing i with
  | nil => simp at hi
  | cons a l ih =>
    rw [List.flatMap_cons]
    cases i with
    | zero =>
      rw [Nat.mul_zero, Nat.zero_add, byteIn_append_left (by rw [hm]; exact hj)]
      rfl
    | succ i =>
      rw [Nat.mul_succ, Nat.add_comm (m * i), Nat.add_assoc, byteIn_append_right _ _ (hm a)]
      exact ih (by simpa using hi)

theorem byteIn_finRange {n : Nat} {f : Fin n → List Byte} {m : Nat} (hm : ∀ a, (f a).length = m) (i : Fin n) {j : Nat}
    (hj : j < m) : byteIn ((List.finRange n).flatMap f) (m * i.val + j) = byteIn (f i) j := by
  rw [byteIn_flatMap hm (by simp) hj]
  simp

/-! ## Where the pages lie (Table 9-2) -/

theorem byteAt_cart (s : State) {a : Nat} (h : a < 0x100) : s.byteAt a = byteIn s.cartPage a := if_pos h

theorem byteAt_header (s : State) (i : ListId) {p : Nat} (h : p < 0x20) :
    s.byteAt (0x0100 + 0x20 * i.val + p) = byteIn s.owalk[i].fields p := by
  match i with
  | 0 =>
    have h1 : ¬(0x0100 + 0x20 * (0 : ListId).val + p < 0x100) := by omega
    have h2 : 0x0100 + 0x20 * (0 : ListId).val + p < 0x120 := by simp; omega
    rw [State.byteAt, if_neg h1, if_pos h2]
    exact congrArg (byteIn _) (by simp)
  | 1 =>
    have h1 : ¬(0x0100 + 0x20 * (1 : ListId).val + p < 0x100) := by omega
    have h2 : ¬(0x0100 + 0x20 * (1 : ListId).val + p < 0x120) := by simp
    have h3 : 0x0100 + 0x20 * (1 : ListId).val + p < 0x140 := by simp; omega
    rw [State.byteAt, if_neg h1, if_neg h2, if_pos h3]
    exact congrArg (byteIn _) (by simp)

theorem byteAt_notice (s : State) {p : Nat} (h : p < 0xC0) : s.byteAt (0x0140 + p) = byteIn s.noticeBoard p := by
  rw [State.byteAt, if_neg (by omega), if_neg (by omega), if_neg (by omega), if_pos (by omega)]
  exact congrArg (byteIn _) (by omega)

theorem byteAt_bay (s : State) (b : Bay) {p : Nat} (h : p < 0x40) :
    s.byteAt (0x0200 + 0x40 * b.val + p) = byteIn (s.bayRecord b) p := by
  have hb : (⟨min ((0x0200 + 0x40 * b.val + p - 0x0200) / 0x40) 35, by omega⟩ : Bay) = b := Fin.ext (by simp; omega)
  rw [State.byteAt, if_neg (by omega), if_neg (by omega), if_neg (by omega), if_neg (by omega), dif_pos (by omega), hb]
  exact congrArg (byteIn _) (by omega)

theorem byteAt_slot (s : State) (j : Fin 48) {p : Nat} (h : p < 0x20) :
    s.byteAt (0x0B00 + 0x20 * j.val + p) = byteIn s.cust.slots[j].bytes p := by
  have hj : (⟨min ((0x0B00 + 0x20 * j.val + p - 0x0B00) / 0x20) 47, by omega⟩ : Fin 48) = j := Fin.ext (by simp; omega)
  rw [State.byteAt, if_neg (by omega), if_neg (by omega), if_neg (by omega), if_neg (by omega), dif_neg (by omega),
    dif_pos (by omega)]
  refine (congrArg (fun x : Fin 48 => byteIn s.cust.slots[x].bytes _) hj).trans (congrArg (byteIn _) ?_)
  omega

theorem byteAt_journal (s : State) (j : Fin 48) {p : Nat} (h : p < 0x20) :
    s.byteAt (0x1100 + 0x20 * j.val + p) = byteIn s.cust.journal[j].fields p := by
  have hj : (⟨min ((0x1100 + 0x20 * j.val + p - 0x1100) / 0x20) 47, by omega⟩ : Fin 48) = j := Fin.ext (by simp; omega)
  rw [State.byteAt, if_neg (by omega), if_neg (by omega), if_neg (by omega), if_neg (by omega), dif_neg (by omega),
    dif_neg (by omega), dif_pos (by omega)]
  refine (congrArg (fun x : Fin 48 => byteIn s.cust.journal[x].fields _) hj).trans (congrArg (byteIn _) ?_)
  omega

theorem byteAt_prov (s : State) {p : Nat} (h : p < 0x100) : s.byteAt (0x1700 + p) = byteIn s.provPage p := by
  rw [State.byteAt, if_neg (by omega), if_neg (by omega), if_neg (by omega), if_neg (by omega), dif_neg (by omega),
    dif_neg (by omega), dif_neg (by omega), if_pos (by omega)]
  exact congrArg (byteIn _) (by omega)

theorem byteAt_stored (s : State) {a : Nat} (h : 0x1800 ≤ a) : s.byteAt a = Memory.read s.swm.mem a := by
  rw [State.byteAt, if_neg (by omega), if_neg (by omega), if_neg (by omega), if_neg (by omega), dif_neg (by omega),
    dif_neg (by omega), dif_neg (by omega), if_neg (by omega)]

/-! ## Fields at their offsets -/

theorem shows_of_fieldAt {s : State} {bs : List Byte} {base k n : Nat} {v : Option Nat}
    (hb : ∀ p : Nat, p < k + n → s.byteAt (base + p) = byteIn bs p) (h : FieldAt bs k n v) : s.shows (base + k) n v :=
  fun i hi => by
    rw [Nat.add_assoc, hb (k + i) (by omega)]
    exact h i hi

theorem padded_of_slice {s : State} {bs : List Byte} {base k z : Nat}
    (hb : ∀ p : Nat, p < z → s.byteAt (base + p) = byteIn bs p) (h : (bs.drop k).take (z - k) = pad (z - k)) :
    s.padded (base + k) (base + z) := fun i h1 h2 => by
  obtain ⟨p, rfl⟩ := Nat.exists_eq_add_of_le (show base + k ≤ i by omega)
  have : base + k + p = base + (k + p) := by omega
  rw [this, hb _ (by omega), byteIn_slice h (by omega), byteIn_pad]

theorem padded_beyond {s : State} {bs : List Byte} {base k z : Nat}
    (hb : ∀ p : Nat, p < z → s.byteAt (base + p) = byteIn bs p) (h : bs.length ≤ k) :
    s.padded (base + k) (base + z) := fun i h1 h2 => by
  obtain ⟨p, rfl⟩ := Nat.exists_eq_add_of_le (show base + k ≤ i by omega)
  have : base + k + p = base + (k + p) := by omega
  rw [this, hb _ (by omega), byteIn_beyond (by omega)]

/-! ## The list headers and the notice board (Tables 11-8 and 11-9) -/

theorem orderList_fields_length (l : OrderList) : l.fields.length = 8 := by
  cases h : l.faultOffset <;> simp [OrderList.fields, leBytes, optBytes, absent, h]

theorem showsHeader (s : State) (i : ListId) : s.showsHeader i (0x0100 + 0x20 * i.val) := by
  have hb : ∀ p : Nat, p < 0x20 → s.byteAt (0x0100 + 0x20 * i.val + p) = byteIn s.owalk[i].fields p :=
    fun p hp => byteAt_header s i hp
  have hn : ∀ k n : Nat, k + n ≤ 0x20 → ∀ p, p < k + n →
      s.byteAt (0x0100 + 0x20 * i.val + p) = byteIn s.owalk[i].fields p := fun k n h p hp => hb p (by omega)
  refine ⟨hb 0 (by omega), hb 1 (by omega), ?_, hb 4 (by omega), ?_, ?_, ?_⟩
  · exact shows_of_fieldAt (hn 2 2 (by omega)) (.of_slice rfl)
  · refine shows_of_fieldAt (hn 5 1 (by omega)) (.of_slice ?_)
    generalize s.owalk[i] = l
    cases h : l.faultCode with
    | none => simp [OrderList.fields, leBytes, optBytes, absent, h]
    | some f => cases f <;> simp [OrderList.fields, leBytes, optBytes, h, byteOf, ListFault.code]
  · refine shows_of_fieldAt (hn 6 2 (by omega)) (.of_slice ?_)
    generalize s.owalk[i] = l
    cases h : l.faultOffset <;> simp [OrderList.fields, leBytes, optBytes, absent, h]
  · exact padded_beyond hb (orderList_fields_length _).le

theorem byteOf_toNat (v : Byte) : byteOf v.toNat = v := by simp [byteOf]

/-- An optional field of one byte (R179). -/
theorem optByte_eq {α : Type} (x : Option α) (f : α → Byte) (g : α → Nat) (h : ∀ a, byteOf (g a) = f a) :
    [(x.map f).getD 0xFF] = optBytes 1 (x.map g) := by
  cases x with
  | none => rfl
  | some a => simp [optBytes, leBytes, h]

theorem optByte_num (x : Option Nat) : [(x.map byteOf).getD 0xFF] = optBytes 1 x := by cases x <;> rfl

theorem optBytes_length (n : Nat) (v : Option Nat) : (optBytes n v).length = n := by
  cases v with
  | none => simp [optBytes, absent]
  | some x => exact leBytes_length n x

theorem pad_length (n : Nat) : (pad n).length = n := by simp [pad]

theorem causes_code (c : Causes) :
    c.code = byteOf ((if c.order then 1 else 0) + (if c.guard then 2 else 0)) := by
  rcases c with ⟨o, g⟩
  cases o <;> cases g <;> rfl

theorem showsNotices (s : State) : s.showsNotices := by
  have hb : ∀ p : Nat, p < 0xC0 → s.byteAt (0x0140 + p) = byteIn s.noticeBoard p := fun p hp => byteAt_notice s hp
  have hsrc : ∀ (i : Fin 16) (j : Nat), j < 4 →
      s.byteAt (0x0150 + 4 * i.val + j) = byteIn s.nctl.sources[i].bytes j := fun i j hj => by
    have h := hb (16 + (4 * i.val + j)) (by omega)
    rw [State.noticeBoard, byteIn_append_right _ _ (by simp [pad]),
      byteIn_finRange (m := 4) (fun _ => rfl) i hj] at h
    rw [← h]
    congr 1
    omega
  refine ⟨hb 0 (by omega), hb 1 (by omega), hb 2 (by omega), hb 3 (by omega), hb 4 (by omega), ?_, ?_,
    padded_of_slice (k := 7) (z := 0x10) (fun p hp => hb p (by omega)) rfl, fun i => ⟨hsrc i 0 (by omega), ?_, ?_, ?_⟩,
    padded_beyond (k := 0x50) hb ?_⟩
  · exact (hb 5 (by omega)).trans (causes_code _)
  · exact (hb 6 (by omega)).trans (causes_code _)
  · rw [show 0x0151 + 4 * i.val = 0x0150 + 4 * i.val + 1 by omega]
    exact hsrc i 1 (by omega)
  · rw [show 0x0152 + 4 * i.val = 0x0150 + 4 * i.val + 2 by omega]
    exact hsrc i 2 (by omega)
  · rw [show 0x0153 + 4 * i.val = 0x0150 + 4 * i.val + 3 by omega]
    exact hsrc i 3 (by omega)
  · simp [State.noticeBoard, NoticeSource.bytes, pad]

/-! ## The cart page (Table 11-2) -/

theorem foldl_add_if {α : Type} (p : α → Bool) (f : α → Nat) (l : List α) (n : Nat) :
    l.foldl (fun n b => if p b then n + f b else n) n = n + (l.map fun b => if p b then f b else 0).sum := by
  induction l generalizing n with
  | nil => rfl
  | cons a l ih =>
    rw [List.foldl_cons, ih, List.map_cons, List.sum_cons]
    split <;> omega

theorem grantSum_eq (p : PAlloc) (sel : Bay → Bool) :
    p.grantSum sel = ((List.finRange 36).map fun b => if sel b then p.bays[b].grant else 0).sum :=
  (foldl_add_if sel (fun b => p.bays[b].grant) _ 0).trans (Nat.zero_add _)

theorem foldl_count {α : Type} (p : α → Bool) (l : List α) (n : Nat) :
    l.foldl (fun n b => if p b then n + 1 else n) n = n + l.countP p := by
  induction l generalizing n with
  | nil => rfl
  | cons a l ih =>
    rw [List.foldl_cons, ih, List.countP_cons]
    split <;> omega

theorem recordCount_eq (c : Cust) : c.recordCount = (List.finRange 48).countP fun i => c.slots[i].record.isSome :=
  (foldl_count _ _ 0).trans (Nat.zero_add _)

theorem palloc_cartFields_length (p : PAlloc) : p.cartFields.length = 42 := rfl

theorem acc_cartFields_length (a : Acc) : a.cartFields.length = 8 := by
  simp [Acc.cartFields, leBytes_length, optBytes_length]

theorem cust_cartFields_length (c : Cust) : c.cartFields.length = 6 := rfl

theorem ldrv_cartFields_length (l : Ldrv) : l.cartFields.length = 5 := rfl

theorem smon_cartFields_length (m : Smon) : m.cartFields.length = 7 := rfl

theorem swm_cartFields_length (w : Swm) : w.cartFields.length = 2 := optBytes_length 2 _

section
variable (s : State) {k : Nat}

theorem byteAt_palloc (h : k < 42) : s.byteAt (0x02 + k) = byteIn s.palloc.cartFields k := by
  have hp := palloc_cartFields_length s.palloc
  have ha := acc_cartFields_length s.acc
  rw [byteAt_cart s (by omega), State.cartPage, byteIn_append_left, byteIn_append_left, byteIn_append_left,
    byteIn_append_left, byteIn_append_left, byteIn_append_right (m := 2) _ _ rfl]
  all_goals simp only [List.length_append, hp, ha, List.length_cons, List.length_nil]; omega

theorem byteAt_acc (h : k < 8) : s.byteAt (0x2C + k) = byteIn s.acc.cartFields k := by
  have hp := palloc_cartFields_length s.palloc
  have ha := acc_cartFields_length s.acc
  rw [byteAt_cart s (by omega), State.cartPage, byteIn_append_left, byteIn_append_left, byteIn_append_left,
    byteIn_append_left, byteIn_append_right (m := 0x2C) _ _ (by simp [hp])]
  all_goals simp only [List.length_append, hp, ha, List.length_cons, List.length_nil]; omega

theorem byteAt_cust (h : k < 6) : s.byteAt (0x34 + k) = byteIn s.cust.cartFields k := by
  have hp := palloc_cartFields_length s.palloc
  have ha := acc_cartFields_length s.acc
  have hc := cust_cartFields_length s.cust
  rw [byteAt_cart s (by omega), State.cartPage, byteIn_append_left, byteIn_append_left, byteIn_append_left,
    byteIn_append_right (m := 0x34) _ _ (by simp [hp, ha])]
  all_goals simp only [List.length_append, hp, ha, hc, List.length_cons, List.length_nil]; omega

theorem byteAt_ldrv (h : k < 5) : s.byteAt (0x3A + k) = byteIn s.ldrv.cartFields k := by
  have hp := palloc_cartFields_length s.palloc
  have ha := acc_cartFields_length s.acc
  have hc := cust_cartFields_length s.cust
  have hl := ldrv_cartFields_length s.ldrv
  rw [byteAt_cart s (by omega), State.cartPage, byteIn_append_left, byteIn_append_left,
    byteIn_append_right (m := 0x3A) _ _ (by simp [hp, ha, hc])]
  all_goals simp only [List.length_append, hp, ha, hc, hl, List.length_cons, List.length_nil]; omega

theorem byteAt_smon (h : k < 7) : s.byteAt (0x3F + k) = byteIn s.smon.cartFields k := by
  have hp := palloc_cartFields_length s.palloc
  have ha := acc_cartFields_length s.acc
  have hc := cust_cartFields_length s.cust
  have hl := ldrv_cartFields_length s.ldrv
  have hm := smon_cartFields_length s.smon
  rw [byteAt_cart s (by omega), State.cartPage, byteIn_append_left,
    byteIn_append_right (m := 0x3F) _ _ (by simp [hp, ha, hc, hl])]
  simp only [List.length_append, hp, ha, hc, hl, hm, List.length_cons, List.length_nil]
  omega

theorem byteAt_swm (h : k < 0xBA) : s.byteAt (0x46 + k) = byteIn s.swm.cartFields k := by
  rw [byteAt_cart s (by omega), State.cartPage, byteIn_append_right (m := 0x46)]
  simp [palloc_cartFields_length, acc_cartFields_length, cust_cartFields_length, ldrv_cartFields_length,
    smon_cartFields_length]

/-- PALLOC's part of the cart page, offsets 0x02 to 0x2B. -/
theorem shows_palloc {n : Nat} {v : Option Nat} (h : k + n ≤ 42) (hv : FieldAt s.palloc.cartFields k n v) :
    s.shows (0x02 + k) n v := shows_of_fieldAt (fun p hp => byteAt_palloc s (by omega)) hv

theorem shows_caps (h : Shelf) : s.shows (0x04 + 2 * h.val) 2 (some s.palloc.caps[h]) := by
  have hf : FieldAt s.palloc.cartFields (2 + 2 * h.val) 2 (some s.palloc.caps[h]) := by
    fin_cases h <;> exact .of_slice rfl
  have hs := shows_palloc s (by omega) hf
  rwa [show 0x02 + (2 + 2 * h.val) = 0x04 + 2 * h.val by omega] at hs

theorem shows_shelf (h : Shelf) : s.shows (0x20 + 2 * h.val) 2 (some (s.palloc.shelfTotal h)) := by
  have hf : FieldAt s.palloc.cartFields (30 + 2 * h.val) 2 (some (s.palloc.shelfTotal h)) := by
    fin_cases h <;> exact .of_slice rfl
  have hs := shows_palloc s (by omega) hf
  rwa [show 0x02 + (30 + 2 * h.val) = 0x20 + 2 * h.val by omega] at hs

end

/-- ACC's fields from offset 4 on, behind the field that may be absent. -/
theorem acc_cartFields_clock (a : Acc) : FieldAt a.cartFields 4 2 (a.clock.map CartClock.minute) ∧
    FieldAt a.cartFields 6 1 (a.clock.map CartClock.second) ∧ byteIn a.cartFields 7 = flagByte a.service := by
  cases h : a.clock with
  | none =>
    refine ⟨.of_slice ?_, .of_slice ?_, ?_⟩ <;> simp [Acc.cartFields, h, optBytes, absent, leBytes, byteIn]
  | some c =>
    refine ⟨.of_slice ?_, .of_slice ?_, ?_⟩ <;> simp [Acc.cartFields, h, optBytes, leBytes, byteIn]

theorem shows_clock (s : State) : s.shows 0x30 2 (s.acc.clock.map CartClock.minute) ∧
    s.shows 0x32 1 (s.acc.clock.map CartClock.second) := by
  obtain ⟨h1, h2, -⟩ := acc_cartFields_clock s.acc
  exact ⟨shows_of_fieldAt (base := 0x2C) (fun p hp => byteAt_acc s (by omega)) h1,
    shows_of_fieldAt (base := 0x2C) (fun p hp => byteAt_acc s (by omega)) h2⟩

theorem showsCart (s : State) : s.showsCart := by
  have hpal : ∀ {k : Nat} {v : Byte}, k < 42 → byteIn s.palloc.cartFields k = v → s.byteAt (0x02 + k) = v :=
    fun hk hv => (byteAt_palloc s hk).trans hv
  obtain ⟨hclock, hsecond⟩ := shows_clock s
  obtain ⟨-, -, hservice⟩ := acc_cartFields_clock s.acc
  have hbyte : ∀ p : Nat, p < 0x100 → s.byteAt (0 + p) = byteIn s.cartPage p := fun p hp => by
    rw [Nat.zero_add]
    exact byteAt_cart s hp
  refine ⟨byteAt_cart s (by omega), padded_of_slice (base := 0) (k := 1) (z := 2) (fun p hp => hbyte p (by omega)) rfl,
    shows_palloc s (k := 0) (by decide) (.of_slice rfl), shows_caps s, hpal (k := 14) (by decide) rfl,
    hpal (k := 15) (by decide) rfl, hpal (k := 16) (by decide) rfl, hpal (k := 17) (by decide) ?_,
    hpal (k := 18) (by decide) rfl, hpal (k := 19) (by decide) rfl, hpal (k := 20) (by decide) ?_,
    hpal (k := 21) (by decide) rfl, hpal (k := 22) (by decide) rfl,
    padded_of_slice (base := 0x02) (k := 23) (z := 24) (fun p hp => byteAt_palloc s (by omega)) rfl,
    shows_palloc s (k := 24) (by decide) (.of_slice rfl), fun n hn => ⟨?_, ?_⟩, fun h => ?_, ?_, ?_, ?_, hclock, hsecond,
    ?_, ?_, ?_, ?_, ?_, ?_, ?_, ?_, ?_, ?_, ?_, ?_, ?_, ?_, ?_, ?_⟩
  · change byteOf s.palloc.supply.factor = _
    cases s.palloc.supply <;> rfl
  · change (s.palloc.temp.map fun t => byteOf (t + 64).toNat).getD 0xFF = _
    cases s.palloc.temp <;> rfl
  · have ht : s.palloc.grantTotal = n := by rw [hn, PAlloc.grantTotal, grantSum_eq]; simp
    rw [← ht]
    exact shows_palloc s (k := 26) (by decide) (.of_slice rfl)
  · have ht : s.palloc.grantTotal = n := by rw [hn, PAlloc.grantTotal, grantSum_eq]; simp
    rw [← ht]
    exact shows_palloc s (k := 28) (by decide) (.of_slice rfl)
  · have hs := shows_shelf s h
    rw [PAlloc.shelfTotal, grantSum_eq] at hs
    simpa using hs
  · refine (byteAt_acc s (k := 0) (by decide)).trans ?_
    cases hk : s.acc.activeBank <;> simp [Acc.cartFields, byteIn, hk]
  · exact byteAt_acc s (k := 1) (by decide)
  · exact shows_of_fieldAt (base := 0x2C) (k := 2) (fun p hp => byteAt_acc s (by omega)) (.of_slice rfl)
  · exact (byteAt_acc s (k := 7) (by decide)).trans hservice
  · exact (byteAt_cust s (k := 0) (by decide)).trans (congrArg byteOf (recordCount_eq _))
  · exact padded_of_slice (base := 0x34) (k := 1) (z := 2) (fun p hp => byteAt_cust s (by omega)) rfl
  · exact shows_of_fieldAt (base := 0x34) (k := 2) (fun p hp => byteAt_cust s (by omega)) (.of_slice rfl)
  · exact byteAt_ldrv s (k := 0) (by decide)
  · exact byteAt_ldrv s (k := 1) (by decide)
  · exact shows_of_fieldAt (base := 0x3A) (k := 2) (fun p hp => byteAt_ldrv s (by omega)) (.of_slice rfl)
  · exact byteAt_ldrv s (k := 4) (by decide)
  · exact byteAt_smon s (k := 0) (by decide)
  · exact shows_of_fieldAt (base := 0x3F) (k := 1) (fun p hp => byteAt_smon s (by omega)) (.of_slice rfl)
  · exact byteAt_smon s (k := 3) (by decide)
  · exact byteAt_smon s (k := 4) (by decide)
  · refine (byteAt_smon s (k := 5) (by decide)).trans ?_
    cases hf : s.smon.lastFailure <;> simp [Smon.cartFields, byteIn, leBytes, hf]
  · exact byteAt_smon s (k := 6) (by decide)
  · refine shows_of_fieldAt (base := 0x46) (k := 0) (fun p hp => byteAt_swm s (by omega)) (.of_slice ?_)
    exact List.take_of_length_le (swm_cartFields_length s.swm).le
  · exact padded_beyond (base := 0x46) (k := 2) (z := 0xBA) (fun p hp => byteAt_swm s hp)
      (swm_cartFields_length s.swm).le

/-! ## The bay records (Table 11-3) -/

theorem entry_fields_length (e : BayEntry) : e.fields.length = 14 := by
  simp [BayEntry.fields, optBytes_length]

theorem requestState_code (l : Ldrv) (b : Bay) : (l.requestState b).code =
    byteOf ((if l.queued b then 1 else 0) + (if l.driving b then 2 else 0)) := by
  unfold Ldrv.requestState
  cases l.queued b <;> cases l.driving b <;> rfl

/-- BMON's fields behind the tag. -/
theorem byteIn_entry (e : BayEntry) (k : Nat) : byteIn e.fields (7 + k) = byteIn
    [e.door.code, (e.lastOpen.map OpenClass.code).getD 0xFF, e.latch.code, (e.level.map byteOf).getD 0xFF,
      (e.pool.map byteOf).getD 0xFF, e.path.code, (e.joined.map fun c => byteOf (c.val + 1)).getD 0xFF] k :=
  byteIn_append_right _ _ (by simp [optBytes_length]) k

theorem bayRecord_eq (s : State) (b : Bay) : s.bayRecord b = [s.swm.bayCounts[b]] ++ (s.bmon[b].fields ++ (pad 1 ++
    (s.palloc.bays[b].fields ++ (s.cctl[b].fields ++ (s.psched.records[b].fields ++ (s.ldrv.bayFields b ++
      reservationFields s.acc.reservations[b])))))) := by
  simp only [State.bayRecord, List.append_assoc]

section
variable (s : State) (b : Bay) {k : Nat}

theorem byteAt_bayEntry (h : k < 14) : s.byteAt (0x0200 + 0x40 * b.val + 0x01 + k) = byteIn s.bmon[b].fields k := by
  have he := entry_fields_length s.bmon[b]
  rw [Nat.add_assoc, byteAt_bay s b (by omega), bayRecord_eq, byteIn_append_right (m := 1) _ _ rfl,
    byteIn_append_left (by omega)]

/-- The fields of a bay record from offset 0x0F on. -/
theorem byteAt_bayRest (h : k < 0x31) : s.byteAt (0x0200 + 0x40 * b.val + 0x0F + k) = byteIn (pad 1 ++
    (s.palloc.bays[b].fields ++ (s.cctl[b].fields ++ (s.psched.records[b].fields ++ (s.ldrv.bayFields b ++
      reservationFields s.acc.reservations[b]))))) k := by
  rw [Nat.add_assoc, byteAt_bay s b (by omega), bayRecord_eq, show 0x0F + k = 1 + (14 + k) by omega,
    byteIn_append_right (m := 1) _ _ rfl, byteIn_append_right (m := 14) _ _ (entry_fields_length _)]

theorem byteAt_bayPower (h : k < 3) :
    s.byteAt (0x0200 + 0x40 * b.val + 0x10 + k) = byteIn s.palloc.bays[b].fields k := by
  have hr := byteAt_bayRest s b (k := 1 + k) (by omega)
  rw [byteIn_append_right (m := 1) _ _ rfl, byteIn_append_left (show k < (PowerBay.fields _).length from h)] at hr
  rw [← hr]
  congr 1
  omega

theorem byteAt_bayCharge (h : k < 6) : s.byteAt (0x0200 + 0x40 * b.val + 0x13 + k) = byteIn s.cctl[b].fields k := by
  have hr := byteAt_bayRest s b (k := 1 + (3 + k)) (by omega)
  rw [byteIn_append_right (m := 1) _ _ rfl, byteIn_append_right (m := 3) _ _ rfl,
    byteIn_append_left (show k < (ChargeBay.fields _).length from h)] at hr
  rw [← hr]
  congr 1
  omega

theorem byteAt_bayProv (h : k < 9) :
    s.byteAt (0x0200 + 0x40 * b.val + 0x19 + k) = byteIn s.psched.records[b].fields k := by
  have hr := byteAt_bayRest s b (k := 1 + (3 + (6 + k))) (by omega)
  rw [byteIn_append_right (m := 1) _ _ rfl, byteIn_append_right (m := 3) _ _ rfl,
    byteIn_append_right (m := 6) _ _ rfl, byteIn_append_left (show k < (ProvRecord.fields _).length from h)] at hr
  rw [← hr]
  congr 1
  omega

theorem byteAt_bayLatch (h : k < 2) : s.byteAt (0x0200 + 0x40 * b.val + 0x22 + k) = byteIn (s.ldrv.bayFields b) k := by
  have hr := byteAt_bayRest s b (k := 1 + (3 + (6 + (9 + k)))) (by omega)
  rw [byteIn_append_right (m := 1) _ _ rfl, byteIn_append_right (m := 3) _ _ rfl,
    byteIn_append_right (m := 6) _ _ rfl, byteIn_append_right (m := 9) _ _ rfl,
    byteIn_append_left (show k < (Ldrv.bayFields _ _).length from h)] at hr
  rw [← hr]
  congr 1
  omega

theorem byteAt_bayReservation (h : k < 0x1C) :
    s.byteAt (0x0200 + 0x40 * b.val + 0x24 + k) = byteIn (reservationFields s.acc.reservations[b]) k := by
  have hr := byteAt_bayRest s b (k := 1 + (3 + (6 + (9 + (2 + k))))) (by omega)
  rw [byteIn_append_right (m := 1) _ _ rfl, byteIn_append_right (m := 3) _ _ rfl,
    byteIn_append_right (m := 6) _ _ rfl, byteIn_append_right (m := 9) _ _ rfl,
    byteIn_append_right (m := 2) _ _ rfl] at hr
  rw [← hr]
  congr 1
  omega

end

theorem FieldAt.behind {xs ys : List Byte} {k n : Nat} {v : Option Nat} (hm : xs.length = k)
    (h : (ys.take n) = optBytes n v) : FieldAt (xs ++ ys) k n v :=
  FieldAt.right (k := 0) (.of_slice h) hm

theorem showsBay (s : State) (b : Bay) : s.showsBay b (0x0200 + 0x40 * b.val) := by
  have hent : ∀ (k n : Nat), k + n ≤ 14 → ∀ p, p < k + n →
      s.byteAt (0x0200 + 0x40 * b.val + 0x01 + p) = byteIn s.bmon[b].fields p := fun k n h p hp =>
    byteAt_bayEntry s b (by omega)
  have hopt : ∀ k n : Nat, ∀ v : Option Nat, k + n ≤ 7 → _ → s.shows (0x0200 + 0x40 * b.val + 0x01 + (7 + k)) n v :=
    fun k n v h hf => shows_of_fieldAt (hent (7 + k) n (by omega)) (FieldAt.right (k := k) hf (by simp [optBytes_length]))
  have hbyte : ∀ {k : Nat} {v : Byte}, k < 7 → _ = v → s.byteAt (0x0200 + 0x40 * b.val + 0x01 + (7 + k)) = v :=
    fun hk hv => (byteAt_bayEntry s b (by omega)).trans ((byteIn_entry s.bmon[b] _).trans hv)
  have hchg : ∀ {k n : Nat} {v : Option Nat}, k + n ≤ 6 → FieldAt s.cctl[b].fields k n v →
      s.shows (0x0200 + 0x40 * b.val + 0x13 + k) n v := fun hk hf =>
    shows_of_fieldAt (fun p hp => byteAt_bayCharge s b (by omega)) hf
  have hprov : ∀ {k n : Nat} {v : Option Nat}, k + n ≤ 9 → FieldAt s.psched.records[b].fields k n v →
      s.shows (0x0200 + 0x40 * b.val + 0x19 + k) n v := fun hk hf =>
    shows_of_fieldAt (fun p hp => byteAt_bayProv s b (by omega)) hf
  have hres : ∀ {k n : Nat} {v : Option Nat}, k + n ≤ 10 → FieldAt (reservationFields s.acc.reservations[b]) k n v →
      s.shows (0x0200 + 0x40 * b.val + 0x24 + k) n v := fun hk hf =>
    shows_of_fieldAt (fun p hp => byteAt_bayReservation s b (by omega)) hf
  refine ⟨byteAt_bay s b (p := 0) (by decide), byteAt_bayEntry s b (k := 0) (by decide), ?_,
    hbyte (k := 0) (by decide) rfl, hopt 1 1 _ (by decide) (.of_slice (optByte_eq _ _ _ fun _ => byteOf_toNat _)),
    hbyte (k := 2) (by decide) rfl, hopt 3 1 _ (by decide) (.of_slice ?_),
    hopt 4 1 _ (by decide) (.of_slice ?_), hbyte (k := 5) (by decide) rfl,
    hopt 6 1 _ (by decide) (.of_slice (optByte_eq _ _ _ fun _ => rfl)),
    ?_,
    byteAt_bayPower s b (k := 0) (by decide), byteAt_bayPower s b (k := 1) (by decide),
    byteAt_bayPower s b (k := 2) (by decide), byteAt_bayCharge s b (k := 0) (by decide),
    byteAt_bayCharge s b (k := 1) (by decide), byteAt_bayCharge s b (k := 2) (by decide), ?_,
    byteAt_bayCharge s b (k := 5) (by decide), byteAt_bayProv s b (k := 0) (by decide), ?_, ?_,
    byteAt_bayProv s b (k := 5) (by decide), ?_, byteAt_bayProv s b (k := 7) (by decide),
    byteAt_bayProv s b (k := 8) (by decide), (byteAt_bayLatch s b (k := 0) (by decide)).trans (requestState_code _ _),
    byteAt_bayLatch s b (k := 1) (by decide), ?_, ?_, ?_⟩
  · exact shows_of_fieldAt (k := 1) (hent 1 6 (by decide)) ((FieldAt.behind rfl
      (List.take_of_length_le (optBytes_length 6 _).le)).left (by simp [optBytes_length]) _)
  · exact optByte_num _
  · exact optByte_num _
  · intro i h1 h2
    obtain rfl : i = 0x0200 + 0x40 * b.val + 0x0F := by omega
    exact byteAt_bayRest s b (k := 0) (by decide)
  · exact hchg (k := 3) (by decide) (.of_slice rfl)
  · exact hprov (k := 1) (by decide) (.of_slice rfl)
  · exact hprov (k := 3) (by decide) (.of_slice rfl)
  · exact hprov (k := 6) (by decide) (.of_slice (optByte_eq _ _ _ fun _ => byteOf_toNat _))
  · exact hres (k := 0) (by decide)
      ((FieldAt.of_slice (List.take_of_length_le (optBytes_length 2 _).le)).left (by simp [optBytes_length]) _)
  · exact hres (k := 2) (by decide)
      (FieldAt.behind (optBytes_length 2 _) (List.take_of_length_le (optBytes_length 8 _).le))
  · exact padded_beyond (bs := reservationFields s.acc.reservations[b]) (base := 0x0200 + 0x40 * b.val + 0x24)
      (k := 0x0A) (z := 0x1C) (fun p hp => byteAt_bayReservation s b hp) (by simp [reservationFields, optBytes_length])

/-! ## The custody slots and the journal (Tables 11-4 and 11-5) -/

theorem optBay_eq (x : Option Bay) : [optBay x] = optBytes 1 (x.map fun b => b.val + 1) := by cases x <;> rfl

theorem custodyFields_length (r : Option CustodyRecord) : (custodyFields r).length = 19 := by
  cases r with
  | none => simp [custodyFields, absent]
  | some x => simp [custodyFields, optBytes_length, leBytes_length]

theorem byteAt_slotFields (s : State) (j : Fin 48) {k : Nat} (h : k < 0x1F) :
    s.byteAt (0x0B00 + 0x20 * j.val + 0x01 + k) = byteIn (custodyFields s.cust.slots[j].record) k := by
  rw [Nat.add_assoc, byteAt_slot s j (by omega)]
  exact byteIn_append_right [s.cust.slots[j].count] _ rfl k

/-- The fields of a custody record, each absent in a free slot. -/
theorem custodyFields_at (r : Option CustodyRecord) :
    FieldAt (custodyFields r) 0 1 (r.map fun r => r.state.code.toNat) ∧
    FieldAt (custodyFields r) 1 6 (r.map fun r => r.tag.toNat) ∧
    FieldAt (custodyFields r) 7 1 (r.bind fun r => r.bay.map fun b => b.val + 1) ∧
    FieldAt (custodyFields r) 8 1 (r.bind fun r => r.lastBay.map fun b => b.val + 1) ∧
    FieldAt (custodyFields r) 9 8 (r.bind fun r => r.holder.map BitVec.toNat) ∧
    FieldAt (custodyFields r) 17 2 (r.bind fun r => r.since) := by
  cases r with
  | none => refine ⟨?_, ?_, ?_, ?_, ?_, ?_⟩ <;> exact .of_slice rfl
  | some x =>
    refine ⟨.of_slice ?_, .of_slice rfl, .of_slice (optBay_eq _), .of_slice (optBay_eq _), ?_, ?_⟩
    · exact congrArg (fun v => [v]) (byteOf_toNat _).symm
    · exact (FieldAt.behind rfl (List.take_of_length_le (optBytes_length 8 _).le)).left
        (by simp [optBytes_length, leBytes_length]) _
    · exact FieldAt.behind (by simp [optBytes_length, leBytes_length])
        (List.take_of_length_le (optBytes_length 2 _).le)

theorem showsSlot (s : State) (j : Fin 48) : s.showsSlot j (0x0B00 + 0x20 * j.val) := by
  obtain ⟨h1, h2, h3, h4, h5, h6⟩ := custodyFields_at s.cust.slots[j].record
  have hs : ∀ {k n : Nat} {v : Option Nat}, k + n ≤ 0x1F → FieldAt (custodyFields s.cust.slots[j].record) k n v →
      s.shows (0x0B00 + 0x20 * j.val + 0x01 + k) n v := fun hk hf =>
    shows_of_fieldAt (fun p hp => byteAt_slotFields s j (by omega)) hf
  exact ⟨byteAt_slot s j (p := 0) (by decide), hs (by decide) h1, hs (by decide) h2, hs (by decide) h3,
    hs (by decide) h4, hs (by decide) h5, hs (by decide) h6,
    padded_beyond (bs := custodyFields s.cust.slots[j].record) (base := 0x0B00 + 0x20 * j.val + 0x01) (k := 19) (z := 31)
      (fun p hp => byteAt_slotFields s j (by omega)) (custodyFields_length _).le⟩

theorem journal_fields_length (e : JournalEntry) : e.fields.length = 24 := by
  simp [JournalEntry.fields, optBytes_length]

/-- The fields of a journal entry behind its four bytes. -/
theorem journalFields_at (e : JournalEntry) : FieldAt e.fields 4 4 e.sequence ∧
    FieldAt e.fields 8 6 (e.tag.map BitVec.toNat) ∧ FieldAt e.fields 14 8 (e.holder.map BitVec.toNat) ∧
    FieldAt e.fields 22 2 e.minute := by
  have hfields : e.fields = [e.state.code, (e.kind.map JournalKind.code).getD 0xFF, optBay e.bay,
      (e.misplaced.map flagByte).getD 0xFF] ++ (optBytes 4 e.sequence ++ (optBytes 6 (e.tag.map BitVec.toNat) ++
      (optBytes 8 (e.holder.map BitVec.toNat) ++ optBytes 2 e.minute))) := by
    simp only [JournalEntry.fields, List.append_assoc]
  have hfirst : ∀ (n : Nat) (v : Option Nat) (ys : List Byte), FieldAt (optBytes n v ++ ys) 0 n v := fun n v ys =>
    (FieldAt.of_slice (List.take_of_length_le (optBytes_length n v).le)).left (by simp [optBytes_length]) ys
  rw [hfields]
  refine ⟨.right (k := 0) (m := 4) (hfirst _ _ _) rfl,
    .right (k := 4) (m := 4) (.right (k := 0) (m := 4) (hfirst _ _ _) (optBytes_length 4 _)) rfl,
    .right (k := 10) (m := 4) (.right (k := 6) (m := 4) (.right (k := 0) (m := 6) (hfirst _ _ _)
      (optBytes_length 6 _)) (optBytes_length 4 _)) rfl,
    .right (k := 18) (m := 4) (.right (k := 14) (m := 4) (.right (k := 8) (m := 6) (.right (k := 0) (m := 8) ?_
      (optBytes_length 8 _)) (optBytes_length 6 _)) (optBytes_length 4 _)) rfl⟩
  exact .of_slice (List.take_of_length_le (optBytes_length 2 _).le)

theorem showsEntry (s : State) (j : Fin 48) : s.showsEntry j (0x1100 + 0x20 * j.val) := by
  have hs : ∀ {k n : Nat} {v : Option Nat}, k + n ≤ 0x20 → FieldAt s.cust.journal[j].fields k n v →
      s.shows (0x1100 + 0x20 * j.val + k) n v := fun hk hf =>
    shows_of_fieldAt (fun p hp => byteAt_journal s j (by omega)) hf
  obtain ⟨hseq, htag, hholder, hminute⟩ := journalFields_at s.cust.journal[j]
  refine ⟨byteAt_journal s j (p := 0) (by decide), hs (k := 1) (by decide) (.of_slice ?_),
    hs (k := 2) (by decide) (.of_slice ?_), hs (k := 3) (by decide) (.of_slice ?_), hs (by decide) hseq,
    hs (by decide) htag, hs (by decide) hholder, hs (by decide) hminute,
    padded_beyond (bs := s.cust.journal[j].fields) (base := 0x1100 + 0x20 * j.val) (k := 24) (z := 32)
      (fun p hp => byteAt_journal s j hp) (journal_fields_length _).le⟩
  · exact optByte_eq _ _ _ fun _ => byteOf_toNat _
  · exact optBay_eq _
  · exact optByte_eq _ _ _ fun b => by cases b <;> rfl

/-! ## The provisioning page (Tables 11-6 and 11-7) -/

theorem channel_fields_length (c : Channel) : c.fields.length = 10 := by
  cases h : c.session <;> cases h' : c.lastEnded <;>
    simp [Channel.fields, h, h', absent, optBytes_length, leBytes_length]

/-- The bytes of the provisioning page behind its change count. -/
theorem byteAt_page (s : State) {k : Nat} (h : k < 0xFF) :
    s.byteAt (0x1701 + k) = byteIn s.psched.pageFields k := by
  have := byteAt_prov s (p := 1 + k) (by omega)
  rw [State.provPage] at this
  rw [← byteIn_append_right [s.psched.pageCount] _ (m := 1) rfl k]
  rw [show 0x1701 + k = 0x1700 + (1 + k) by omega]
  exact this

theorem pageFields_eq (p : PSched) : p.pageFields =
    [p.mode.code, byteOf p.releaseThreshold, byteOf p.provMinimum, byteOf p.queue.length] ++ (pad 11 ++
    ((List.range 36).map (fun i => ((p.queue[i]?).map bayByte).getD 0xFF) ++ (pad 12 ++
    (List.finRange 4).flatMap (fun c => p.channels[c].fields ++ pad 22)))) := by
  simp only [PSched.pageFields, List.append_assoc]

theorem byteAt_channel (s : State) (c : Chan) {k : Nat} (h : k < 0x20) :
    s.byteAt (0x1740 + 0x20 * c.val + k) = byteIn (s.psched.channels[c].fields ++ pad 22) k := by
  have hp := byteAt_page s (k := 4 + (11 + (36 + (12 + (0x20 * c.val + k))))) (by omega)
  rw [pageFields_eq, byteIn_append_right (m := 4) _ _ rfl, byteIn_append_right (m := 11) _ _ (pad_length _),
    byteIn_append_right (m := 36) _ _ (by simp), byteIn_append_right (m := 12) _ _ (pad_length _),
    byteIn_finRange (m := 0x20) (fun a => by simp [channel_fields_length, pad_length]) c h] at hp
  rw [← hp]
  congr 1
  omega

theorem byteAt_queue (s : State) {i : Nat} (h : i < 36) :
    s.byteAt (0x1710 + i) = ((s.psched.queue[i]?).map bayByte).getD 0xFF := by
  have hp := byteAt_page s (k := 4 + (11 + i)) (by omega)
  rw [pageFields_eq, byteIn_append_right (m := 4) _ _ rfl, byteIn_append_right (m := 11) _ _ (pad_length _),
    byteIn_append_left (by simpa using h)] at hp
  rw [show 0x1710 + i = 0x1701 + (4 + (11 + i)) by omega, hp]
  simp [byteIn, h]

theorem showsProv (s : State) : s.showsProv := by
  refine ⟨byteAt_prov s (p := 0) (by decide), byteAt_page s (k := 0) (by decide), byteAt_page s (k := 1) (by decide),
    byteAt_page s (k := 2) (by decide), byteAt_page s (k := 3) (by decide),
    padded_of_slice (base := 0x1701) (k := 4) (z := 15) (fun p hp => byteAt_page s (by omega)) rfl, fun i hi => ?_,
    ?_, ?_⟩
  · intro k hk
    obtain rfl : k = 0 := by omega
    refine (byteAt_queue s hi).trans ?_
    cases s.psched.queue[i]? with
    | none => rfl
    | some b => simp [bayByte]
  · refine padded_of_slice (base := 0x1701) (k := 51) (z := 63) (fun p hp => byteAt_page s (by omega)) ?_
    rw [pageFields_eq]
    rfl
  · refine padded_beyond (base := 0x1701) (k := 0xBF) (z := 0xFF) (fun p hp => byteAt_page s (by omega)) ?_
    simp [pageFields_eq, pad_length, channel_fields_length]

/-- The fields of a channel, those of its session absent while it is IDLE. -/
theorem channelFields_at (c : Channel) :
    FieldAt c.fields 1 1 (c.session.map fun x => x.bay.val + 1) ∧
    FieldAt c.fields 2 2 (c.session.bind fun x => x.start) ∧
    FieldAt c.fields 4 2 (c.session.map fun x => x.wanted.toNat) ∧
    (FieldAt c.fields 6 1 (c.session.map fun x => x.sessionLimit) ∧
      FieldAt c.fields 7 1 (c.session.map fun x => x.silenceLimit)) ∧
    FieldAt c.fields 8 1 (c.lastEnded.map fun e => e.bay.val + 1) ∧
    FieldAt c.fields 9 1 (c.lastEnded.map fun e => e.outcome.code.toNat) := by
  have hlast : FieldAt (match c.lastEnded with
        | some e => [bayByte e.bay, e.outcome.code]
        | none => absent 2) 0 1 (c.lastEnded.map fun e => e.bay.val + 1) ∧
      FieldAt (match c.lastEnded with
        | some e => [bayByte e.bay, e.outcome.code]
        | none => absent 2) 1 1 (c.lastEnded.map fun e => e.outcome.code.toNat) := by
    cases c.lastEnded with
    | none => exact ⟨.of_slice rfl, .of_slice rfl⟩
    | some e => exact ⟨.of_slice rfl, .of_slice (congrArg (fun v => [v]) (byteOf_toNat _).symm)⟩
  cases h : c.session with
  | none =>
    simp only [Channel.fields, h]
    refine ⟨?_, ?_, ?_, ⟨?_, ?_⟩, hlast.1.right rfl, hlast.2.right rfl⟩ <;> exact .of_slice rfl
  | some x =>
    have hfields : c.fields = [1, bayByte x.bay] ++ (optBytes 2 x.start ++ (leBytes 2 x.wanted.toNat ++
        ([byteOf x.sessionLimit, byteOf x.silenceLimit] ++ (match c.lastEnded with
          | some e => [bayByte e.bay, e.outcome.code]
          | none => absent 2)))) := by
      simp only [Channel.fields, h, List.append_assoc] <;> rfl
    have hright : ∀ {ys : List Byte} {k n : Nat} {v : Option Nat}, FieldAt ys k n v →
        FieldAt ([1, bayByte x.bay] ++ (optBytes 2 x.start ++ (leBytes 2 x.wanted.toNat ++ ys))) (6 + k) n v :=
      fun hf => by
        have := ((hf.right (leBytes_length 2 x.wanted.toNat)).right (optBytes_length 2 x.start)).right
          (xs := [1, bayByte x.bay]) (m := 2) rfl
        rwa [← Nat.add_assoc, ← Nat.add_assoc] at this
    rw [hfields]
    refine ⟨.of_slice rfl, ?_, ?_, ⟨hright (k := 0) (.of_slice rfl), hright (k := 1) (.of_slice rfl)⟩,
      hright (k := 2) (hlast.1.right rfl), hright (k := 3) (hlast.2.right rfl)⟩
    · exact .right (k := 0) (m := 2) ((FieldAt.of_slice (List.take_of_length_le (optBytes_length 2 _).le)).left
        (by simp [optBytes_length]) _) rfl
    · exact .right (k := 2) (m := 2) (.right (k := 0) (m := 2) (.of_slice rfl) (optBytes_length 2 _)) rfl

theorem showsChannel (s : State) (c : Chan) : s.showsChannel c (0x1740 + 0x20 * c.val) := by
  have hb : ∀ p : Nat, p < 0x20 → s.byteAt (0x1740 + 0x20 * c.val + p) =
      byteIn (s.psched.channels[c].fields ++ pad 22) p := fun p hp => byteAt_channel s c hp
  have hs : ∀ {k n : Nat} {v : Option Nat}, k + n ≤ 10 → FieldAt s.psched.channels[c].fields k n v →
      s.shows (0x1740 + 0x20 * c.val + k) n v := fun hk hf =>
    shows_of_fieldAt (fun p hp => hb p (by omega)) (hf.left (by rw [channel_fields_length]; omega) _)
  obtain ⟨h1, h2, h3, h4, h5, h6⟩ := channelFields_at s.psched.channels[c]
  refine ⟨(hb 0 (by decide)).trans ?_, hs (by decide) h1, hs (by decide) h2, hs (by decide) h3, hs (by decide) h4.1,
    hs (by decide) h4.2, hs (by decide) h5, hs (by decide) h6,
    padded_of_slice (base := 0x1740 + 0x20 * c.val) (k := 0x0A) (z := 0x20) hb ?_⟩
  · generalize s.psched.channels[c] = x
    cases h : x.session <;> simp [Channel.fields, byteIn, h]
  · rw [List.drop_left' (channel_fields_length _)]
    rfl

/-- Settles O19. -/
theorem pagesShowTheState : Obligations.PagesShowTheState :=
  ⟨by unfold codesOfTable; decide, fun s => ⟨showsCart s, showsBay s, showsSlot s, showsEntry s, showsProv s, showsChannel s, showsNotices s,
    showsHeader s, fun a h => byteAt_stored s h⟩⟩

end Sys2Proof.Machine
end

section
/-! PROOF. The cart clock (R100, R101, R105) and SET_CLOCK, with the way every order's decision reaches its answer. -/

namespace Sys2Proof.Machine

-- One declaration after the other: the check compiles the whole text within a memory bound.
set_option Elab.async false

/-! ## From an owner's decision to the answer -/

section
variable {s u : State} {i : ListId} {kind : OrderKind} {off n : Nat} {a : Answer} (hm : s.memGood)
  (hr : s.reaches i kind off n)
include hm hr

/-- A refused order writes its answer and nothing else (R168). -/
theorem order_refused (h : kind.owner off s = refuse a s) :
    ∃ t, exec kind.command s = .next t ∧ s.refuses i off n a.outcome a.detail t :=
  ⟨_, exec_command kind s, refused_refuses hr hm _ a h⟩

/-- An order that is carried out: its answer on top of what its owner made of the state (R168). -/
theorem order_answered (h : kind.owner off s = (u, a)) :
    exec kind.command s = .next (answered i off n (s.linkOf off) a u) ∧
    s.answers i off n a.outcome a.detail (answered i off n (s.linkOf off) a u) ∧
    (s.settled → (answered i off n (s.linkOf off) a u).settled) ∧
    s.changedOnly (.stored :: .lists :: kind.parts) (answered i off n (s.linkOf off) a u) := by
  have hf : s.changedOnly kind.parts u := by
    have := owner_frame kind off s
    rwa [h] at this
  have hsettled (hs : s.settled) : u.settled := by
    have := owner_settled hs kind off
    rwa [h] at this
  have hshared : Part.stored ∉ kind.parts ∧ Part.lists ∉ kind.parts := by cases kind <;> decide
  exact ⟨(exec_command kind s).trans (congrArg Host.Outcome.next (dispatch_eq_answered hr h)),
    answered_answers i off n a s u hm (hf .stored hshared.1).1 (hf .lists hshared.2),
    fun hs => answered_settled (hsettled hs) i off n _ _, answered_changes hf i off n _ _⟩

end

/-- What a consideration leaves, the order's answer leaves too. -/
theorem answered_considers {v u : State} (h : v.considers u) (i : ListId) (off n : Nat) (l : Half) (a : Answer) :
    v.considers (answered i off n l a u) :=
  considers_right h rfl rfl rfl (fun _ => ⟨rfl, rfl, rfl, rfl⟩) fun _ _ _ h => h

/-! ## Seconds and minutes -/

theorem clockAdvances_idle {s : State} {c : CartClock} (hc : s.acc.clock = some c) (hn : s.now < c.since + 1000) :
    clockAdvances s = s ∧ minuteChanges s = s := by
  have hd : c.secondDue s.now = false := decide_eq_false (Nat.not_le.2 hn)
  simp [clockAdvances, minuteChanges, hc, hd]

section
variable {s : State} {c : CartClock} (hc : s.acc.clock = some c) (hn : c.since + 1000 ≤ s.now)
include hc hn

theorem clockAdvances_second (h : c.second < 59) : clockAdvances s = advanceSecond c s ∧ minuteChanges s = s := by
  have hd : c.secondDue s.now = true := decide_eq_true hn
  have h59 : ¬59 ≤ c.second := by omega
  simp [clockAdvances, minuteChanges, hc, hd, h, h59]

theorem clockAdvances_minute (h : 59 ≤ c.second) :
    clockAdvances s = changeMinute c s ∧ minuteChanges s = changeMinute c s := by
  have hd : c.secondDue s.now = true := decide_eq_true hn
  have h59 : ¬c.second < 59 := by omega
  simp [clockAdvances, minuteChanges, hc, hd, h, h59]

end

/-! ## The lapse of reservations (R105) -/

/-- What the lapse at the minute `left` leaves of a bay's reservation. -/
def lapsed (left : Nat) : Option Reservation → Option Reservation
  | some r => if r.deadline = left then none else some r
  | none => none

theorem lapsed_lapsed (left : Nat) (r : Option Reservation) : lapsed left (lapsed left r) = lapsed left r := by
  cases r with
  | none => rfl
  | some r => by_cases h : r.deadline = left <;> simp [lapsed, h]

/-- The lapse at one bay. -/
def lapseBay (left : Nat) (t : State) (b : Bay) : State :=
  match t.acc.reservations[b] with
  | some r => if r.deadline = left then t.setReservation b none else t
  | none => t

theorem lapseBay_cases (left : Nat) (t : State) (b : Bay) :
    (lapseBay left t b = t ∧ lapsed left t.acc.reservations[b] = t.acc.reservations[b]) ∨
    (lapseBay left t b = t.setReservation b none ∧ lapsed left t.acc.reservations[b] = none) := by
  unfold lapseBay
  generalize t.acc.reservations[b] = r
  cases r with
  | none => exact .inl ⟨rfl, rfl⟩
  | some r =>
    by_cases hr : r.deadline = left
    · exact .inr ⟨if_pos hr, if_pos hr⟩
    · exact .inl ⟨if_neg hr, if_neg hr⟩

theorem lapseBay_acc (left : Nat) (t : State) (b : Bay) : (lapseBay left t b).acc.clock = t.acc.clock ∧
    ∀ x : Bay, (lapseBay left t b).acc.reservations[x] =
      if x = b then lapsed left t.acc.reservations[x] else t.acc.reservations[x] := by
  obtain ⟨h, hl⟩ | ⟨h, hl⟩ := lapseBay_cases left t b
  · rw [h]
    refine ⟨rfl, fun x => ?_⟩
    split
    · next hx => rw [hx, hl]
    · rfl
  · rw [h]
    refine ⟨by simp, fun x => ?_⟩
    simp only [setReservation_acc]
    split
    · next hx =>
      rw [hx, hl]
      exact Vector.getElem_set_self _
    · next hx => exact Vector.getElem_set_ne _ _ fun hv => hx (Fin.ext hv.symm)

theorem lapseBays_acc (left : Nat) (bs : List Bay) (s : State) :
    (bs.foldl (lapseBay left) s).acc.clock = s.acc.clock ∧
    ∀ x : Bay, (bs.foldl (lapseBay left) s).acc.reservations[x] =
      if x ∈ bs then lapsed left s.acc.reservations[x] else s.acc.reservations[x] := by
  induction bs generalizing s with
  | nil => exact ⟨rfl, fun x => by simp⟩
  | cons b bs ih =>
    obtain ⟨hc, hr⟩ := lapseBay_acc left s b
    obtain ⟨hc', hr'⟩ := ih (lapseBay left s b)
    refine ⟨hc'.trans hc, fun x => (hr' x).trans ?_⟩
    rw [hr x]
    by_cases hx : x = b
    · by_cases hm : x ∈ bs <;> simp [hx, lapsed_lapsed]
    · simp [hx]

theorem lapse_acc (left : Nat) (s : State) : (lapse left s).acc.clock = s.acc.clock ∧
    ∀ b : Bay, (lapse left s).acc.reservations[b] = lapsed left s.acc.reservations[b] := by
  have h := lapseBays_acc left (List.finRange 36) s
  have heq : lapse left s = (List.finRange 36).foldl (lapseBay left) s := by
    unfold lapse lapseBay
    rfl
  rw [heq]
  exact ⟨h.1, fun b => (h.2 b).trans (if_pos (List.mem_finRange b))⟩

/-! ## A change of minute -/

theorem passIfChanged_acc (s : State) : (passIfChanged s).acc = s.acc :=
  acc_of_frame (passIfChanged_frame s)

theorem changeMinute_acc (c : CartClock) (s : State) :
    (changeMinute c s).acc.clock = some
      { minute := if c.minute < 10079 then c.minute + 1 else 0, second := 0, since := c.since + 1000 } ∧
    ∀ b : Bay, (changeMinute c s).acc.reservations[b] = lapsed c.minute s.acc.reservations[b] := by
  have hweek : c.minute + 1 < 10080 ↔ c.minute < 10079 := by omega
  rw [changeMinute, passIfChanged_acc]
  refine ⟨(lapse_acc _ _).1.trans ?_, fun b => ((lapse_acc _ _).2 b).trans (by rw [setAcc_acc])⟩
  simp [hweek, Config.second, Config.week]

/-- Settles O43. -/
theorem clockAdvancesAndLapses : Obligations.ClockAdvancesAndLapses := by
  intro s c hc hn
  refine ⟨fun h => ?_, fun h i hi => ?_⟩
  · obtain ⟨hclock, hminute⟩ := clockAdvances_second hc hn h
    refine ⟨_, congrArg Host.Outcome.next hclock, ?_, advanceSecond_frame c s, congrArg Host.Outcome.next hminute⟩
    simp [advanceSecond, Config.second]
  · obtain ⟨hclock, hminute⟩ := clockAdvances_minute hc hn h
    have hexec : exec i s = .next (changeMinute c s) := by
      obtain rfl | rfl := hi
      · exact congrArg Host.Outcome.next hclock
      · exact congrArg Host.Outcome.next hminute
    obtain ⟨htime, hres⟩ := changeMinute_acc c s
    exact ⟨_, hexec, htime, fun b => (hres b).trans (by cases s.acc.reservations[b] <;> rfl), fun hs => changeMinute_settled hs c, changeMinute_frame c s⟩

/-! ## SET_CLOCK (R101) -/

theorem setClock_acc (minute second : Nat) (s : State) : (setClock minute second s).acc =
    { s.acc with clock := some { minute := minute, second := second, since := s.now } } := by
  rw [setClock, passIfChanged_acc]
  simp

theorem setClock_now (minute second : Nat) (s : State) : (setClock minute second s).now = s.now :=
  setClock_frame minute second s .now (by decide)

/-- The minute field of the cart page, read back. -/
theorem clock_bytes {s : State} {c : CartClock} (hc : s.acc.clock = some c) (h : c.minute < 10080) :
    256 * (s.byteAt 0x31).toNat + (s.byteAt 0x30).toNat = c.minute ∧ s.byteAt 0x32 = byteOf c.second := by
  obtain ⟨hminute, hsecond⟩ := shows_clock s
  have h0 : s.byteAt 0x30 = byteOf (c.minute / 256 ^ 0) := by simpa [hc] using hminute 0 (by decide)
  have h1 : s.byteAt 0x31 = byteOf (c.minute / 256 ^ 1) := by simpa [hc] using hminute 1 (by decide)
  have h2 : s.byteAt 0x32 = byteOf (c.second / 256 ^ 0) := by simpa [hc] using hsecond 0 (by decide)
  refine ⟨?_, by simpa using h2⟩
  rw [h0, h1]
  simp [byteOf]
  omega

/-- The clock's second, 1 s after the clock was set. -/
theorem clockSecond_at {t : State} {m now : Nat} {x : Byte}
    (hc : t.acc.clock = some { minute := m, second := x.toNat, since := now }) (hm : m < 10080) :
    ∃ u, exec .clockSecond (t.withNow (now + 1000)) = .next u ∧
      (x.toNat < 59 → u.acc.clock = some { minute := m, second := x.toNat + 1, since := now + 1000 }) ∧
      (x.toNat = 59 → u.acc.clock = some { minute := (m + 1) % 10080, second := 0, since := now + 1000 }) := by
  refine ⟨_, rfl, fun h => ?_, fun h => ?_⟩
  · rw [(clockAdvances_second (s := t.withNow (now + 1000)) hc (Nat.le_refl _) h).1]
    simp [advanceSecond, Config.second]
  · rw [(clockAdvances_minute (s := t.withNow (now + 1000)) hc (Nat.le_refl _) h.ge).1, (changeMinute_acc _ _).1]
    have hwrap : (if m < 10079 then m + 1 else 0) = (m + 1) % 10080 := by
      split <;> omega
    simp [hwrap]

/-- Settles O54. -/
theorem setClockSetsAndRestarts : Obligations.SetClockSetsAndRestarts := by
  intro s i off n hm hr
  refine ⟨fun h => order_refused (kind := .setClock) (a := .badField 1) hm hr ?_,
    fun h h' => order_refused (kind := .setClock) (a := .badField 2) hm hr ?_, fun h h' => ?_⟩
  · simp [OrderKind.owner, orderSetClock, Config.week, h]
  · simp [OrderKind.owner, orderSetClock, Config.week, Nat.not_le.2 h, h']
  · have hord : OrderKind.setClock.owner off s =
        (setClock (s.fieldN off 0x0C 2) (s.field1 off 0x0E).toNat s, .done) := by
      simp [OrderKind.owner, orderSetClock, Config.week, Nat.not_le.2 h, Nat.not_le.2 h']
    obtain ⟨hexec, hans, hset, hfr⟩ := order_answered hm hr hord
    have hclock : (answered i off n (s.linkOf off) .done
        (setClock (s.fieldN off 0x0C 2) (s.field1 off 0x0E).toNat s)).acc.clock = some
        { minute := s.fieldN off 0x0C 2, second := (s.field1 off 0x0E).toNat, since := s.now } := by
      rw [answered_acc, setClock_acc]
    obtain ⟨hminute, hsecond⟩ := clock_bytes hclock h
    refine ⟨_, hexec, hans, hclock, hminute, hsecond.trans (byteOf_toNat _), hset, fun m hlt => ?_,
      clockSecond_at hclock h, hfr.mono (by decide)⟩
    obtain ⟨h1, h2⟩ := clockAdvances_idle (s := (answered i off n (s.linkOf off) .done
        (setClock (s.fieldN off 0x0C 2) (s.field1 off 0x0E).toNat s)).withNow (s.now + m)) hclock
        (Nat.add_lt_add_left hlt _)
    exact ⟨congrArg Host.Outcome.next h1, congrArg Host.Outcome.next h2⟩

end Sys2Proof.Machine
end

section
/-! PROOF. Orders decided by their fields: COMMIT_CREDENTIALS and COMMIT_WINDOWS (R94, R95, R98), CLEAR_FAULT (R22,
R66) and SET_SUPERVISION (R147, R148, R153). -/

namespace Sys2Proof.Machine

-- One declaration after the other: the check compiles the whole text within a memory bound.
set_option Elab.async false

/-! ## The tests of a commit (R94, R98) -/

theorem find?_range_first {p : Nat → Bool} {n m : Nat} (hm : m < n) (hbefore : ∀ x, x < m → p x = false)
    (h : p m = true) : (List.range n).find? p = some m :=
  List.find?_range_eq_some.2 ⟨h, List.mem_range.2 hm, fun x hx => by simp [hbefore x hx]⟩

theorem find?_range_none {p : Nat → Bool} {n : Nat} (h : ∀ x, x < n → p x = false) : (List.range n).find? p = none := by
  simpa using h

theorem roleOfCode_isSome (x : Byte) : (Role.ofCode x).isSome = true ↔ x = 1 ∨ x = 2 ∨ x = 3 := by
  revert x
  decide

/-- R94: the six tests of an entry, said by its fields. -/
theorem credential_good (m : List Host.Cell) (k : Bank) (x : Nat) :
    (credentialAt m k x).good (tokenBefore m k x) = true ↔
      (credentialAt m k x).token ≠ 2 ^ 64 - 1 ∧
      (x ≠ 0 → (credentialAt m k (x - 1)).token < (credentialAt m k x).token) ∧
      ((credentialAt m k x).role = 1 ∨ (credentialAt m k x).role = 2 ∨ (credentialAt m k x).role = 3) ∧
      (credentialAt m k x).group.toNat ≤ 15 ∧ (credentialAt m k x).homeBay.toNat ≤ 36 ∧
      ((credentialAt m k x).status = 1 ∨ (credentialAt m k x).status = 2) := by
  have hno : noToken.toNat = 2 ^ 64 - 1 := by decide
  by_cases h : x = 0 <;> simp [CredentialEntry.good, tokenBefore, h, roleOfCode_isSome, hno, and_assoc]

/-- R98: the three tests of a window entry, said by its fields. -/
theorem window_good (w : WindowEntry) : w.good = true ↔ w.days ≠ 0 ∧ w.days.toNat < 128 ∧ w.start ≤ 1439 ∧
    w.start < w.stop ∧ w.stop ≤ 1440 := by
  simp [WindowEntry.good, and_assoc]

theorem bankOfCode_eq_none {x : Byte} (h1 : x ≠ 1) (h2 : x ≠ 2) : Bank.ofCode x = none := by
  revert x
  decide

theorem bankOfCode_code (k : Bank) : Bank.ofCode k.code = some k := by cases k <;> rfl

/-- Settles O53. -/
theorem commitsTestEveryEntry : Obligations.CommitsTestEveryEntry := by
  refine ⟨fun s i off n ok hm hr hok => ?_, fun s i off n ok hm hr hok => ?_⟩
  · have hgood : ∀ (k : Bank) (x : Nat),
        ok k x ↔ (credentialAt s.swm.mem k x).good (tokenBefore s.swm.mem k x) = true :=
      fun k x => (hok k x).trans (credential_good s.swm.mem k x).symm
    refine ⟨fun h1 h2 => order_refused (kind := .commitCredentials) (a := .badField 65534) hm hr ?_, fun k hk =>
      ⟨fun hc => order_refused (kind := .commitCredentials) (a := .badField 65535) hm hr ?_, fun m hc hlt hb hbad =>
        order_refused (kind := .commitCredentials) (a := .badField m) hm hr ?_, fun hc hall => ?_⟩⟩
    · simp [OrderKind.owner, orderCommitCredentials, bankOfCode_eq_none h1 h2]
    · simp [OrderKind.owner, orderCommitCredentials, ← hk, bankOfCode_code, Config.bankRoom, hc]
    · have hfirst : firstBadEntry s.swm.mem k (s.fieldN off 0x0E 2) = some m :=
        find?_range_first hlt (fun x hx => by simp [(hgood k x).1 (hb x hx)]) (by
          have := mt (hgood k m).2 hbad
          simpa using this)
      simp [OrderKind.owner, orderCommitCredentials, ← hk, bankOfCode_code, Config.bankRoom, Nat.not_lt.2 hc, hfirst]
    · have hnone : firstBadEntry s.swm.mem k (s.fieldN off 0x0E 2) = none :=
        find?_range_none fun x hx => by simp [(hgood k x).1 (hall x hx)]
      have hord : OrderKind.commitCredentials.owner off s =
          (s.setAcc { s.acc with activeBank := some k, activeCount := s.fieldN off 0x0E 2 },
            ⟨.done, s.fieldN off 0x0E 2⟩) := by
        simp [OrderKind.owner, orderCommitCredentials, ← hk, bankOfCode_code, Config.bankRoom, Nat.not_lt.2 hc, hnone]
      obtain ⟨hexec, hans, -, hfr⟩ := order_answered hm hr hord
      refine ⟨_, hexec, hans, ?_, ?_, ?_, ?_, hfr.mono (by decide)⟩ <;> simp
  · have hgood : ∀ k : Nat, ok k ↔ (s.windowAt off k).good = true := fun k =>
      (hok k).trans (window_good (s.windowAt off k)).symm
    refine ⟨fun hc => order_refused (kind := .commitWindows) (a := .badField 65535) hm hr ?_, fun m hc hlt hb hbad =>
      order_refused (kind := .commitWindows) (a := .badField m) hm hr ?_, fun hc hall => ?_⟩
    · simp [OrderKind.owner, orderCommitWindows, Config.windowRoom, hc]
    · have hfirst : ((List.range (s.field1 off 0x0C).toNat).find? fun k => !(s.windowAt off k).good) = some m :=
        find?_range_first hlt (fun x hx => by simp [(hgood x).1 (hb x hx)]) (by
          have := mt (hgood m).2 hbad
          simpa using this)
      simp [OrderKind.owner, orderCommitWindows, Config.windowRoom, Nat.not_lt.2 hc, hfirst]
    · have hnone : ((List.range (s.field1 off 0x0C).toNat).find? fun k => !(s.windowAt off k).good) = none :=
        find?_range_none fun x hx => by simp [(hgood x).1 (hall x hx)]
      have hord : OrderKind.commitWindows.owner off s =
          (s.setAcc { s.acc with windows := s.windowsOf off (s.field1 off 0x0C).toNat },
            ⟨.done, (s.field1 off 0x0C).toNat⟩) := by
        simp [OrderKind.owner, orderCommitWindows, Config.windowRoom, Nat.not_lt.2 hc, hnone]
      obtain ⟨hexec, hans, -, hfr⟩ := order_answered hm hr hord
      refine ⟨_, hexec, hans, ?_, fun k hk => ?_, ?_, ?_, ?_, hfr.mono (by decide)⟩
      · simp [State.windowsOf]
      · simp [State.windowsOf, hk, State.windowAt]
      all_goals simp

/-! ## What a consideration makes of a path -/

theorem scanCore_path (n : Nat) (b : Bay) (s : State) :
    ((scanCore n s).bmon[b].path = s.bmon[b].path ∨ (scanCore n s).bmon[b].path = .joined) ∧
    (scanCore n s).bmon[b].faultTimer = s.bmon[b].faultTimer := by
  induction n generalizing s with
  | zero => exact ⟨.inl rfl, rfl⟩
  | succ n ih =>
    rcases scanCore_cases n s with ⟨c, x, -, -, he⟩ | ⟨-, he⟩ <;> rw [he]
    · by_cases hb : b = x
      · subst hb
        have hentry : (grantCore c b s).bmon[b] = (granted c b s).bmon[b] := by rw [grantCore_eq, pass_bmon]
        rw [granted_entry, if_pos rfl] at hentry
        obtain ⟨hp, hf⟩ := ih (grantCore c b s)
        rw [hentry] at hp hf
        exact ⟨.inr (hp.elim id id), hf⟩
      · rw [← grantCore_entry (c := c) hb s]
        exact ih _
    · exact ⟨.inl rfl, rfl⟩

theorem consider_path (b : Bay) (s : State) :
    ((consider s).bmon[b].path = s.bmon[b].path ∨ (consider s).bmon[b].path = .joined) ∧
    (consider s).bmon[b].faultTimer = s.bmon[b].faultTimer := by
  rw [consider, pschedEvent_bmon, considerCore]
  split
  · exact ⟨.inl rfl, rfl⟩
  · exact scanCore_path 4 b s

/-! ## CLEAR_FAULT (R22, R66) -/

theorem cctlChange_frame' (b : Bay) (c : ChargeBay) (s : State) :
    (s.setCharge b c).changedOnly considerParts (cctlChange b c s) := by
  have h := (passIfChanged_frame (s.setCharge b c)).mono (m := considerParts) (by decide)
  unfold cctlChange
  dsimp only
  split
  · exact h.then (consider_frame _)
  · exact h

/-- A change of a bay's charge record leaves the other bays' as they are. -/
theorem cctlChange_charge (b : Bay) (c : ChargeBay) (s : State) :
    (cctlChange b c s).cctl[b].body = c.body ∧ s.otherCharges b (cctlChange b c s) := by
  refine ⟨(chargeBody_of_frame (cctlChange_frame' b c s) (by decide) b).trans (by rw [setCharge_charge_self]),
    fun x hx => ?_⟩
  rw [chargeBody_of_frame (cctlChange_frame' b c s) (by decide) x, setCharge_charge, if_neg hx]

/-- The lockout that a CLEAR_FAULT ends. -/
theorem clearLockout_charge (b : Bay) (s : State) : ((clearLockout b s).cctl[b].state = .negotiating ∧
    (clearLockout b s).cctl[b].trips = 0 ∧ (clearLockout b s).cctl[b].demand = 0 ∧
    (clearLockout b s).cctl[b].negotiation = some s.now) ∧ s.otherCharges b (clearLockout b s) := by
  obtain ⟨h, ho⟩ := cctlChange_charge b { s.cctl[b].negotiate s.now with trips := 0 } s
  exact ⟨⟨(congrArg ChargeBay.state h :), (congrArg ChargeBay.trips h :), (congrArg ChargeBay.demand h :),
    (congrArg ChargeBay.negotiation h :)⟩, ho⟩

/-- The CUT path that a CLEAR_FAULT watches afresh. -/
theorem clearCut_path {b : Bay} {s : State} (hp : s.bmon[b].occupancy = .present) :
    ((clearCut b s).bmon[b].path = .watch ∨ (clearCut b s).bmon[b].path = .joined) ∧
    (clearCut b s).bmon[b].faultTimer = if s.pins[b].atFault then some s.now else none := by
  obtain ⟨h, hf⟩ := consider_path b (s.setEntry b { s.bmon[b] with
    path := if s.bmon[b].occupancy = .present then .watch else .dark
    faultTimer := if s.bmon[b].occupancy = .present then restartWhile s.pins[b].atFault s.now else none })
  rw [setEntry_entry_self] at h hf
  simp only [hp, if_true] at h hf
  simp only [clearCut, hp, if_true]
  exact ⟨h, hf⟩

/-- The bay's lockout cleared, if it has one (R66). -/
def lockoutCleared (b : Bay) (s : State) : State := if s.cctl[b].state = .lockedOut then clearLockout b s else s

/-- The bay's lockout and its CUT path cleared, whichever it has (R22, R66). -/
def faultCleared (b : Bay) (s : State) : State :=
  if s.bmon[b].path = .cut then clearCut b (lockoutCleared b s) else lockoutCleared b s

theorem lockoutCleared_ground (b : Bay) (s : State) : (lockoutCleared b s).pins = s.pins ∧
    (lockoutCleared b s).now = s.now ∧ (lockoutCleared b s).bmon[b].body = s.bmon[b].body := by
  unfold lockoutCleared
  split
  · have hf := clearLockout_frame b s
    exact ⟨pins_of_frame hf, now_of_frame hf, body_of_frame hf (by decide) b⟩
  · exact ⟨rfl, rfl, rfl⟩

theorem faultCleared_charge (b x : Bay) (s : State) : (faultCleared b s).cctl[x].body = (lockoutCleared b s).cctl[x].body := by
  unfold faultCleared
  split
  · exact chargeBody_of_frame (clearCut_frame b _) (by decide) x
  · rfl

/-- The decision of CLEAR_FAULT for a bay with a fault. -/
theorem orderClearFault_eq {s : State} {off : Nat} {b : Bay} (hb : (s.field1 off 0x0C).toNat = b.val + 1)
    (h : s.cctl[b].state = .lockedOut ∨ s.bmon[b].path = .cut) :
    orderClearFault off s = (faultCleared b s, ⟨.done, (if s.cctl[b].state = .lockedOut then 1 else 0) +
      (if s.bmon[b].path = .cut then 2 else 0)⟩) := by
  have hany : (s.cctl[b].state == .lockedOut || s.bmon[b].path == .cut) = true := by simpa using h
  simp only [orderClearFault, hb, bayOfNumber_val_add_one, hany, if_true, bitIf, beq_iff_eq]
  rfl

theorem answered_cctl (i : ListId) (off n : Nat) (l : Half) (a : Answer) (s : State) :
    (answered i off n l a s).cctl = s.cctl := rfl

/-- Settles O58. -/
theorem clearFaultClears : Obligations.ClearFaultClears := by
  intro s i off n hm hq hr
  refine ⟨fun h => order_refused (kind := .clearFault) (a := .badField 0) hm hr ?_, fun b hb => ⟨fun hl hc =>
    order_refused (kind := .clearFault) (a := ⟨.badState, 0⟩) hm hr ?_, fun h => ?_⟩⟩
  · simp [OrderKind.owner, orderClearFault, bayOfNumber_eq_none h]
  · have hno : (s.cctl[b].state == .lockedOut || s.bmon[b].path == .cut) = false := by simp [hl, hc, -Fin.getElem_fin]
    simp only [OrderKind.owner, orderClearFault, hb, bayOfNumber_val_add_one, hno, Bool.false_eq_true, if_false]
  · obtain ⟨hexec, hans, -, hfr⟩ := order_answered hm hr (kind := .clearFault) (orderClearFault_eq hb h)
    refine ⟨_, hexec, hans, fun hl => ?_, fun hl => ?_, fun hc hp => ?_, fun x hx => ?_, hfr.mono (by decide)⟩
    · rw [answered_cctl]
      have hbody := faultCleared_charge b b s
      rw [lockoutCleared, if_pos hl] at hbody
      obtain ⟨⟨h1, h2, h3, h4⟩, -⟩ := clearLockout_charge b s
      exact ⟨(congrArg ChargeBay.state hbody :).trans h1, (congrArg ChargeBay.trips hbody :).trans h2,
        (congrArg ChargeBay.demand hbody :).trans h3, (congrArg ChargeBay.negotiation hbody :).trans h4⟩
    · rw [answered_cctl, faultCleared_charge, lockoutCleared, if_neg hl]
    · obtain ⟨hpins, hnow, hbody⟩ := lockoutCleared_ground b s
      have hpath := clearCut_path (b := b) ((body_fields hbody).1.trans hp)
      rw [hpins, hnow] at hpath
      have hcut : faultCleared b s = clearCut b (lockoutCleared b s) := if_pos hc
      rw [← hcut] at hpath
      rwa [answered_bmon]
    · rw [answered_cctl, faultCleared_charge b x s]
      unfold lockoutCleared
      split
      · exact (clearLockout_charge b s).2 x hx
      · rfl

/-! ## SET_SUPERVISION (R147, R148, R153) -/

/-- The answer of an order with two clamped values. -/
theorem clamped_two (p q : Prop) [Decidable p] [Decidable q] :
    (Answer.clamped ((bitIf (!decide p) 0 + bitIf (!decide q) 1) != 0) (bitIf (!decide p) 0 + bitIf (!decide q) 1)) =
      ⟨if p ∧ q then .done else .doneClamped, (if p then 0 else 1) + (if q then 0 else 2)⟩ := by
  by_cases hp : p <;> by_cases hq : q <;> simp [Answer.clamped, bitIf, hp, hq]

section
variable {s : State} {off mx cl : Nat} (hmx : mx = max 1 (min 60 (s.field1 off 0x0E).toNat))
  (hcl : cl = min (min 600 (s.fieldN off 0x0C 2)) (10 * mx - 1))
include hmx hcl

theorem orderSetSupervision_eq {e : Bool} (he : onOff (s.field1 off 0x0F) = some e) :
    orderSetSupervision off s = (applySupervision cl mx e s,
      ⟨if mx = (s.field1 off 0x0E).toNat ∧ cl = s.fieldN off 0x0C 2 then .done else .doneClamped,
        (if mx = (s.field1 off 0x0E).toNat then 0 else 1) + (if cl = s.fieldN off 0x0C 2 then 0 else 2)⟩) := by
  have hmax : clampMaximum (s.field1 off 0x0E).toNat = mx := hmx.symm
  have hclosed : clampClosed (s.fieldN off 0x0C 2) mx = cl := by rw [hcl, clampClosed, Nat.min_comm 600]
  simp only [orderSetSupervision, he, hmax, hclosed]
  rw [← clamped_two]
  rfl

end

/-- What SMON holds once the timings and the enable are taken (R147). -/
def Smon.supervised (m : Smon) (cl mx : Nat) (e : Bool) : Smon :=
  { m with enable := e, closedPhase := cl, maximum := mx }

theorem applySupervision_eq (cl mx : Nat) (e : Bool) (s : State) : applySupervision cl mx e s =
    (match e, s.smon.mode with
      | true, .attended => s.setSmon ((s.smon.supervised cl mx e).begin .opened s.now)
      | true, .standalone => s.setSmon (s.smon.supervised cl mx e).stop
      | false, .attended => s.setSmon (s.smon.supervised cl mx e).stop
      | false, .standalone => returnAttended (s.smon.supervised cl mx e).stop s) := by
  cases e <;> simp only [applySupervision, Smon.supervised] <;> rfl

/-- R148: the effect by the enable and the mode, at SMON. -/
theorem applySupervision_smon (cl mx : Nat) (e : Bool) (s : State) : (applySupervision cl mx e s).smon =
    (match e, s.smon.mode with
      | true, .attended => (s.smon.supervised cl mx e).begin .opened s.now
      | true, .standalone => (s.smon.supervised cl mx e).stop
      | false, _ => { (s.smon.supervised cl mx e).stop with mode := .attended }) := by
  rw [applySupervision_eq]
  cases e <;> cases h : s.smon.mode
  · rw [setSmon_smon]
    simp [Smon.stop, Smon.supervised, h]
  · exact (returnAttended_returns _ (SameGround.of_frame (State.changedOnly.refl s [])) rfl).1
  · exact setSmon_smon _ _
  · exact setSmon_smon _ _

theorem applySupervision_settings (cl mx : Nat) (e : Bool) (s : State) :
    (applySupervision cl mx e s).smon.enable = e ∧ (applySupervision cl mx e s).smon.maximum = mx ∧
    (applySupervision cl mx e s).smon.closedPhase = cl ∧
    (applySupervision cl mx e s).smon.lastFailure = s.smon.lastFailure := by
  rw [applySupervision_smon]
  cases e
  · exact ⟨rfl, rfl, rfl, rfl⟩
  · cases s.smon.mode <;> exact ⟨rfl, rfl, rfl, rfl⟩

/-- The enable and a mode in which no return to ATTENDED is made: one update of SMON. -/
theorem applySupervision_frame' {cl mx : Nat} {e : Bool} {s : State} (h : e = true ∨ s.smon.mode = .attended) :
    s.changedOnly [.smon, .counts] (applySupervision cl mx e s) := by
  rw [applySupervision_eq]
  cases e <;> cases hm : s.smon.mode
  · exact setSmon_frame _ s
  · simp [hm] at h
  · exact setSmon_frame _ s
  · exact setSmon_frame _ s

/-- Settles O60. -/
theorem setSupervisionActsByMode : Obligations.SetSupervisionActsByMode := by
  intro s i off n mx cl hm hr hmx hcl
  refine ⟨fun h => order_refused (kind := .setSupervision) (a := .badField 3) hm hr ?_, fun h => ?_⟩
  · simp [OrderKind.owner, orderSetSupervision, onOff_eq_none h]
  · have hcode : s.field1 off 0x0F = 0 ∨ s.field1 off 0x0F = 1 := by
      simpa [BitVec.toNat_eq] using (show (s.field1 off 0x0F).toNat = 0 ∨ (s.field1 off 0x0F).toNat = 1 by omega)
    have he : onOff (s.field1 off 0x0F) = some (decide (s.field1 off 0x0F = 1)) := by
      obtain hz | ho := hcode
      · rw [hz]; rfl
      · rw [ho]; rfl
    obtain ⟨hexec, hans, -, hfr⟩ :=
      order_answered hm hr (kind := .setSupervision) (orderSetSupervision_eq hmx hcl he)
    obtain ⟨h1, h2, h3, h4⟩ := applySupervision_settings cl mx (decide (s.field1 off 0x0F = 1)) s
    have hsmon := applySupervision_smon cl mx (decide (s.field1 off 0x0F = 1)) s
    have hquiet : s.field1 off 0x0F = 1 ∨ s.smon.mode = .attended → s.changedOnly [.smon, .counts]
        (applySupervision cl mx (decide (s.field1 off 0x0F = 1)) s) := fun h =>
      applySupervision_frame' (h.imp_left decide_eq_true)
    have hoff : s.field1 off 0x0F = 0 → decide (s.field1 off 0x0F = 1) = false := fun hz => by rw [hz]; rfl
    have heq := applySupervision_eq cl mx (decide (s.field1 off 0x0F = 1)) s
    generalize applySupervision cl mx (decide (s.field1 off 0x0F = 1)) s = u at *
    refine ⟨_, hexec, hans, h1, h2, h3, h4, fun ho ha => ?_, fun ho ha => ?_, fun hz => ?_, fun hz ha => ?_,
      fun hz ha => ?_⟩
    · rw [decide_eq_true ho, ha] at hsmon
      exact ⟨(congrArg Smon.phase hsmon :), (congrArg Smon.since hsmon :), (congrArg Smon.mode hsmon :).trans ha,
        (answered_changes (hquiet (.inl ho)) i off n _ _).mono (by decide)⟩
    · rw [decide_eq_true ho, ha] at hsmon
      exact ⟨(congrArg Smon.phase hsmon :), (congrArg Smon.since hsmon :), (congrArg Smon.mode hsmon :).trans ha,
        (answered_changes (hquiet (.inl ho)) i off n _ _).mono (by decide)⟩
    · rw [hoff hz] at hsmon
      exact ⟨(congrArg Smon.phase hsmon :), (congrArg Smon.since hsmon :), (congrArg Smon.mode hsmon :)⟩
    · exact (answered_changes (hquiet (.inr ha)) i off n _ _).mono (by decide)
    · rw [hoff hz, ha] at heq
      obtain ⟨-, hmode, hfac, hset, hcons, hreq, -⟩ := returnAttended_returns (s := s) (s.smon.supervised cl mx false).stop
        (SameGround.of_frame (State.changedOnly.refl s [])) rfl
      have hu : u = returnAttended (s.smon.supervised cl mx false).stop s := heq
      rw [← hu] at hmode hfac hset hcons hreq
      exact ⟨hfac, hmode, answered_settled hset i off n _ _, answered_considers hcons i off n _ _, hreq,
        hfr.mono (by decide)⟩

end Sys2Proof.Machine
end

section
/-! PROOF. SESSION_END (R85, R86), SET_LIMITS (R50), SET_THRESHOLDS (R87) and the custody orders (R130, R131). -/

namespace Sys2Proof.Machine

-- One declaration after the other: the check compiles the whole text within a memory bound.
set_option Elab.async false

/-! ## SESSION_END (R85, R86) -/

theorem leNat_lt (bs : List Byte) : leNat bs < 256 ^ bs.length := by
  induction bs with
  | nil => simp [leNat]
  | cons b bs ih =>
    have := b.isLt
    rw [leNat, List.length_cons, pow_succ]
    omega

theorem fieldN_lt (s : State) (off pos n : Nat) : s.fieldN off pos n < 256 ^ n := by
  have := leNat_lt (Memory.bytes s.swm.mem (off + pos) n)
  rwa [show (Memory.bytes s.swm.mem (off + pos) n).length = n by simp [Memory.bytes]] at this

theorem chanOfNumber_eq_none {n : Nat} (h : n = 0 ∨ 4 < n) : chanOfNumber n = none := dif_neg (by omega)

theorem chanOfNumber_val_add_one (c : Chan) : chanOfNumber (c.val + 1) = some c := dif_pos ⟨by omega, by omega⟩

/-- A revision of two bytes, as the order's owner reads it. -/
theorem revision_eq {n : Nat} {v : Half} (h : v.toNat = n) : BitVec.ofNat 16 n = v := by
  subst h
  simp

/-- A session end that does not leave its bay WAITING. -/
theorem endSessionCore_ends {c : Chan} {x : Session} {s : State} (hq : s.queueGood)
    (h : s.psched.channels[c].session = some x) {o : SessionOutcome} {r : Half}
    (hf : (s.psched.records[x.bay].afterEnd o r).state ≠ .waiting) :
    (endSessionCore c o r s).psched.records[x.bay] = s.psched.records[x.bay].afterEnd o r := by
  have hqueue : (sessionClosed c x o r s).psched.queue = s.psched.queue := by rw [sessionClosed_queue, if_neg hf]
  exact (endSessionCore_settles (o := o) (r := r) h (.inl (by rw [hqueue]; exact not_waiting_of_session hq h))).1

theorem tooLate_iff (o : SessionOutcome) :
    o.tooLate = true ↔ o = .expired ∨ o = .stalled ∨ o = .linkFault ∨ o = .removed := by
  cases o <;> simp [SessionOutcome.tooLate]

section
variable {s : State} {off : Nat} {c : Chan} {b : Bay} (hc : (s.field1 off 0x0C).toNat = c.val + 1)
  (hb : (s.field1 off 0x0D).toNat = b.val + 1)
include hc hb

theorem orderSessionEnd_badResult (h1 : s.fieldN off 4 2 ≠ 1) (h2 : s.fieldN off 4 2 ≠ 2) :
    orderSessionEnd off s = refuse (.badField 3) s := by
  simp only [orderSessionEnd, hc, chanOfNumber_val_add_one, hb, bayOfNumber_val_add_one]

theorem orderSessionEnd_noRevision (h1 : s.fieldN off 4 2 = 1) (h : s.fieldN off 0x0E 2 = 0) :
    orderSessionEnd off s = refuse (.badField 4) s := by
  simp only [orderSessionEnd, hc, chanOfNumber_val_add_one, hb, bayOfNumber_val_add_one, h1, h]
  rfl

theorem orderSessionEnd_success {v : Half} (h1 : s.fieldN off 4 2 = 1) (hv : v.toNat = s.fieldN off 0x0E 2)
    (hne : v ≠ 0) : orderSessionEnd off s = reportSession c b .success v s := by
  simp only [orderSessionEnd, hc, chanOfNumber_val_add_one, hb, bayOfNumber_val_add_one, h1, revision_eq hv, if_neg hne]

theorem orderSessionEnd_failed {v : Half} (h2 : s.fieldN off 4 2 = 2) (hv : v.toNat = s.fieldN off 0x0E 2) :
    orderSessionEnd off s = reportSession c b .failedReported v s := by
  simp only [orderSessionEnd, hc, chanOfNumber_val_add_one, hb, bayOfNumber_val_add_one, h2, revision_eq hv]

/-- A report with good fields (R85). -/
theorem orderSessionEnd_reports (h : s.fieldN off 4 2 = 1 ∧ s.fieldN off 0x0E 2 ≠ 0 ∨ s.fieldN off 4 2 = 2) :
    ∃ (o : SessionOutcome) (v : Half), orderSessionEnd off s = reportSession c b o v s := by
  have hlt : s.fieldN off 0x0E 2 < 2 ^ 16 := fieldN_lt s off 0x0E 2
  have hv : (BitVec.ofNat 16 (s.fieldN off 0x0E 2)).toNat = s.fieldN off 0x0E 2 := by
    rw [BitVec.toNat_ofNat, Nat.mod_eq_of_lt hlt]
  rcases h with ⟨h1, hne⟩ | h2
  · refine ⟨_, _, orderSessionEnd_success hc hb h1 hv fun h0 => hne ?_⟩
    rw [← hv, h0]
    decide
  · exact ⟨_, _, orderSessionEnd_failed hc hb h2 hv⟩

end

theorem reportSession_own {s : State} {c : Chan} {x : Session} (h : s.psched.channels[c].session = some x)
    (o : SessionOutcome) (v : Half) :
    reportSession c x.bay o v s = (pschedEvent (endSessionCore c o v) s, .done) := by
  simp only [reportSession, h, if_true]

theorem reportSession_other {s : State} {c : Chan} {x : Session} {b : Bay} (h : s.psched.channels[c].session = some x)
    (hb : x.bay ≠ b) (o : SessionOutcome) (v : Half) :
    reportSession c b o v s = refuse ⟨.mismatch, x.bay.val + 1⟩ s := by
  simp only [reportSession, h, if_neg hb]

theorem reportSession_idle {s : State} {c : Chan} (h : s.psched.channels[c].session = none) (b : Bay)
    (o : SessionOutcome) (v : Half) :
    reportSession c b o v s = refuse (lateAnswer s.psched.channels[c].lastEnded b) s := by
  simp only [reportSession, h]

/-- Settles O52. -/
theorem sessionEndIsRuled : Obligations.SessionEndIsRuled := by
  intro s i off n hm hq hr
  refine ⟨fun h => order_refused (kind := .sessionEnd) (a := .badField 1) hm hr ?_, fun c hc => ⟨fun h =>
    order_refused (kind := .sessionEnd) (a := .badField 2) hm hr ?_, fun b hb => ⟨fun h1 h2 =>
    order_refused (kind := .sessionEnd) (a := .badField 3) hm hr (orderSessionEnd_badResult hc hb h1 h2), fun h1 h =>
    order_refused (kind := .sessionEnd) (a := .badField 4) hm hr (orderSessionEnd_noRevision hc hb h1 h),
    fun h => ⟨fun x hx hne => ?_, fun e hx he heb hlate => ?_, fun hx he => ?_⟩, fun x v hx hxb hv =>
    ⟨fun h1 hne => ?_, fun h2 => ?_⟩⟩⟩⟩
  · simp only [OrderKind.owner, orderSessionEnd, chanOfNumber_eq_none h]
  · simp only [OrderKind.owner, orderSessionEnd, hc, chanOfNumber_val_add_one, bayOfNumber_eq_none h]
  · obtain ⟨o, v, hord⟩ := orderSessionEnd_reports hc hb h
    exact order_refused (kind := .sessionEnd) (a := ⟨.mismatch, x.bay.val + 1⟩) hm hr
      (hord.trans (reportSession_other hx hne o v))
  · obtain ⟨o, v, hord⟩ := orderSessionEnd_reports hc hb h
    have ha : lateAnswer s.psched.channels[c].lastEnded b = ⟨.tooLate, e.outcome.code.toNat⟩ := by
      simp only [lateAnswer, he]
      exact if_pos ⟨heb, (tooLate_iff _).2 hlate⟩
    exact order_refused (kind := .sessionEnd) (a := ⟨.tooLate, e.outcome.code.toNat⟩) hm hr
      (by rw [← ha]; exact hord.trans (reportSession_idle hx b o v))
  · obtain ⟨o, v, hord⟩ := orderSessionEnd_reports hc hb h
    have ha : lateAnswer s.psched.channels[c].lastEnded b = ⟨.mismatch, 0⟩ := by
      cases hl : s.psched.channels[c].lastEnded with
      | none => rfl
      | some e =>
        refine if_neg fun ⟨heb, hlate⟩ => ?_
        rcases he e hl with hne | ⟨n1, n2, n3, n4⟩
        · exact hne heb
        · rcases (tooLate_iff _).1 hlate with h | h | h | h
          · exact n1 h
          · exact n2 h
          · exact n3 h
          · exact n4 h
    exact order_refused (kind := .sessionEnd) (a := ⟨.mismatch, 0⟩) hm hr
      (by rw [← ha]; exact hord.trans (reportSession_idle hx b o v))
  · subst hxb
    obtain ⟨hexec, hans, -, hfr⟩ := order_answered hm hr (kind := .sessionEnd)
      ((orderSessionEnd_success hc hb h1 hv hne).trans (reportSession_own hx .success v))
    obtain ⟨st, hrec, hst, hreq⟩ := sessionEnds hx .success v
    refine ⟨_, hexec, hans, ?_, ?_, fun hw => ?_, fun hw => ?_, hreq, hfr.mono (by decide)⟩
    all_goals rw [answered_psched]
    · rw [hrec, ProvRecord.afterEnd]
      dsimp only
      split <;> rfl
    · rw [hrec, ProvRecord.afterEnd]
      dsimp only
      split <;> rfl
    · have hafter : s.psched.records[x.bay].afterEnd .success v = { s.psched.records[x.bay] with
          lastOutcome := some .success, installed := v, state := .current, attempts := 0 } := by
        rw [ProvRecord.afterEnd]
        exact if_pos hw
      rw [pschedEvent_psched_records, endSessionCore_ends hq hx (by rw [hafter]; exact fun h => nomatch h), hafter]
      exact ⟨rfl, rfl⟩
    · have hwait : (s.psched.records[x.bay].afterEnd .success v).state = .waiting := by
        rw [ProvRecord.afterEnd]
        exact congrArg ProvRecord.state (if_neg hw)
      rw [hwait] at hst
      rw [hrec]
      exact hst
  · subst hxb
    obtain ⟨hexec, hans, -, hfr⟩ := order_answered hm hr (kind := .sessionEnd)
      ((orderSessionEnd_failed hc hb h2 hv).trans (reportSession_own hx .failedReported v))
    obtain ⟨st, hrec, -, -⟩ := sessionEnds hx .failedReported v
    refine ⟨_, hexec, hans, ?_, ?_, ?_, fun ha => ?_, hfr.mono (by decide)⟩
    all_goals rw [answered_psched]
    · rw [hrec]; rfl
    · rw [hrec]; rfl
    · rw [hrec]; rfl
    · have hf : (s.psched.records[x.bay].afterEnd .failedReported v).state = .failed :=
        if_neg (Nat.not_lt.2 (Nat.succ_le_succ ha))
      rw [pschedEvent_psched_records, (endSessionCore_fails hq hx hf).1, hf]

/-! ## SET_LIMITS (R50) -/

theorem sagOfCode {x : Byte} (h : x.toNat ≤ 2) : ∃ g, SagSelect.ofCode x = some g ∧ g.code = x := by
  have : x = 0 ∨ x = 1 ∨ x = 2 := by
    simpa [BitVec.toNat_eq] using (show x.toNat = 0 ∨ x.toNat = 1 ∨ x.toNat = 2 by omega)
  obtain rfl | rfl | rfl := this <;> exact ⟨_, rfl, rfl⟩

theorem deepOfCode {x : Byte} (h : x.toNat ≤ 1) : ∃ g, DeepSelect.ofCode x = some g ∧ g.code = x := by
  have : x = 0 ∨ x = 1 := by simpa [BitVec.toNat_eq] using (show x.toNat = 0 ∨ x.toNat = 1 by omega)
  obtain rfl | rfl := this <;> exact ⟨_, rfl, rfl⟩

theorem sagOfCode_none {x : Byte} (h : 2 < x.toNat) : SagSelect.ofCode x = none := by
  rw [SagSelect.ofCode]
  split <;> first | omega | rfl

theorem deepOfCode_none {x : Byte} (h : 1 < x.toNat) : DeepSelect.ofCode x = none := by
  rw [DeepSelect.ofCode]
  split <;> first | omega | rfl

/-- The seven bits of the detail of SET_LIMITS. -/
theorem detail_bits (p : Bool) (q : Fin 6 → Bool) :
    bitIf p 0 + (List.finRange 6).foldl (fun n i => n + bitIf (q i) (i.val + 1)) 0 < 128 ∧
    (bitIf p 0 + (List.finRange 6).foldl (fun n i => n + bitIf (q i) (i.val + 1)) 0).testBit 0 = p ∧
    ∀ h : Fin 6, (bitIf p 0 + (List.finRange 6).foldl (fun n i => n + bitIf (q i) (i.val + 1)) 0).testBit (h.val + 1) =
      q h := by
  have hsum : (List.finRange 6).foldl (fun n i => n + bitIf (q i) (i.val + 1)) 0 =
      0 + bitIf (q 0) 1 + bitIf (q 1) 2 + bitIf (q 2) 3 + bitIf (q 3) 4 + bitIf (q 4) 5 + bitIf (q 5) 6 := rfl
  rw [hsum]
  have hall : ∀ p a b c d e f : Bool, ∀ v, v = bitIf p 0 + (0 + bitIf a 1 + bitIf b 2 + bitIf c 3 + bitIf d 4 +
      bitIf e 5 + bitIf f 6) → v < 128 ∧ v.testBit 0 = p ∧ v.testBit 1 = a ∧ v.testBit 2 = b ∧ v.testBit 3 = c ∧
      v.testBit 4 = d ∧ v.testBit 5 = e ∧ v.testBit 6 = f := by
    rintro p a b c d e f _ rfl
    revert p a b c d e f
    decide
  obtain ⟨h, h0, h1, h2, h3, h4, h5, h6⟩ := hall p (q 0) (q 1) (q 2) (q 3) (q 4) (q 5) _ rfl
  exact ⟨h, h0, fun i => by fin_cases i <;> assumption⟩

section
variable (l : Nat) (caps : Vector Nat 6) (sag : SagSelect) (deep : DeepSelect) (s : State)

theorem limited_settings (p : PAlloc) (input now : Nat) :
    (p.limited l caps sag deep input now).limit = clampLimit l ∧
    (p.limited l caps sag deep input now).caps = (Vector.ofFn fun i : Shelf => clampCap caps[i]) ∧
    (p.limited l caps sag deep input now).sagSelect = sag ∧ (p.limited l caps sag deep input now).deepSelect = deep ∧
    (p.limited l caps sag deep input now).supply = p.supply ∧
    (p.limited l caps sag deep input now).thermal = p.thermal ∧
    (p.limited l caps sag deep input now).reserve = p.reserve := by
  unfold PAlloc.limited
  dsimp only
  split <;> exact ⟨rfl, rfl, rfl, rfl, rfl, rfl, rfl⟩

/-- A pass keeps PALLOC's settings: those after the order are those that it set. -/
theorem applyLimits_palloc : (applyLimits l caps sag deep s).palloc.settings =
    (s.palloc.limited l caps sag deep s.vsense s.now).settings := by
  unfold applyLimits
  dsimp only
  split
  · rw [setPalloc_palloc]
  · have h : (pass (s.setPalloc (s.palloc.limited l caps sag deep s.vsense s.now))).palloc.settings = _ :=
      pass_frame _ .limits (by decide)
    rw [h, setPalloc_palloc]

end

/-- The settings that two states of PALLOC share. -/
theorem settings_each {p q : PAlloc} (h : p.settings = q.settings) : p.limit = q.limit ∧ p.caps = q.caps ∧
    p.sagSelect = q.sagSelect ∧ p.deepSelect = q.deepSelect ∧ p.supply = q.supply ∧ p.thermal = q.thermal ∧
    p.reserve = q.reserve ∧ (p.belowSag = q.belowSag ∧ p.belowDeep = q.belowDeep ∧ p.aboveSag = q.aboveSag ∧
      p.aboveDeep = q.aboveDeep) ∧ p.supervisionFactor = q.supervisionFactor ∧ p.temp = q.temp ∧
    p.invalidSamples = q.invalidSamples ∧ p.sampleSince = q.sampleSince :=
  ⟨(congrArg PAlloc.limit h :), (congrArg PAlloc.caps h :), (congrArg PAlloc.sagSelect h :),
    (congrArg PAlloc.deepSelect h :), (congrArg PAlloc.supply h :), (congrArg PAlloc.thermal h :),
    (congrArg PAlloc.reserve h :), ⟨(congrArg PAlloc.belowSag h :), (congrArg PAlloc.belowDeep h :),
      (congrArg PAlloc.aboveSag h :), (congrArg PAlloc.aboveDeep h :)⟩, (congrArg PAlloc.supervisionFactor h :),
    (congrArg PAlloc.temp h :), (congrArg PAlloc.invalidSamples h :), (congrArg PAlloc.sampleSince h :)⟩

/-- The supply timers of the order's PALLOC (R29). -/
theorem limited_timers (p : PAlloc) (l : Nat) (caps : Vector Nat 6) (sag : SagSelect) (deep : DeepSelect)
    (input now : Nat) :
    (sag = p.sagSelect → deep = p.deepSelect →
      (p.limited l caps sag deep input now).belowSag = p.belowSag ∧
      (p.limited l caps sag deep input now).belowDeep = p.belowDeep ∧
      (p.limited l caps sag deep input now).aboveSag = p.aboveSag ∧
      (p.limited l caps sag deep input now).aboveDeep = p.aboveDeep) ∧
    (sag ≠ p.sagSelect ∨ deep ≠ p.deepSelect →
      (p.limited l caps sag deep input now).belowSag = (if input < sag.threshold then some now else none) ∧
      (p.limited l caps sag deep input now).belowDeep = (if input < deep.threshold then some now else none) ∧
      (p.limited l caps sag deep input now).aboveSag = (if sag.threshold ≤ input then some now else none) ∧
      (p.limited l caps sag deep input now).aboveDeep = (if deep.threshold ≤ input then some now else none)) := by
  unfold PAlloc.limited
  dsimp only
  refine ⟨fun h1 h2 => ?_, fun h => ?_⟩
  · rw [if_pos ⟨h1, h2⟩]
    exact ⟨rfl, rfl, rfl, rfl⟩
  · rw [if_neg fun hs => h.elim (fun h1 => h1 hs.1) fun h2 => h2 hs.2]
    simp [PAlloc.restartTimers, restartWhile]

/-- An order that leaves the limit and the caps as they were takes no pass (R50). -/
theorem applyLimits_quiet {l : Nat} {caps : Vector Nat 6} {sag : SagSelect} {deep : DeepSelect} {s : State}
    (hl : (applyLimits l caps sag deep s).palloc.limit = s.palloc.limit)
    (hc : (applyLimits l caps sag deep s).palloc.caps = s.palloc.caps) :
    s.changedOnly [.limits, .counts] (applyLimits l caps sag deep s) := by
  obtain ⟨e1, e2, -⟩ := settings_each (applyLimits_palloc l caps sag deep s)
  have heq : applyLimits l caps sag deep s = s.setPalloc (s.palloc.limited l caps sag deep s.vsense s.now) :=
    if_pos ⟨e1.symm.trans hl, e2.symm.trans hc⟩
  rw [heq]
  exact setLimited_frame l caps sag deep s

/-- The decision of a good SET_LIMITS (R50). -/
theorem orderSetLimits_eq {s : State} {off : Nat} {sag : SagSelect} {deep : DeepSelect}
    (hsag : SagSelect.ofCode (s.field1 off 0x1A) = some sag) (hdeep : DeepSelect.ofCode (s.field1 off 0x1B) = some deep) :
    orderSetLimits off s = (applyLimits (s.fieldN off 0x0C 2) (s.capsOf off) sag deep s,
      ⟨if limitsDetail (s.fieldN off 0x0C 2) (s.capsOf off) = 0 then .done else .doneClamped,
        limitsDetail (s.fieldN off 0x0C 2) (s.capsOf off)⟩) := by
  simp only [orderSetLimits, hsag, hdeep, Answer.clamped]
  by_cases hd : limitsDetail (s.fieldN off 0x0C 2) (s.capsOf off) = 0 <;> simp [hd]

theorem answered_palloc (i : ListId) (off n : Nat) (l : Half) (a : Answer) (s : State) :
    (answered i off n l a s).palloc = s.palloc := rfl

/-- What the detail of SET_LIMITS says of the clamped values. -/
theorem limitsDetail_bits (l : Nat) (caps : Vector Nat 6) : limitsDetail l caps < 128 ∧
    ((limitsDetail l caps).testBit 0 = true ↔ clampLimit l ≠ l) ∧
    ∀ h : Shelf, (limitsDetail l caps).testBit (h.val + 1) = true ↔ clampCap caps[h] ≠ caps[h] := by
  obtain ⟨h1, h2, h3⟩ := detail_bits (clampLimit l != l) fun h => clampCap caps[h] != caps[h]
  refine ⟨h1, ?_, fun h => ?_⟩
  · rw [limitsDetail, h2, bne_iff_ne]
  · rw [limitsDetail, h3 h, bne_iff_ne]

/-! ## SET_THRESHOLDS (R87) -/

/-- PALLOC's part of SET_THRESHOLDS: its test is repeated if the release threshold changes. -/
def releaseThresholdSet (rel mn : Nat) (s : State) : State :=
  if rel = s.psched.releaseThreshold then s.withPsched { s.psched with releaseThreshold := rel, provMinimum := mn }
  else passIfChanged (s.withPsched { s.psched with releaseThreshold := rel, provMinimum := mn })

theorem applyThresholds_eq (rel mn : Nat) (s : State) : applyThresholds rel mn s =
    if mn = s.psched.provMinimum then releaseThresholdSet rel mn s else considerCore (releaseThresholdSet rel mn s) := rfl

theorem releaseThresholdSet_frame (rel mn : Nat) (s : State) :
    (s.withPsched { s.psched with releaseThreshold := rel, provMinimum := mn }).changedOnly passParts
      (releaseThresholdSet rel mn s) := by
  unfold releaseThresholdSet
  split
  · exact .refl _ _
  · exact passIfChanged_frame _

theorem applyThresholds_settings (rel mn : Nat) (s : State) :
    (applyThresholds rel mn s).psched.releaseThreshold = rel ∧ (applyThresholds rel mn s).psched.provMinimum = mn ∧
    (applyThresholds rel mn s).psched.mode = s.psched.mode := by
  have h := (releaseThresholdSet_frame rel mn s).mono (m := considerParts) (by decide)
  have hf : (s.withPsched { s.psched with releaseThreshold := rel, provMinimum := mn }).changedOnly considerParts
      (applyThresholds rel mn s) := by
    rw [applyThresholds_eq]
    exact ite_frame h (h.then (considerCore_frame _))
  obtain ⟨h1, h2, h3⟩ := hf .provSettings (by decide)
  exact ⟨h2, h3, h1⟩

theorem applyThresholds_considers {rel mn : Nat} {s : State} (h : mn ≠ s.psched.provMinimum) :
    (s.withPsched { s.psched with releaseThreshold := rel, provMinimum := mn }).considers
      (pschedEvent (applyThresholds rel mn) s) := by
  have hcore : (s.withPsched { s.psched with releaseThreshold := rel, provMinimum := mn }).considers
      (applyThresholds rel mn s) := by
    rw [applyThresholds_eq, if_neg h]
    exact considers_left (SameGround.of_frame (releaseThresholdSet_frame rel mn s)) (considerCore_considers _)
  exact considers_right hcore (pschedEvent_psched_records _ _) (pschedEvent_psched_queue _ _)
    (pschedEvent_psched_channels _ _) (fun b => by rw [pschedEvent_bmon]; exact ⟨rfl, rfl, rfl, rfl⟩)
    fun c x _ h => by rw [pschedEvent_palloc]; exact h

theorem applyThresholds_frame' {rel mn : Nat} {s : State} (h : mn = s.psched.provMinimum) :
    s.changedOnly (.provSettings :: passParts) (pschedEvent (applyThresholds rel mn) s) := by
  refine pschedEvent_frame ?_ (by decide)
  rw [applyThresholds_eq, if_pos h]
  exact ((thresholds_frame rel mn s).mono (by decide)).then (releaseThresholdSet_frame rel mn s)

/-- The answer of an order whose two values are clamped from above. -/
theorem clamped_above (a b : Nat) :
    Answer.clamped ((bitIf (decide (100 < a)) 0 + bitIf (decide (100 < b)) 1) != 0)
      (bitIf (decide (100 < a)) 0 + bitIf (decide (100 < b)) 1) =
    ⟨if a ≤ 100 ∧ b ≤ 100 then .done else .doneClamped, (if 100 < a then 1 else 0) + (if 100 < b then 2 else 0)⟩ := by
  by_cases ha : a ≤ 100 <;> by_cases hb : b ≤ 100 <;> simp [Answer.clamped, bitIf, ha, hb]

/-- Settles O48. -/
theorem limitsAndThresholdsAreClamped : Obligations.LimitsAndThresholdsAreClamped := by
  refine ⟨fun s i off n hm hs hr => ⟨fun h => order_refused (kind := .setLimits) (a := .badField 1) hm hr ?_,
    fun h h' => order_refused (kind := .setLimits) (a := .badField 2) hm hr ?_, fun h1 h2 => ?_⟩,
    fun s i off n hm hs hr => ?_⟩
  · simp only [OrderKind.owner, orderSetLimits, sagOfCode_none h]
  · obtain ⟨g, hg, -⟩ := sagOfCode h
    simp only [OrderKind.owner, orderSetLimits, hg, deepOfCode_none h']
  · obtain ⟨sag, hsag, hsagc⟩ := sagOfCode h1
    obtain ⟨deep, hdeep, hdeepc⟩ := deepOfCode h2
    obtain ⟨hexec, hans, hset, hfr⟩ := order_answered hm hr (kind := .setLimits) (orderSetLimits_eq hsag hdeep)
    obtain ⟨d1, d2, d3⟩ := limitsDetail_bits (s.fieldN off 0x0C 2) (s.capsOf off)
    obtain ⟨g1, g2, g3, g4, g5, g6, g7, ⟨g8, g9, g10, g11⟩, -⟩ :=
      settings_each (applyLimits_palloc (s.fieldN off 0x0C 2) (s.capsOf off) sag deep s)
    obtain ⟨e1, e2, e3, e4, e5, e6, e7⟩ :=
      limited_settings (s.fieldN off 0x0C 2) (s.capsOf off) sag deep s.palloc s.vsense s.now
    obtain ⟨k1, k2⟩ := limited_timers s.palloc (s.fieldN off 0x0C 2) (s.capsOf off) sag deep s.vsense s.now
    have hquiet := applyLimits_quiet (l := s.fieldN off 0x0C 2) (caps := s.capsOf off) (sag := sag) (deep := deep) (s := s)
    generalize s.palloc.limited (s.fieldN off 0x0C 2) (s.capsOf off) sag deep s.vsense s.now = p at *
    generalize applyLimits (s.fieldN off 0x0C 2) (s.capsOf off) sag deep s = u at *
    have hfield : ∀ h : Shelf, (s.capsOf off)[h] = s.fieldN off (0x0E + 2 * h.val) 2 := fun h => by
      simp [State.capsOf]
    have hcap : ∀ h : Shelf, u.palloc.caps[h] = clampCap (s.fieldN off (0x0E + 2 * h.val) 2) := fun h => by
      rw [← hfield h, g2, e2]
      simp
    refine ⟨_, hexec, hset hs, ?_⟩
    rw [answered_palloc, g3, e3, g4, e4, g8, g9, g10, g11]
    refine ⟨g1.trans e1, hcap, hsagc, hdeepc, g5.trans e5, g6.trans e6, g7.trans e7, k1, k2, fun hl hc => ?_,
      ⟨_, hans, d1, ?_, fun h => ?_⟩, hfr.mono (by decide)⟩
    · exact (answered_changes (hquiet hl hc) i off n _ _).mono (by decide)
    · rw [d2, g1, e1]
    · rw [d3 h, hcap h, hfield h]
  · have hord : OrderKind.setThresholds.owner off s =
        (pschedEvent (applyThresholds (min (s.field1 off 0x0C).toNat 100) (min (s.field1 off 0x0D).toNat 100)) s,
          ⟨if (s.field1 off 0x0C).toNat ≤ 100 ∧ (s.field1 off 0x0D).toNat ≤ 100 then .done else .doneClamped,
            (if 100 < (s.field1 off 0x0C).toNat then 1 else 0) +
              (if 100 < (s.field1 off 0x0D).toNat then 2 else 0)⟩) := by
      rw [← clamped_above]
      rfl
    obtain ⟨hexec, hans, hset, hfr⟩ := order_answered hm hr hord
    obtain ⟨h1, h2, h3⟩ := applyThresholds_settings (min (s.field1 off 0x0C).toNat 100)
      (min (s.field1 off 0x0D).toNat 100) s
    refine ⟨_, hexec, hset hs, ?_⟩
    rw [answered_psched, pschedEvent_psched_releaseThreshold, pschedEvent_psched_provMinimum,
      pschedEvent_psched_mode, h1, h2]
    refine ⟨rfl, rfl, h3, hans, fun h => ?_, fun h => ?_, hfr.mono (by decide)⟩
    · exact (answered_changes (applyThresholds_frame' h) i off n _ _).mono (by decide)
    · exact answered_considers (applyThresholds_considers h) i off n _ _

/-! ## The custody orders (R130, R131) -/

theorem setSlot_slot_other {i j : Fin 48} (h : j ≠ i) (r : Option CustodyRecord) (s : State) :
    (s.setSlot i r).cust.slots[j] = s.cust.slots[j] :=
  Vector.getElem_set_ne i.isLt j.isLt fun hv => h (Fin.ext hv.symm)

theorem setSlot_record_self (i : Fin 48) (r : Option CustodyRecord) (s : State) :
    (s.setSlot i r).cust.slots[i].record = r := by rw [setSlot_record, if_pos rfl]

theorem answered_cust (i : ListId) (off n : Nat) (l : Half) (a : Answer) (s : State) :
    (answered i off n l a s).cust = s.cust := rfl

theorem recordOf_eq {c : Cust} {t : Tag} {k : Fin 48} {x : CustodyRecord} (hk : c.slotOf t = some k)
    (hx : c.slots[k].record = some x) : c.recordOf t = some x := by
  rw [Cust.recordOf, hk]
  exact hx

theorem located_iff (st : CustodyState) : st.located = true ↔ st = .inCart ∨ st = .pendingRelease := by
  cases st <;> simp [CustodyState.located]

/-- R130: the second check, said by the slots and the bays. -/
theorem restoreBusy_of {s : State} {t : Tag}
    (h : (∃ (k : Fin 48) (x : CustodyRecord), s.cust.slotOf t = some k ∧ s.cust.slots[k].record = some x ∧
        (x.state = .inCart ∨ x.state = .pendingRelease)) ∨
      ∃ b : Bay, (s.bmon[b].occupancy = .present ∨ s.bmon[b].occupancy = .duplicate) ∧ s.bmon[b].tag = some t) :
    s.restoreBusy t = true := by
  rcases h with ⟨k, x, hk, hx, hst⟩ | ⟨b, ho, ht⟩
  · simp only [State.restoreBusy, recordOf_eq hk hx, (located_iff _).2 hst, Bool.true_or]
  · have hb : s.bayHoldsTag t = true :=
      List.any_eq_true.2 ⟨b, List.mem_finRange b, by simpa [ht, -Fin.getElem_fin] using ho⟩
    rw [State.restoreBusy, hb, Bool.or_true]

section
variable {s : State} {off : Nat}

theorem orderCustodyRestore_passes (ht : s.fieldTag off 0x10 ≠ BitVec.allOnes 48)
    (h1 : s.restoreBusy (s.fieldTag off 0x10) = false)
    (h2 : s.restoreHolderBusy (s.fieldTag off 0x10) (s.fieldToken off 0x16) = false) :
    orderCustodyRestore off s = restoreCustody (s.fieldTag off 0x10) (s.fieldToken off 0x16) s := by
  simp only [orderCustodyRestore, noTag, if_neg ht, h1, h2, Bool.false_eq_true, if_false]

theorem orderForgetTablet_located {k : Fin 48} {x : CustodyRecord} (ht : s.fieldTag off 0x10 ≠ BitVec.allOnes 48)
    (hk : s.cust.slotOf (s.fieldTag off 0x10) = some k) (hx : s.cust.slots[k].record = some x) :
    orderForgetTablet off s = if x.state.located then refuse (.busy 1) s
      else (custEvent (fun s => s.setSlot k none) s, .done) := by
  simp only [orderForgetTablet, noTag, if_neg ht, hk, recordOf_eq hk hx]

end

/-- A free slot shows 0xFF in every field behind its change count (Table 11-4). -/
theorem freeSlot_bytes {s : State} {k : Fin 48} (h : s.cust.slots[k].record = none) {a : Nat}
    (h1 : 0x0B01 + 0x20 * k.val ≤ a) (h2 : a ≤ 0x0B13 + 0x20 * k.val) : s.byteAt a = 0xFF := by
  obtain ⟨p, rfl⟩ := Nat.exists_eq_add_of_le h1
  have hp : p < 19 := by omega
  have hb := byteAt_slotFields s k (k := p) (by omega)
  rw [h] at hb
  rw [show 0x0B01 + 0x20 * k.val + p = 0x0B00 + 0x20 * k.val + 0x01 + p by omega, hb]
  exact byteIn_absent hp

/-- Settles O56. -/
theorem custodyOrdersSetAndFreeSlots : Obligations.CustodyOrdersSetAndFreeSlots := by
  refine ⟨fun s i off n hm hr => ⟨fun ht => order_refused (kind := .custodyRestore) (a := .badField 1) hm hr ?_,
    fun ht => ⟨fun h => order_refused (kind := .custodyRestore) (a := .busy 1) hm hr ?_, fun h1 h2 =>
    order_refused (kind := .custodyRestore) (a := .busy 4) hm hr ?_, fun h1 h2 => ⟨fun hk hfree =>
    order_refused (kind := .custodyRestore) (a := ⟨.full, 0⟩) hm hr ?_, fun k hk hfree => ?_, fun k x hk hx => ?_⟩⟩⟩,
    fun s i off n hm hr => ⟨fun ht => order_refused (kind := .forgetTablet) (a := .badField 1) hm hr ?_,
    fun ht hk => order_refused (kind := .forgetTablet) (a := ⟨.notFound, 0⟩) hm hr ?_, fun k x ht hk hx =>
    ⟨fun hst => order_refused (kind := .forgetTablet) (a := .busy 1) hm hr ?_, fun hst => ?_⟩⟩⟩
  · simp only [OrderKind.owner, orderCustodyRestore, noTag, if_pos ht]
  · simp only [OrderKind.owner, orderCustodyRestore, noTag, if_neg ht, restoreBusy_of h, if_true]
  · simp only [OrderKind.owner, orderCustodyRestore, noTag, if_neg ht, h1, h2, Bool.false_eq_true, if_false, if_true]
  · refine (orderCustodyRestore_passes ht h1 h2).trans ?_
    simp only [restoreCustody, hk, hfree]
  · have hord : orderCustodyRestore off s = (custEvent (fun u => u.setSlot k (some (CustodyRecord.fresh
        (s.fieldTag off 0x10) .out none (s.fieldToken off 0x16) u.minute))) s, .done) := by
      refine (orderCustodyRestore_passes ht h1 h2).trans ?_
      simp only [restoreCustody, hk, hfree]
    obtain ⟨hexec, hans, -, hfr⟩ := order_answered hm hr (kind := .custodyRestore) hord
    refine ⟨_, hexec, hans, ?_, fun j hj => ?_, hfr.mono (by decide)⟩
    · rw [answered_cust, custEvent_cust, setSlot_record_self]
      rfl
    · rw [answered_cust, custEvent_cust]
      exact setSlot_slot_other hj _ s
  · have hord : orderCustodyRestore off s = (custEvent (fun u => u.setSlot k (u.cust.slots[k].record.map fun r =>
        r.restored (s.fieldToken off 0x16) u.minute)) s, .done) := by
      refine (orderCustodyRestore_passes ht h1 h2).trans ?_
      simp only [restoreCustody, hk]
    obtain ⟨hexec, hans, -, hfr⟩ := order_answered hm hr (kind := .custodyRestore) hord
    refine ⟨_, hexec, hans, ?_, fun j hj => ?_, hfr.mono (by decide)⟩
    · rw [answered_cust, custEvent_cust, setSlot_record_self, hx]
      rfl
    · rw [answered_cust, custEvent_cust]
      exact setSlot_slot_other hj _ s
  · simp only [OrderKind.owner, orderForgetTablet, noTag, if_pos ht]
  · simp only [OrderKind.owner, orderForgetTablet, noTag, if_neg ht, hk]
  · exact (orderForgetTablet_located ht hk hx).trans (if_pos ((located_iff _).2 hst))
  · have hloc : ¬x.state.located = true := fun h => by
      rcases (located_iff _).1 h with e | e <;> rw [e] at hst <;> simp at hst
    obtain ⟨hexec, hans, -, hfr⟩ :=
      order_answered hm hr (kind := .forgetTablet) ((orderForgetTablet_located ht hk hx).trans (if_neg hloc))
    have hnone : (answered i off n (s.linkOf off) .done (custEvent (fun s => s.setSlot k none) s)).cust.slots[k].record
        = none := by
      rw [answered_cust, custEvent_cust, setSlot_record_self]
    refine ⟨_, hexec, hans, hnone, fun j hj => ?_, fun a ha ha' => freeSlot_bytes hnone ha ha', hfr.mono (by decide)⟩
    rw [answered_cust, custEvent_cust]
    exact setSlot_slot_other hj _ s

end Sys2Proof.Machine
end

section
/-! PROOF. The rules of the Custody Unit: a change of the record at a bay, the end of a release unopened (R123), a fill
of a FREE entry (R118), the answer to a student who is deciding (R114), and the clearing of a bay (R127, R128). -/

namespace Sys2Proof.Machine

-- One declaration after the other: the check compiles the whole text within a memory bound.
set_option Elab.async false

/-! ## The record at a bay -/

/-- What a change of the record located at a bay leaves of the other state of CUST. -/
theorem changeRecordAt_rest (b : Bay) (f : CustodyRecord → CustodyRecord) (s : State) :
    (changeRecordAt b f s).cust.journal = s.cust.journal ∧
    (changeRecordAt b f s).cust.nextSequence = s.cust.nextSequence ∧
    (changeRecordAt b f s).cust.releases = s.cust.releases :=
  ⟨(changeRecordAt_frame b f s .journal (by decide)).1, (changeRecordAt_frame b f s .journal (by decide)).2,
    changeRecordAt_frame b f s .releases (by decide)⟩

/-- `t` holds the record located at bay `b` changed by `f`, if there is one, and every other slot as it was. -/
def State.changesRecordAt (s : State) (b : Bay) (f : CustodyRecord → CustodyRecord) (t : State) : Prop :=
  ∀ (i : Fin 48) (x : CustodyRecord), s.cust.slotAt b = some i → s.cust.slots[i].record = some x →
    t.cust.slots[i].record = some (f x) ∧ ∀ k : Fin 48, k ≠ i → t.cust.slots[k] = s.cust.slots[k]

theorem changeRecordAt_changes (b : Bay) (f : CustodyRecord → CustodyRecord) (s : State) :
    s.changesRecordAt b f (changeRecordAt b f s) := fun i x hi hx => by
  rw [changeRecordAt_slotAt hi, hx]
  exact ⟨setSlot_record_self i _ s, fun k hk => setSlot_slot_other hk _ s⟩

/-! ## The end of a release unopened (R123) -/

/-- `t` holds what the end of release `r` of bay `b` unopened leaves of CUST's state. -/
structure State.Reverts (s : State) (b : Bay) (r : Release) (t : State) : Prop where
  releases : t.cust.releases = s.cust.releases.set b none
  record : r.recorded = true → s.changesRecordAt b (fun x => x.toCart b s.minute) t
  journal : ∀ j : Fin 48, r.recorded = true → r.held = some j →
    t.cust.journal = s.cust.journal.set j { s.cust.journal[j] with state := .free }
  sequence : t.cust.nextSequence = s.cust.nextSequence
  unrecorded : r.recorded = false → t.cust.slots = s.cust.slots ∧ t.cust.journal = s.cust.journal

theorem State.Reverts.right {s t u : State} {b : Bay} {r : Release} (h : s.Reverts b r t) (hc : u.cust = t.cust) :
    s.Reverts b r u := by
  obtain ⟨h1, h2, h3, h4, h5⟩ := h
  constructor <;> simpa only [hc, State.changesRecordAt]

theorem State.Reverts.left {s t u : State} {b : Bay} {r : Release} (h : u.Reverts b r t) (hc : u.cust = s.cust)
    (ha : u.acc = s.acc) : s.Reverts b r t := by
  obtain ⟨h1, h2, h3, h4, h5⟩ := h
  have hm : u.minute = s.minute := by rw [State.minute, ha]; rfl
  simp only [State.changesRecordAt, hc, hm] at h1 h2 h3 h4 h5
  exact ⟨h1, h2, h3, h4, h5⟩

theorem State.Reverts.cleared {s t : State} {b : Bay} {r : Release} (h : s.Reverts b r t) :
    t.cust.releases[b] = none := by
  rw [h.releases]
  exact Vector.getElem_set_self _

theorem endUnopened_reverts {s : State} {b : Bay} {r : Release} (h : s.cust.releases[b] = some r) :
    s.Reverts b r (endUnopened b s) := by
  obtain ⟨hj, hn, hr⟩ := changeRecordAt_rest b (fun x => x.toCart b s.minute) s
  have hch := changeRecordAt_changes b (fun x => x.toCart b s.minute) s
  by_cases hrec : r.recorded = true
  · cases hh : r.held with
    | none =>
      have hc : (endUnopened b s).cust = { (changeRecordAt b (fun x => x.toCart b s.minute) s).cust with
          releases := s.cust.releases.set b none } := by
        simp only [endUnopened, h, hrec, hh, if_true, consider_cust, setRelease_cust, hr]
      refine ⟨by rw [hc], fun _ => ?_, fun j _ e => by simp [hh] at e, by rw [hc]; exact hn,
        fun e => by simp [hrec] at e⟩
      simpa only [State.changesRecordAt, hc] using hch
    | some j =>
      have hc : (endUnopened b s).cust = { (changeRecordAt b (fun x => x.toCart b s.minute) s).cust with
          releases := s.cust.releases.set b none
          journal := s.cust.journal.set j { s.cust.journal[j] with state := .free } } := by
        simp only [endUnopened, h, hrec, hh, if_true, consider_cust, setRelease_cust, freeJournal, setJournal_cust, hr, hj]
      refine ⟨by rw [hc], fun _ => ?_, fun k _ e => ?_, by rw [hc]; exact hn, fun e => by simp [hrec] at e⟩
      · simpa only [State.changesRecordAt, hc] using hch
      · obtain rfl : j = k := Option.some.inj (hh.symm.trans e)
        rw [hc]
  · have hc : (endUnopened b s).cust = { s.cust with releases := s.cust.releases.set b none } := by
      simp only [endUnopened, h, if_neg hrec, setRelease_cust]
    exact ⟨by rw [hc], fun e => absurd e hrec, fun _ e => absurd e hrec, by rw [hc], fun _ => by rw [hc]; exact ⟨rfl, rfl⟩⟩

/-! ## A fill of a FREE entry (R118) -/

theorem fillsFree_right {s t u : State} {k : JournalKind} {b : Bay} {tag : Option Tag} {h : Option Token} {m : Bool}
    (hf : s.fillsFree k b tag h m t) (hj : u.cust.journal = t.cust.journal)
    (hq : u.cust.nextSequence = t.cust.nextSequence) (hn : t.nctl.noted u.nctl) : s.fillsFree k b tag h m u := by
  obtain ⟨h1, h2⟩ := hf
  refine ⟨fun e => ?_, fun e => ?_⟩
  · rw [hj, hq]
    exact h1 e
  · obtain ⟨g1, g2, g3⟩ := h2 e
    rw [hj, hq]
    refine ⟨g1, g2, fun j e => ?_⟩
    obtain ⟨f1, f2⟩ := g3 j e
    exact ⟨f1, fun hc hcap => hn.request (f2 hc hcap)⟩

theorem fillsFree_left {s t u : State} {k : JournalKind} {b : Bay} {tag : Option Tag} {h : Option Token} {m : Bool}
    (hf : u.fillsFree k b tag h m t) (hj : u.cust.journal = s.cust.journal)
    (hq : u.cust.nextSequence = s.cust.nextSequence) (ha : u.acc = s.acc) (hn : s.nctl.noted u.nctl) :
    s.fillsFree k b tag h m t := by
  have hm : u.minute = s.minute := by rw [State.minute, ha]; rfl
  have hfree : u.cust.freeEntry = s.cust.freeEntry := by rw [Cust.freeEntry, Cust.freeEntry, hj]
  have hcount : u.cust.freeCount = s.cust.freeCount := by rw [Cust.freeCount, Cust.freeCount, hj]
  have hcap := hn.capture 9
  rw [State.fillsFree, hj, hq, hm, hfree, hcount, hcap] at hf
  exact hf

theorem fillFree_fills (f : Fill) (s : State) : s.fillsFree f.kind f.bay f.tag f.holder f.misplaced (fillFree f s) := by
  refine ⟨fun h => ?_, fun h => ?_⟩
  · have : fillFree f s = s := if_pos h
    rw [this]
    exact ⟨rfl, rfl⟩
  · have hne : ¬s.cust.nextSequence = Config.lastSequence := h
    cases hj : s.cust.freeEntry with
    | none =>
      have heq : fillFree f s = advanceSequence s := by simp only [fillFree, if_neg hne, hj]
      rw [heq]
      exact ⟨rfl, fun _ => rfl, fun j e => by simp at e⟩
    | some j =>
      have heq : fillFree f s = journalLow s.cust.freeCount
          (advanceSequence (s.setJournal j (f.entry s.cust.nextSequence s.minute))) := by
        simp only [fillFree, if_neg hne, hj]
      have hlow : ∀ (n : Nat) (t : State), (journalLow n t).cust = t.cust := fun n t =>
        cust_of_frame (journalLow_frame n t)
      rw [heq, hlow]
      refine ⟨rfl, fun e => by simp at e, fun k e => ?_⟩
      obtain rfl : j = k := Option.some.inj e
      refine ⟨rfl, fun h4 hc => ?_⟩
      rw [journalLow, if_pos h4]
      exact raise_request .journalLow rfl hc

/-! ## The answer to a student who is deciding (R114) -/

/-- `t` holds the answer to a transaction that is DECIDING on bay `b`, and nothing on the reader port without one. -/
def State.answersDeciding (s : State) (b : Bay) (v : VerdictFrame) (t : State) : Prop :=
  (∀ x : Transaction, s.acc.transaction = some x → x.bay = b →
    t.acc.transaction = none ∧ t.out.txd = s.out.txd ++ [v]) ∧
  ((∀ x : Transaction, s.acc.transaction = some x → x.bay ≠ b) →
    t.acc.transaction = s.acc.transaction ∧ t.out.txd = s.out.txd)

theorem answersDeciding_right {s t u : State} {b : Bay} {v : VerdictFrame} (h : s.answersDeciding b v t)
    (ha : u.acc.transaction = t.acc.transaction) (ho : u.out.txd = t.out.txd) : s.answersDeciding b v u := by
  rw [State.answersDeciding, ha, ho]
  exact h

theorem answersDeciding_left {s t u : State} {b : Bay} {v : VerdictFrame} (h : u.answersDeciding b v t)
    (ha : u.acc.transaction = s.acc.transaction) (ho : u.out.txd = s.out.txd) : s.answersDeciding b v t := by
  rw [State.answersDeciding, ha, ho] at h
  exact h

theorem answerDeciding_answers (b : Bay) (v : Verdict) (f : Byte) (r : Reason) (s : State) :
    s.answersDeciding b ⟨v.code, f, r.code⟩ (answerDeciding b v f r s) := by
  refine ⟨fun x hx hb => ?_, fun h => ?_⟩
  · simp only [answerDeciding, hx, if_pos hb]
    exact ⟨rfl, rfl⟩
  · have : answerDeciding b v f r s = s := by
      unfold answerDeciding
      split
      · next x hx => exact if_neg (h x hx)
      · rfl
    rw [this]
    exact ⟨rfl, rfl⟩

/-! ## The clearing of a bay (R127, R128) -/

theorem recordAt_eq {s : State} {b : Bay} {i : Fin 48} {x : CustodyRecord} (hi : s.cust.slotAt b = some i)
    (hx : s.cust.slots[i].record = some x) : s.cust.recordAt b = some x :=
  (recordAt_eq_some s.cust b x).2 ⟨i, hi, hx⟩

theorem clearBay_located {s : State} {b : Bay} {tag : Option Tag} {i : Fin 48} {x : CustodyRecord}
    (hi : s.cust.slotAt b = some i) (hx : s.cust.slots[i].record = some x) :
    clearBay b tag s = if some x.tag = tag then s
      else changeRecordAt b (fun x => x.leave .missing b none s.minute) s := by
  simp only [clearBay, recordAt_eq hi hx]

theorem clearBay_empty {s : State} {b : Bay} (h : s.cust.slotAt b = none) (tag : Option Tag) : clearBay b tag s = s := by
  have : s.cust.recordAt b = none := by rw [Cust.recordAt, h]; rfl
  simp only [clearBay, this]

/-- A clearing changes no slot but that of the record located at the bay, and only if it carries another tag. -/
theorem clearBay_rest (b : Bay) (tag : Option Tag) (s : State) :
    (clearBay b tag s).cust.journal = s.cust.journal ∧
    (clearBay b tag s).cust.nextSequence = s.cust.nextSequence ∧
    (clearBay b tag s).cust.releases = s.cust.releases :=
  ⟨(clearBay_frame b tag s .journal (by decide)).1, (clearBay_frame b tag s .journal (by decide)).2,
    clearBay_frame b tag s .releases (by decide)⟩

/-- The record of another tag located at the bay becomes MISSING. -/
theorem clearBay_missing {s : State} {b : Bay} {tag : Option Tag} {i : Fin 48} {x : CustodyRecord}
    (hi : s.cust.slotAt b = some i) (hx : s.cust.slots[i].record = some x) (ht : some x.tag ≠ tag) :
    (clearBay b tag s).cust.slots[i].record = some (x.leave .missing b none s.minute) ∧
    ∀ k : Fin 48, k ≠ i → (clearBay b tag s).cust.slots[k] = s.cust.slots[k] := by
  rw [clearBay_located hi hx, if_neg ht]
  exact changeRecordAt_changes b (fun x => x.leave .missing b none s.minute) s i x hi hx

end Sys2Proof.Machine
end

section
/-! PROOF. The Bay Monitor's inputs and counts: the input pins (R1, R10, R13, R21), the attach (R2), the failed tag
reads (R3, R5), the charge level (R14 to R16), the latch sense (R13), and the ends of a release unopened (R123,
R137). -/

namespace Sys2Proof.Machine

-- One declaration after the other: the check compiles the whole text within a memory bound.
set_option Elab.async false

theorem due_some {t n now : Nat} (h : t + n ≤ now) : due (some t) n now = true := decide_eq_true h

theorem within_some {t n now : Nat} (h : now ≤ t + n) : within (some t) n now = true := decide_eq_true h

/-! ## The input pins (R1, R10, R13, R21) -/

/-- The entry of a bay with its presence reading `v` counted (R1). -/
def BayEntry.presenceCounted (e : BayEntry) (v : Bool) (now : Nat) : BayEntry :=
  { e with presenceDebounce := if v = true ↔ e.occupancy = .empty then some now else none }

/-- The state in which a presence reading has started, stopped or restarted its count. -/
def presencePinned (b : Bay) (v : Bool) (s : State) : State :=
  (s.setPins b { s.pins[b] with presence := v }).setEntry b (s.bmon[b].presenceCounted v s.now)

theorem presenceChange_eq {b : Bay} {v : Bool} {s : State} (h : s.pins[b].presence ≠ v) :
    presenceChange b v s = if v = true ∧ s.bmon[b].occupancy ≠ .empty ∧ s.bmon[b].presenceDebounce ≠ none then
      custLossAbandoned b (presencePinned b v s) else presencePinned b v s := by
  unfold presenceChange presencePinned BayEntry.presenceCounted
  rw [if_neg h]
  by_cases ho : s.bmon[b].occupancy = .empty
  · cases v <;> simp [ho, restartWhile, -Fin.getElem_fin]
  · cases v
    · simp [ho, -Fin.getElem_fin]
    · cases hd : s.bmon[b].presenceDebounce <;> simp [ho, hd, -Fin.getElem_fin]

theorem presencePinned_pins (b : Bay) (v : Bool) (s : State) :
    (presencePinned b v s).pins = s.pins.set b { s.pins[b] with presence := v } ∧
    (presencePinned b v s).vsense = s.vsense ∧
    (presencePinned b v s).bmon = s.bmon.set b (s.bmon[b].presenceCounted v s.now) ∧
    s.changedOnly [.pins, .bays] (presencePinned b v s) := by
  refine ⟨?_, ?_, ?_, ((setPins_frame b _ s).mono (by decide)).then (setEntry_quiet_frame ?_ ?_)⟩
  · simp [presencePinned, State.setPins]
  · simp [presencePinned, State.setPins]
  · simp [presencePinned, State.setPins]
  · rfl
  · exact ⟨rfl, rfl, rfl, rfl⟩

theorem custLossAbandoned_idle {b : Bay} {s : State}
    (h : s.bmon[b].door = .opened ∨ ∀ r : Release, s.cust.releases[b] = some r → r.stage ≠ .opened) :
    custLossAbandoned b s = s := by
  unfold custLossAbandoned
  split
  · next r hr =>
    refine if_neg fun ⟨h1, h2⟩ => ?_
    rcases h with h | h
    · exact absurd (h.symm.trans h2) (by decide)
    · exact h r hr h1
  · rfl

theorem custLossAbandoned_ends {b : Bay} {s : State} {r : Release} (hr : s.cust.releases[b] = some r)
    (hs : r.stage = .opened) (hd : s.bmon[b].door = .closed) : custLossAbandoned b s = endUnopened b s := by
  simp only [custLossAbandoned, hr]
  exact if_pos ⟨hs, hd⟩

/-- A presence reading that ends no release. -/
theorem presenceChange_counts {b : Bay} {v : Bool} {s : State} (h : s.pins[b].presence ≠ v)
    (hc : v = false ∨ s.bmon[b].occupancy = .empty ∨ s.bmon[b].presenceDebounce = none ∨ s.bmon[b].door = .opened ∨
      ∀ r : Release, s.cust.releases[b] = some r → r.stage ≠ .opened) :
    presenceChange b v s = presencePinned b v s := by
  obtain ⟨-, -, h3, h4⟩ := presencePinned_pins b v s
  have hdoor : (presencePinned b v s).bmon[b].door = s.bmon[b].door := by
    rw [h3]
    exact (congrArg BayEntry.door (Vector.getElem_set_self b.isLt)).trans rfl
  rw [presenceChange_eq h]
  split
  · next hl =>
    refine custLossAbandoned_idle ?_
    rw [hdoor, cust_of_frame h4]
    rcases hc with e | e | e | e | e
    · simp [e] at hl
    · exact absurd e hl.2.1
    · exact absurd e hl.2.2
    · exact .inl e
    · exact .inr e
  · rfl

/-- A return of presence during the loss debounce ends a release in OPENED behind a CLOSED door (R122). -/
theorem presenceChange_ends {b : Bay} {s : State} {r : Release} (h : s.pins[b].presence ≠ true)
    (ho : s.bmon[b].occupancy ≠ .empty) (hd : s.bmon[b].presenceDebounce ≠ none) (hdoor : s.bmon[b].door = .closed)
    (hr : s.cust.releases[b] = some r) (hs : r.stage = .opened) :
    presenceChange b true s = endUnopened b (presencePinned b true s) := by
  obtain ⟨-, -, h3, h4⟩ := presencePinned_pins b true s
  have hdoor' : (presencePinned b true s).bmon[b].door = .closed := by
    rw [h3]
    exact (congrArg BayEntry.door (Vector.getElem_set_self b.isLt)).trans hdoor
  rw [presenceChange_eq h, if_pos ⟨rfl, ho, hd⟩]
  exact custLossAbandoned_ends (by rw [cust_of_frame h4]; exact hr) hs hdoor'

/-- The end of a release raises no notice. -/
theorem endUnopened_quiet (b : Bay) (s : State) :
    s.changedOnly (.custody :: .releases :: .journal :: considerParts) (endUnopened b s) := by
  unfold endUnopened
  split
  · exact .refl s _
  · split
    · refine State.changedOnly.then ?_ (consider_frame _)
      refine State.changedOnly.then ?_ (setRelease_frame b none _)
      split
      · exact ((changeRecordAt_frame b _ s).mono (by decide)).then (setJournal_frame _ _ _)
      · exact (changeRecordAt_frame b _ s).mono (by decide)
    · exact (setRelease_frame b none s).mono (by decide)

/-- Settles O25. -/
theorem inputPinsStartTheirCounts : Obligations.InputPinsStartTheirCounts := by
  refine fun s b => ⟨fun v h => ?_, fun v h => ?_, fun v h => ?_, fun v h => ?_⟩
  · refine ⟨_, rfl, doorInput_frame b (doorReading v) s, ?_, ?_, ?_⟩ <;> rw [doorInput, if_neg h] <;>
      simp [State.setPins, restartWhile, -Fin.getElem_fin]
  · refine ⟨_, rfl, latchInput_frame b (latchReading v) s, ?_, ?_, ?_⟩ <;> rw [latchInput, if_neg h] <;>
      simp [State.setPins, restartWhile, -Fin.getElem_fin]
  · have hf := faultLevel_frame b v s
    have heq : faultLevel b v s = if s.bmon[b].path.watched = true then
        (s.setPins b { s.pins[b] with atFault := v }).setEntry b
          { s.bmon[b] with faultTimer := restartWhile v s.now }
        else s.setPins b { s.pins[b] with atFault := v } := if_neg h
    refine ⟨_, rfl, hf, ?_, ?_, fun hp => ?_, fun hp => ?_⟩ <;> rw [heq]
    · split <;> simp [State.setPins]
    · split <;> simp [State.setPins]
    · have hw : s.bmon[b].path.watched = true := by rcases hp with e | e <;> rw [e] <;> rfl
      rw [if_pos hw]
      simp [State.setPins, restartWhile]
    · have hw : ¬s.bmon[b].path.watched = true := by rcases hp with e | e <;> rw [e] <;> exact nofun
      rw [if_neg hw]
      simp [State.setPins]
  · obtain ⟨h1, h2, h3, h4⟩ := presencePinned_pins b v s
    have hentry : (presencePinned b v s).bmon[b] = s.bmon[b].presenceCounted v s.now := by
      rw [h3]
      exact Vector.getElem_set_self b.isLt
    refine ⟨_, rfl, ?_⟩
    by_cases hc : v = false ∨ s.bmon[b].occupancy = .empty ∨ s.bmon[b].presenceDebounce = none ∨
        s.bmon[b].door = .opened ∨ ∀ r : Release, s.cust.releases[b] = some r → r.stage ≠ .opened
    · rw [presenceChange_counts h hc]
      refine ⟨h1, h2, by rw [hentry]; rfl, by rw [hentry]; rfl, fun _ => ⟨h4, by rw [hentry]; exact h3⟩,
        fun r e1 e2 e3 e4 e5 e6 => ?_⟩
      rcases hc with e | e | e | e | e
      · exact absurd (e1.symm.trans e) (by decide)
      · exact absurd e e2
      · exact absurd e e3
      · exact absurd (e4.symm.trans e) (by decide)
      · exact absurd e6 (e r e5)
    · have hv : v = true := by
        cases v
        · exact absurd (.inl rfl) hc
        · rfl
      subst hv
      obtain ⟨r, hr, hs⟩ : ∃ r, s.cust.releases[b] = some r ∧ r.stage = .opened := by
        by_contra hno
        exact hc (.inr (.inr (.inr (.inr fun r hr hs => hno ⟨r, hr, hs⟩))))
      have ho : s.bmon[b].occupancy ≠ .empty := fun e => hc (.inr (.inl e))
      have hd : s.bmon[b].presenceDebounce ≠ none := fun e => hc (.inr (.inr (.inl e)))
      have hdoor : s.bmon[b].door = .closed := by
        cases e : s.bmon[b].door
        · rfl
        · exact absurd (.inr (.inr (.inr (.inl e)))) hc
      have hf := endUnopened_quiet b (presencePinned b true s)
      have hbody : (endUnopened b (presencePinned b true s)).bmon[b].body =
          (s.bmon[b].presenceCounted true s.now).body := by
        rw [body_of_frame hf (by decide) b, hentry]
      have hrev := (endUnopened_reverts (s := presencePinned b true s) (b := b)
        (by rw [cust_of_frame h4]; exact hr)).left (cust_of_frame h4) (acc_of_frame h4)
      have hcount : (s.bmon[b].presenceCounted true s.now).presenceDebounce = none := by
        simp [BayEntry.presenceCounted, ho, -Fin.getElem_fin]
      rw [presenceChange_ends h ho hd hdoor hr hs]
      refine ⟨(pins_of_frame hf).trans h1, (vsense_of_frame hf).trans h2, (body_fields hbody).1,
        (body_fields hbody).2.1, fun e => absurd e hc, fun r' _ _ _ _ e _ => ?_⟩
      obtain rfl : r = r' := Option.some.inj (hr.symm.trans e)
      refine ⟨hrev.cleared, fun i x hrec hi hx => hrev.record hrec i x hi hx, hrev.journal, fun x hx => ?_,
        hbody.trans ?_, (h4.mono (by decide)).trans (hf.mono (by decide))⟩
      · rw [body_of_frame hf (by decide) x, h3]
        exact congrArg BayEntry.body (Vector.getElem_set_ne b.isLt x.isLt fun e => hx (Fin.ext e.symm))
      · simp only [BayEntry.presenceCounted, ho]
        rfl

/-! ## The attach (R2) -/

/-- Settles O26. -/
theorem attachStartsTheTagRead : Obligations.AttachStartsTheTagRead := by
  intro s b since ho hd hdue
  have heq : attachBay b s = pass ((s.setEntry b (s.bmon[b].attached s.now)).setCharge b (s.cctl[b].negotiate s.now)) :=
    if_pos ⟨ho, by rw [hd]; exact due_some hdue⟩
  have hbody : ∀ x : Bay, (attachBay b s).cctl[x].body =
      if x = b then (s.cctl[b].negotiate s.now).body else s.cctl[x].body := fun x => by
    rw [heq, chargeBody_of_frame (pass_frame _) (by decide) x, setCharge_charge]
    split
    · rfl
    · rw [setEntry_cctl]
  have hb := (hbody b).trans (if_pos rfl)
  refine ⟨_, rfl, ?_, (congrArg ChargeBay.state hb :), (congrArg ChargeBay.demand hb :),
    (congrArg ChargeBay.negotiation hb :), (congrArg ChargeBay.trips hb :), fun x hx => (hbody x).trans (if_neg hx),
    by rw [heq]; exact pass_settled _, attachBay_frame b s⟩
  rw [heq, pass_bmon, setCharge_bmon, setEntry_bmon]
  rfl

/-! ## Failed tag reads (R3, R5) -/

theorem failAttempt_of {s : State} {b : Bay} {r : TagRead} {i : Instr} (ho : s.bmon[b].occupancy = .settling)
    (ht : s.bmon[b].tagRead = some r)
    (hi : (∃ tag : Tag, i = .tagFrame b tag false ∧ s.now ≤ r.since + 250) ∨
      (∃ ok : Bool, i = .tagFrame b (BitVec.allOnes 48) ok ∧ s.now ≤ r.since + 250) ∨
      (i = .tagReadAttemptExpiry b ∧ r.since + 250 ≤ s.now)) : exec i s = .next (failAttempt b r s) := by
  have harrives : ∀ (tag : Tag) (ok : Bool), s.now ≤ r.since + 250 → ¬(ok = true ∧ tag ≠ noTag) →
      tagFrameArrives b tag ok s = failAttempt b r s := fun tag ok hw hno => by
    simp only [tagFrameArrives, ht, ho, Config.tagWait, within_some hw, true_and, if_true, if_neg hno]
  rcases hi with ⟨tag, rfl, hw⟩ | ⟨ok, rfl, hw⟩ | ⟨rfl, hdue⟩
  · exact congrArg Host.Outcome.next (harrives tag false hw fun h => nomatch h.1)
  · exact congrArg Host.Outcome.next (harrives noTag ok hw fun h => h.2 rfl)
  · have heq : tagReadExpires b s = failAttempt b r s := by
      simp only [tagReadExpires, ht, ho, Config.tagWait, due_some hdue, true_and, if_true]
    exact congrArg Host.Outcome.next heq

/-- A bay whose path is not WATCH keeps its entry over CUST's clearing of it. -/
theorem custOtherEntry_bmon {b : Bay} {tag : Option Tag} {s : State} (h : s.bmon[b].path ≠ .watch) :
    (custOtherEntry b tag s).bmon[b] = s.bmon[b] := by
  have hclear : (clearBay b tag s).bmon = s.bmon := by
    unfold clearBay changeRecordAt
    repeat' split
    all_goals rfl
  rw [custOtherEntry, custEvent_bmon, (consider_untouched (.inr (by rw [hclear]; exact h))).2, hclear]

theorem custOtherEntry_cust (b : Bay) (tag : Option Tag) (s : State) :
    (custOtherEntry b tag s).cust = (clearBay b tag s).cust := by
  rw [custOtherEntry, custEvent_cust, consider_cust]

/-- Settles O29. -/
theorem failedTagReadsEndInAnon : Obligations.FailedTagReadsEndInAnon := by
  intro s b r i ho ht hi
  refine ⟨_, failAttempt_of ho ht hi, fun h => ?_, fun h => ?_⟩
  · rw [failAttempt, if_pos h]
    exact ⟨setEntry_bmon .., setEntry_quiet_frame rfl ⟨rfl, rfl, rfl, rfl⟩⟩
  · have heq : failAttempt b r s = enterAnon b s := if_neg (Nat.not_lt.2 h)
    rw [heq]
    have hf := enterAnon_frame b s
    set v := pass (s.setEntry b
      { s.bmon[b] with occupancy := .anon, tag := none, tagRead := none, level := none, path := .dark }) with hv
    have hent : ∀ x : Bay, v.bmon[x] = if x = b then
        { s.bmon[b] with occupancy := .anon, tag := none, tagRead := none, level := none, path := .dark }
        else s.bmon[x] := fun x => by rw [hv, pass_bmon, setEntry_entry]
    have hb := (hent b).trans (if_pos rfl)
    have hcust : v.cust = s.cust := by rw [hv, pass_cust, setEntry_cust]
    have hmin : v.minute = s.minute := by rw [State.minute, hv, pass_acc, setEntry_acc]; rfl
    have hbody : ∀ x : Bay, (enterAnon b s).bmon[x].body = v.bmon[x].body := fun x =>
      body_of_frame (custOtherEntry_frame b none v) (by decide) x
    have hc : (enterAnon b s).cust = (clearBay b none v).cust := custOtherEntry_cust b none v
    obtain ⟨c1, c2, c3⟩ := clearBay_rest b none v
    refine ⟨fun x hx => ?_, ?_, ?_, fun k x hk hx => ?_, ?_, ?_, hf.mono (by decide)⟩
    · rw [hbody x, hent x, if_neg hx]
    · rw [enterAnon, ← hv, custOtherEntry_bmon (by rw [hb]; exact nofun), hb]
    · rw [hbody b, hb]
      rfl
    · have hmiss := clearBay_missing (s := v) (b := b) (tag := none) (by rw [hcust]; exact hk) (by rw [hcust]; exact hx)
        (by simp)
      rw [hcust, hmin] at hmiss
      rw [hc]
      exact hmiss
    · rw [hc, c1, hcust]
    · rw [hc, c2, hcust]

/-! ## The charge level (R14 to R16) -/

theorem levelEvent_quiet (b : Bay) (s : State) : s.changedOnly (.choices :: .limits :: considerParts) (levelEvent b s) :=
  eitherOrder_frame (fun t => (pallocLevel_frame b t).mono (by decide)) (fun t => (consider_frame t).mono (by decide)) s

theorem pallocLevel_mark (b : Bay) (s : State) : (pallocLevel b s).palloc.bays[b].toppedMark =
    toppedAfter s.palloc.bays[b].toppedMark s.bmon[b].level := by
  rw [pallocLevel]
  rw [(settings_fields (passIfChanged_frame _ .limits (by decide))).2.2 b]
  simp

theorem consider_mark (b : Bay) (s : State) : (consider s).palloc.bays[b].toppedMark = s.palloc.bays[b].toppedMark :=
  (settings_fields (consider_frame s .limits (by decide))).2.2 b

/-- The topped mark after a level event (R39), whichever of PALLOC and PSCHED takes it first. -/
theorem levelEvent_mark (b : Bay) (s : State) : (levelEvent b s).palloc.bays[b].toppedMark =
    toppedAfter s.palloc.bays[b].toppedMark s.bmon[b].level := by
  rcases eitherOrder_cases (pallocLevel b) consider s with h | h
  · rw [levelEvent, h, consider_mark, pallocLevel_mark]
    rfl
  · have hlevel : (consider (s.withChoices (s.choices + 1))).bmon[b].level = s.bmon[b].level :=
      (congrArg BayEntry.level (consider_body _ b) :)
    rw [levelEvent, h, pallocLevel_mark, consider_mark, hlevel]
    rfl

theorem toppedAfter_level (mark : Bool) (l : Nat) :
    toppedAfter mark (some l) = (decide (95 ≤ l) || (decide (90 ≤ l) && mark)) := by
  by_cases h1 : 95 ≤ l
  · simp [toppedAfter, h1]
  · by_cases h2 : 90 ≤ l
    · simp [toppedAfter, h1, h2, Nat.not_lt.2 h2]
    · simp [toppedAfter, h1, h2, Nat.not_le.1 h2]

/-- A level event behind the update of the bay's entry. -/
theorem levelEvent_entry (b : Bay) (e : BayEntry) (s : State) :
    (levelEvent b (s.setEntry b e)).bmon[b].body = e.body ∧ s.otherBays b (levelEvent b (s.setEntry b e)) ∧
    (levelEvent b (s.setEntry b e)).palloc.bays[b].toppedMark =
      toppedAfter s.palloc.bays[b].toppedMark e.level := by
  have hf := levelEvent_quiet b (s.setEntry b e)
  refine ⟨(body_of_frame hf (by decide) b).trans (by rw [setEntry_entry_self]),
    otherBays_then (setEntry_otherBays s b e) hf (by decide), ?_⟩
  rw [levelEvent_mark, setEntry_entry_self, setEntry_palloc]

/-- Settles O33. -/
theorem levelsAreReportedAndGoStale : Obligations.LevelsAreReportedAndGoStale := by
  refine fun s b => ⟨fun p ho hp hdue => ?_, fun w hw hdue => ?_, fun w l hs ho hw hdue hl => ?_, fun l ok h => ?_,
    fun a hs ha hdue => ?_⟩
  · have heq : pollBay b s = s.setEntry b { s.bmon[b] with pollTimer := some (p + 30000), reportWait := some s.now } := by
      simp only [pollBay, ho, hp, if_true]
      exact if_pos hdue
    exact ⟨_, rfl, pollBay_frame b s, (congrArg State.bmon heq :).trans (setEntry_bmon ..)⟩
  · have heq : reportWaitEnds b s = s.setEntry b { s.bmon[b] with reportWait := none } :=
      if_pos (by rw [hw]; exact due_some hdue)
    exact ⟨_, rfl, reportWaitEnds_frame b s, (congrArg State.bmon heq :).trans (setEntry_bmon ..)⟩
  · have heq : levelReported b l.toNat true s = if s.bmon[b].level = some l.toNat then
        s.setEntry b { s.bmon[b] with level := some l.toNat, levelAge := some s.now }
        else levelEvent b (s.setEntry b { s.bmon[b] with level := some l.toNat, levelAge := some s.now }) :=
      if_pos ⟨ho, by rw [hw]; exact within_some hdue, rfl, hl⟩
    have hset := levelReported_settled hs b l.toNat true
    refine ⟨_, rfl, ?_⟩
    by_cases hlev : s.bmon[b].level = some l.toNat
    · rw [if_pos hlev] at heq
      rw [heq] at hset ⊢
      refine ⟨setEntry_otherBays s b _, hset, by rw [setEntry_entry_self]; rfl, fun _ => setEntry_quiet_frame ?_ ?_,
        fun h => absurd hlev h⟩
      · simp only [BayEntry.fields, hlev]
      · exact ⟨rfl, rfl, rfl, rfl⟩
    · rw [if_neg hlev] at heq
      obtain ⟨h1, h2, h3⟩ := levelEvent_entry b { s.bmon[b] with level := some l.toNat, levelAge := some s.now } s
      rw [heq] at hset ⊢
      exact ⟨h2, hset, h1, fun h => absurd h hlev, fun _ => ⟨h3.trans (toppedAfter_level _ _), heq ▸
        (levelReported_frame b l.toNat true s).mono (by decide)⟩⟩
  · refine congrArg Host.Outcome.next (if_neg fun ⟨h1, h2, h3, h4⟩ => ?_)
    rcases h with e | e | e | e
    · exact e h1
    · exact absurd (e.symm.trans h3) (by decide)
    · omega
    · rw [e] at h2
      exact nomatch h2
  · have heq : levelStales b s = if s.bmon[b].level = none then
        s.setEntry b { s.bmon[b] with level := none, levelAge := none }
        else levelEvent b (s.setEntry b { s.bmon[b] with level := none, levelAge := none }) :=
      if_pos (by rw [ha]; exact due_some hdue)
    have hset := levelStales_settled hs b
    have hfr := (levelStales_frame b s).mono (m := .choices :: .bays :: .limits :: considerParts) (by decide)
    refine ⟨_, rfl, ?_⟩
    by_cases hlev : s.bmon[b].level = none
    · rw [if_pos hlev] at heq
      rw [heq] at hset hfr ⊢
      exact ⟨setEntry_otherBays s b _, hset, by rw [setEntry_entry_self]; rfl, fun h => absurd hlev h, hfr⟩
    · rw [if_neg hlev] at heq
      obtain ⟨h1, h2, h3⟩ := levelEvent_entry b { s.bmon[b] with level := none, levelAge := none } s
      rw [heq] at hset hfr ⊢
      exact ⟨h2, hset, h1, fun _ => h3, hfr⟩

/-! ## The latch sense (R13, R141) -/

theorem ldrvLatchSense_slot (b : Bay) (s : State) (k : Slot) : (ldrvLatchSense b s).ldrv.slots[k] =
    if s.bmon[b].latch = .released then s.ldrv.slots[k].map fun d => d.see b else s.ldrv.slots[k] := by
  unfold ldrvLatchSense
  split
  · exact Vector.getElem_ofFn k.isLt
  · rfl

theorem ldrvLatchSense_slots (b : Bay) (s : State) (k : Slot) (d : Drive) (h : s.ldrv.slots[k] = some d) :
    (ldrvLatchSense b s).ldrv.slots[k] = some { d with
      releasedSeen := d.releasedSeen || decide (d.bay = b ∧ s.bmon[b].latch = .released) } := by
  rw [ldrvLatchSense_slot, h]
  by_cases hl : s.bmon[b].latch = .released
  · by_cases hb : d.bay = b <;> simp [hl, hb, Drive.see, -Fin.getElem_fin]
  · simp [hl, -Fin.getElem_fin]

theorem ldrvLatchSense_driving (b x : Bay) (s : State) : (ldrvLatchSense b s).ldrv.driving x = s.ldrv.driving x := by
  have hslot : ∀ k : Slot, (ldrvLatchSense b s).ldrv.slotDrives k x = s.ldrv.slotDrives k x := fun k => by
    cases h : s.ldrv.slots[k] with
    | none =>
      have hn : (ldrvLatchSense b s).ldrv.slots[k] = none := by
        rw [ldrvLatchSense_slot, h]
        split <;> rfl
      simp only [Ldrv.slotDrives, h, hn]
    | some d => simp only [Ldrv.slotDrives, h, ldrvLatchSense_slots b s k d h]
  rw [Ldrv.driving, Ldrv.driving, hslot, hslot]

/-- A consideration does not read what a drive has seen of its latch. -/
theorem ldrvLatchSense_ground (b : Bay) (s : State) : s.SameGround (ldrvLatchSense b s) := by
  have hf := ldrvLatchSense_frame b s
  obtain ⟨h1, h2, h3⟩ : Part.prov.same s _ := hf .prov (by decide)
  obtain ⟨m1, -, m3⟩ : Part.provSettings.same s _ := hf .provSettings (by decide)
  have hcust := cust_of_frame hf
  refine ⟨h1, h2, h3, m1, now_of_frame hf, congrArg (Option.map CartClock.minute) (hf .clock (by decide)),
    hf .paths (by decide), fun x => ?_⟩
  exact eligible_congr (hf .bays (by decide) x) (hf .paths (by decide) x).1 (ldrvLatchSense_driving b x s)
    (inCartAt_congr (congrArg Cust.slots hcust) x) m3 (state_of_body (hf .charge (by decide) x)).1

/-- Settles O32. -/
theorem latchSenseChangesAfterItsHold : Obligations.LatchSenseChangesAfterItsHold := by
  intro s b since hd hdue hne
  set v := s.setEntry b { s.bmon[b] with latch := s.pins[b].latch, latchDebounce := none } with hv
  have heq : latchHeld b s = consider (ldrvLatchSense b v) := if_pos ⟨by rw [hd]; exact due_some hdue, hne⟩
  have hentry : ∀ x : Bay, v.bmon[x] = if x = b then { s.bmon[b] with latch := s.pins[b].latch, latchDebounce := none }
      else s.bmon[x] := fun x => by rw [hv, setEntry_entry]
  have hb := (hentry b).trans (if_pos rfl)
  have hldrv : v.ldrv = s.ldrv := by rw [hv, setEntry_ldrv]
  have hbody : ∀ x : Bay, (latchHeld b s).bmon[x].body = v.bmon[x].body := fun x => by
    rw [heq, consider_body, body_of_frame (ldrvLatchSense_frame b v) (by decide) x]
  have hl : (latchHeld b s).ldrv = (ldrvLatchSense b v).ldrv := by rw [heq, consider_ldrv]
  obtain ⟨l1, -, l3⟩ : (ldrvLatchSense b v).ldrv.queue = v.ldrv.queue ∧ True ∧
      (ldrvLatchSense b v).ldrv.reserveHeld = v.ldrv.reserveHeld := by
    unfold ldrvLatchSense
    split <;> exact ⟨rfl, trivial, rfl⟩
  refine ⟨_, rfl, (hbody b).trans (by rw [hb]; rfl), fun x hx => (hbody x).trans (by rw [hentry x, if_neg hx]),
    fun k d hk => ?_, ?_, ?_, ?_, latchHeld_frame b s⟩
  · have hslot := ldrvLatchSense_slots b v k d (by rw [hldrv]; exact hk)
    rw [hb] at hslot
    change (latchHeld b s).ldrv.slots[k] = _
    rw [hl]
    exact hslot
  · exact (congrArg Ldrv.queue hl).trans (l1.trans (congrArg Ldrv.queue hldrv))
  · exact (congrArg Ldrv.reserveHeld hl).trans (l3.trans (congrArg Ldrv.reserveHeld hldrv))
  · rw [heq]
    exact considers_left (ldrvLatchSense_ground b v) (consider_considers _)

/-! ## Releases that end unopened by time (R123, R137) -/

/-- Settles O44. -/
theorem unopenedReleasesRevert : Obligations.UnopenedReleasesRevert := by
  intro s b r i x j hr hrec hheld hi hx
  refine ⟨fun w hst hw hdue => ?_, fun q hst hq hqb hdue => ?_⟩
  · have heq : windowExpires b s = endUnopened b s := by
      simp only [windowExpires, hr]
      exact if_pos ⟨hst, by rw [hw]; exact due_some hdue⟩
    have hrev := endUnopened_reverts hr
    refine ⟨_, congrArg Host.Outcome.next heq, hrev.cleared, (hrev.record hrec i x hi hx).1, hrev.journal j hrec hheld,
      (endUnopened_quiet b s).mono (by decide)⟩
  · have hover : s.ldrv.waitOver b s.now = true :=
      List.any_eq_true.2 ⟨q, hq, by rw [hqb, beq_self_eq_true, Bool.true_and]; exact decide_eq_true hdue⟩
    set v := answerDeciding b .denyLatchTimeout (bayByte b) .none (s.withLdrv (s.ldrv.dequeue b)) with hv
    have hvf : (s.withLdrv (s.ldrv.dequeue b)).changedOnly [.verdicts, .reader] v :=
      answerDeciding_frame b .denyLatchTimeout (bayByte b) .none _
    have hcust : v.cust = s.cust := (cust_of_frame hvf).trans (withLdrv_cust ..)
    have heq : latchWaitExpires b s = ldrvEvent (fun s =>
        reportDrop b .denyLatchTimeout (bayByte b) (s.withLdrv (s.ldrv.dequeue b))) s := if_pos hover
    have hdrop : reportDrop b .denyLatchTimeout (bayByte b) (s.withLdrv (s.ldrv.dequeue b)) = endUnopened b v := by
      rw [reportDrop, ← hv, custDropped, hcust, hr]
      exact if_pos hst
    have hq := endUnopened_quiet b v
    have hmin : v.minute = s.minute := congrArg (Option.map CartClock.minute) (hvf .clock (by decide))
    have hrev := endUnopened_reverts (s := v) (b := b) (by rw [hcust]; exact hr)
    have hans := answersDeciding_left (s := s)
      (answerDeciding_answers b .denyLatchTimeout (bayByte b) .none (s.withLdrv (s.ldrv.dequeue b))) rfl rfl
    rw [← hv] at hans
    have hldrv : (endUnopened b v).ldrv = s.ldrv.dequeue b := (ldrv_of_frame hq).trans (ldrv_of_frame hvf)
    obtain ⟨a1, a2⟩ := answersDeciding_right hans (congrArg Acc.transaction (acc_of_frame hq))
      (congrArg Outputs.txd (out_of_frame hq))
    have hrecord := (hrev.record hrec i x (by rw [hcust]; exact hi) (by rw [hcust]; exact hx)).1
    have hjournal := hrev.journal j hrec hheld
    rw [hmin] at hrecord
    rw [hcust] at hjournal
    have hfr : s.changedOnly (.latches :: .verdicts :: .reader :: .custody :: .releases :: .journal :: .notices ::
        considerParts) (endUnopened b v) :=
      (((withLdrv_latches_frame (s.ldrv.dequeue b) s rfl rfl rfl).mono (by decide)).then hvf).then hq
    refine ⟨_, congrArg Host.Outcome.next heq, ?_, ?_, ?_, ?_, ?_, ?_, ?_, ?_⟩
    any_goals simp only [ldrvEvent_cust, ldrvEvent_ldrv, ldrvEvent_acc, ldrvEvent_out, hdrop]
    · exact hrev.cleared
    · rw [hldrv]; rfl
    · rw [hldrv]; rfl
    · exact hrecord
    · exact hjournal
    · exact a1
    · exact fun h => (a2 fun x hx => by rw [h] at hx; exact nomatch hx).2
    · exact ldrvEvent_frame (by rw [hdrop]; exact hfr) (by decide)

end Sys2Proof.Machine
end

section
/-! PROOF. The supply and the cabinet temperature (R29 to R35), the agreed demands (R54 to R56, R62), the ramp and the
over-current trip (R58 to R61). -/

namespace Sys2Proof.Machine

-- One declaration after the other: the check compiles the whole text within a memory bound.
set_option Elab.async false

/-! ## The supply (R29 to R32) -/

theorem supplyInput_frame' (v : Nat) (s : State) : s.changedOnly [.pins, .limits] (supplyInput v s) := by
  intro x hx
  cases x <;> first | exact absurd (by decide) hx | simp [Part.same, supplyInput, PAlloc.followInput]

/-- A supply event holds PALLOC's new settings, is settled, and raises SUPPLY (R32). -/
theorem supplyEvent_ruled (p : PAlloc) (s : State) : (supplyEvent p s).palloc.settings = p.settings ∧
    (supplyEvent p s).settled ∧ (supplyEvent p s).palloc.net = p.netBudget ∧
    (s.nctl.sources[(7 : Fin 16)].capture = true → (supplyEvent p s).nctl.sources[(7 : Fin 16)].request = true) := by
  have hset : (supplyEvent p s).palloc.settings = p.settings := by
    have h : (supplyEvent p s).palloc.settings = (raise .supply (s.setPalloc p)).palloc.settings :=
      pass_frame _ .limits (by decide)
    rw [h, raise_palloc, setPalloc_palloc]
  have hsettled : (supplyEvent p s).settled := pass_settled _
  refine ⟨hset, hsettled, hsettled.1.trans (settings_fields hset).1, fun hc => ?_⟩
  refine raise_request .supply (s := s.setPalloc p) (pass_nctl _) ?_
  rw [setPalloc_nctl]
  exact hc

/-- Settles O36: the state that a fall or a rise leads to, by the supply state and the timers that are due. -/
theorem supplyFallsAndRises : Obligations.SupplyFallsAndRises := by
  refine ⟨by decide, fun s => ⟨fun v => ?_, fun x hx => ?_, fun h => ?_⟩⟩
  · refine ⟨_, rfl, rfl, rfl, supplyInput_frame' v s, rfl, ?_⟩
    simp [supplyInput, PAlloc.followInput, runWhile]
  · have hfall : s.palloc.fallTo s.now = some x := by
      unfold PAlloc.fallTo
      obtain ⟨h, hd, rfl⟩ | ⟨h, hd, rfl⟩ := hx <;> rw [h]
      · exact if_pos hd
      · exact if_pos hd
    have hx' : x = .sag ∨ x = .deepSag := by
      obtain ⟨-, -, rfl⟩ | ⟨-, -, rfl⟩ := hx
      · split
        · exact .inr rfl
        · exact .inl rfl
      · exact .inr rfl
    have heq : supplyFalls s = supplyEvent { s.palloc with
        supply := x
        aboveSag := restartWhile (decide (s.palloc.sagSelect.threshold ≤ s.vsense)) s.now
        aboveDeep := restartWhile (decide (s.palloc.deepSelect.threshold ≤ s.vsense)) s.now } s := by
      unfold supplyFalls
      rw [hfall]
    have hfr := supplyFalls_frame s
    obtain ⟨hset, hsettled, hnet, hreq⟩ := supplyEvent_ruled { s.palloc with
        supply := x
        aboveSag := restartWhile (decide (s.palloc.sagSelect.threshold ≤ s.vsense)) s.now
        aboveDeep := restartWhile (decide (s.palloc.deepSelect.threshold ≤ s.vsense)) s.now } s
    rw [← heq] at hset hsettled hnet hreq
    obtain ⟨-, -, -, -, hsup, -, -, ⟨-, -, hsag, hdeep⟩, -⟩ := settings_each hset
    refine ⟨_, rfl, hsup, hsettled, hnet.trans ?_, hsag.trans ?_, hdeep.trans ?_, hreq, hfr⟩
    · obtain rfl | rfl := hx' <;> rfl
    · simp [restartWhile]
    · simp [restartWhile]
  · have hrise : ∃ p : PAlloc, supplyRises s = supplyEvent p s ∧
        p.supply = (if s.palloc.supply = .deepSag then .sag else .nominal) ∧
        (s.palloc.supply = .deepSag → p.aboveSag =
          (if s.palloc.sagSelect.threshold ≤ s.vsense then some s.now else none)) := by
      unfold supplyRises
      obtain ⟨h, hd⟩ | ⟨h, hd⟩ := h <;> rw [h]
      · exact ⟨_, if_pos hd, rfl, fun _ => by simp [restartWhile]⟩
      · exact ⟨_, if_pos hd, rfl, nofun⟩
    obtain ⟨p, heq, hps, hpa⟩ := hrise
    have hfr := supplyRises_frame s
    obtain ⟨hset, hsettled, -, hreq⟩ := supplyEvent_ruled p s
    rw [← heq] at hset hsettled hreq
    obtain ⟨-, -, -, -, hsup, -, -, ⟨-, -, hsag, -⟩, -⟩ := settings_each hset
    exact ⟨_, rfl, hsup.trans hps, hsettled, fun h => hsag.trans (hpa h), hreq, hfr⟩

/-! ## The cabinet temperature (R33 to R35) -/

/-- The state after a valid sample (R33, R34, Table 2-4). -/
theorem resampled_valid (p : PAlloc) {m : Int} (hlo : -40000 ≤ m) (hhi : m ≤ 125000) :
    (p.resampled (.value m)).temp = some ((m + 500) / 1000) ∧ (p.resampled (.value m)).invalidSamples = 0 ∧
    (p.resampled (.value m)).thermal = thermalAfter p.thermal ((m + 500) / 1000) := by
  simp [PAlloc.resampled, PAlloc.sampled, validTemperature, hlo, hhi]

/-- The state after an invalid sample (R33): the third in a row loses the sensor. -/
theorem resampled_invalid (p : PAlloc) {r : ThermalReading}
    (h : r = .noAnswer ∨ r = .badCheck ∨ ∃ m : Int, r = .value m ∧ (m < -40000 ∨ 125000 < m)) :
    (p.invalidSamples < 2 → (p.resampled r).invalidSamples = p.invalidSamples + 1 ∧
      (p.resampled r).temp = p.temp ∧ (p.resampled r).thermal = p.thermal) ∧
    (2 ≤ p.invalidSamples → (p.resampled r).invalidSamples = 3 ∧ (p.resampled r).temp = none ∧
      (p.resampled r).thermal = .sensorLost) := by
  have hv : validTemperature r = none := by
    obtain rfl | rfl | ⟨m, rfl, hm⟩ := h
    · rfl
    · rfl
    · exact if_neg (by omega)
  unfold PAlloc.resampled PAlloc.sampled
  rw [hv]
  refine ⟨fun h => ?_, fun h => ?_⟩
  · rw [if_pos (by omega)]
    exact ⟨rfl, rfl, rfl⟩
  · rw [if_neg (by omega)]
    exact ⟨rfl, rfl, rfl⟩

/-- PALLOC's settings after a sample that is due are those that the sample leaves. -/
theorem thermalSampled_palloc {s : State} (h : s.palloc.sampleSince + Config.thermalPeriod ≤ s.now)
    (r : ThermalReading) : (thermalSampled r s).palloc.settings = (s.palloc.resampled r).settings := by
  have hn : (thermalNotice (s.palloc.resampled r) s).palloc = s.palloc.resampled r := by
    unfold thermalNotice
    split
    · exact setPalloc_palloc ..
    · rw [raise_palloc, setPalloc_palloc]
  rw [thermalSampled_due h]
  split
  · rw [hn]
  · have hp : (pass (thermalNotice (s.palloc.resampled r) s)).palloc.settings =
        (thermalNotice (s.palloc.resampled r) s).palloc.settings := pass_frame _ .limits (by decide)
    rw [hp, hn]

theorem thermalSampled_nctl {s : State} (h : s.palloc.sampleSince + Config.thermalPeriod ≤ s.now)
    (r : ThermalReading) : (thermalSampled r s).nctl = (thermalNotice (s.palloc.resampled r) s).nctl := by
  rw [thermalSampled_due h]
  split
  · rfl
  · rw [pass_nctl]

/-- The parts that a sample without a change of f_t changes (R35). -/
theorem thermalSampled_quiet {s : State} (h : s.palloc.sampleSince + Config.thermalPeriod ≤ s.now)
    {r : ThermalReading} (hf : (s.palloc.resampled r).thermalFactor = s.palloc.thermalFactor) :
    s.changedOnly [.limits, .notices, .counts] (thermalSampled r s) := by
  obtain ⟨hn, hb, -⟩ := resampled_settings s.palloc r
  have hfr : s.changedOnly [.limits, .counts] (s.setPalloc (s.palloc.resampled r)) :=
    setPalloc_limits_frame _ s hn fun b => by rw [hb]; exact ⟨rfl, rfl, rfl⟩
  rw [thermalSampled_due h, if_pos hf]
  unfold thermalNotice
  split
  · exact hfr.mono (by decide)
  · exact (hfr.mono (m := [.limits, .notices, .counts]) (by decide)).then (raise_frame _ _)

theorem thermalFactor_congr {p q : PAlloc} (ht : p.thermal = q.thermal) (hm : p.temp = q.temp) :
    p.thermalFactor = q.thermalFactor := by
  unfold PAlloc.thermalFactor
  rw [ht, hm]

/-- Settles O37: PALLOC's settings after a sample are those of `resampled`; a change of the thermal state is raised. -/
theorem thermalSamplesDecideTheState : Obligations.ThermalSamplesDecideTheState := by
  intro s r hs hdue
  have hset := thermalSampled_palloc hdue r
  have hnctl := thermalSampled_nctl hdue r
  have hquiet := thermalSampled_quiet hdue (r := r)
  have hfr := thermalSampled_frame r s
  have hsettled := thermalSampled_settled hs r
  have hvalid : ∀ m : Int, r = .value m → _ := fun m hm => hm ▸ @resampled_valid s.palloc m
  have hinvalid := @resampled_invalid s.palloc r
  have hsince : (s.palloc.resampled r).sampleSince = s.palloc.sampleSince + 1000 := rfl
  have hexec : exec (.thermalSample r) s = .next (thermalSampled r s) := rfl
  obtain ⟨-, -, -, -, -, hth, -, -, -, htemp, hinv, hss⟩ := settings_each hset
  have hfac := thermalFactor_congr hth htemp
  generalize thermalSampled r s = t at *
  refine ⟨t, hexec, hsettled, hss.trans hsince, fun m hm hlo hhi => ?_, fun h => ⟨fun h2 => ?_, fun h2 => ?_⟩, fun h => ?_,
    fun h hc => ?_, fun h => hquiet (hfac.symm.trans h), hfr⟩
  · obtain ⟨e1, e2, e3⟩ := hvalid m hm hlo hhi
    rw [← htemp] at e1
    rw [← hth] at e3
    refine ⟨e1, hinv.trans e2, fun h => ?_, fun h1 h2 => ?_, fun h1 h2 => ?_, fun h => ?_, fun h => ?_⟩
    · have ht : t.palloc.thermal = .normal := by
        rw [e3]
        unfold thermalAfter
        rw [if_neg fun hc => absurd hc.2 (by omega), if_neg (by omega), if_pos (by omega)]
      exact ⟨ht, by rw [PAlloc.thermalFactor, ht]; rfl⟩
    · rw [e3]
      unfold thermalAfter
      rw [if_neg fun hc => absurd hc.2 (by omega), if_neg (by omega), if_neg (by omega)]
    · rw [e3]
      unfold thermalAfter
      by_cases hh : s.palloc.thermal = .hold
      · rw [if_pos ⟨hh, by omega⟩, if_pos hh]
      · rw [if_neg fun hc => hh hc.1, if_neg (by omega), if_neg (by omega), if_neg hh]
    · have ht : t.palloc.thermal = .hold := by
        rw [e3]
        unfold thermalAfter
        rw [if_pos (c := 50 ≤ (m + 500) / 1000) (by omega)]
        exact ite_self _
      exact ⟨ht, by rw [PAlloc.thermalFactor, ht]; rfl⟩
    · rw [PAlloc.thermalFactor, h, e1]
      unfold thermalFactor
      dsimp only
      split
      · rw [if_pos (by omega)]
      · rw [if_neg (by omega)]
  · obtain ⟨e1, e2, e3⟩ := (hinvalid h).1 h2
    exact ⟨hinv.trans e1, htemp.trans e2, hth.trans e3⟩
  · obtain ⟨e1, e2, e3⟩ := (hinvalid h).2 h2
    exact ⟨hinv.trans e1, htemp.trans e2, hth.trans e3, by rw [PAlloc.thermalFactor, hth, e3]; rfl⟩
  · rw [hnctl]
    unfold thermalNotice
    rw [if_pos (hth.symm.trans h), setPalloc_nctl]
  · refine raise_request .thermal (s := s.setPalloc (s.palloc.resampled r)) ?_ (by rw [setPalloc_nctl]; exact hc)
    rw [hnctl]
    unfold thermalNotice
    rw [if_neg fun he => h (hth.trans he)]

end Sys2Proof.Machine
end

section
/-! PROOF. Charge Control: the agreed demands (R54 to R56, R62), the ramp (R58, R59) and the over-current trip (R60,
R61, R46). -/

namespace Sys2Proof.Machine

-- One declaration after the other: the check compiles the whole text within a memory bound.
set_option Elab.async false

/-! ## Changes of a demand (R54 to R56, R62) -/

/-- A change of charge state that neither begins nor ends a lockout considers no grant (R65, R74). -/
theorem cctlChange_unlocked {b : Bay} {c : ChargeBay} {s : State} (hs : s.cctl[b].state ≠ .lockedOut)
    (hc : c.state ≠ .lockedOut) : cctlChange b c s = passIfChanged (s.setCharge b c) := by
  unfold cctlChange
  rw [beq_false_of_ne hs, beq_false_of_ne hc]
  rfl

theorem cctlChange_unlocked_frame {b : Bay} {c : ChargeBay} {s : State} (hs : s.cctl[b].state ≠ .lockedOut)
    (hc : c.state ≠ .lockedOut) : s.changedOnly (.charge :: passParts) (cctlChange b c s) := by
  rw [cctlChange_unlocked hs hc]
  exact ((setCharge_frame b c s).mono (m := .charge :: passParts) (by decide)).then (passIfChanged_frame _)

theorem deliver_fields (c : ChargeBay) (now d : Nat) : (c.deliver now d).state = .delivering ∧
    (c.deliver now d).demand = d ∧ (c.deliver now d).negotiation = none ∧ (c.deliver now d).trips = c.trips :=
  ⟨rfl, rfl, rfl, rfl⟩

theorem body_fields_charge {c d : ChargeBay} (h : c.body = d.body) : c.state = d.state ∧ c.demand = d.demand ∧
    c.negotiation = d.negotiation ∧ c.cooldown = d.cooldown ∧ c.trips = d.trips :=
  ⟨(congrArg ChargeBay.state h :), (congrArg ChargeBay.demand h :), (congrArg ChargeBay.negotiation h :),
    (congrArg ChargeBay.cooldown h :), (congrArg ChargeBay.trips h :)⟩

/-- What a change of charge state without a lockout leaves, in a settled state. -/
theorem cctlChange_unlocked_settled {b : Bay} {c : ChargeBay} {s : State} (hset : s.settled)
    (hs : s.cctl[b].state ≠ .lockedOut) (hc : c.state ≠ .lockedOut) : (cctlChange b c s).settled ∧
    (cctlChange b c s).cctl[b].body = c.body ∧ s.otherCharges b (cctlChange b c s) ∧
    s.changedOnly (.charge :: passParts) (cctlChange b c s) :=
  ⟨cctlChange_settled b c (settled_passGood hset), (cctlChange_charge b c s).1, (cctlChange_charge b c s).2,
    cctlChange_unlocked_frame hs hc⟩

/-- A new demand of a DELIVERING bay (R56). -/
theorem newDemand_ruled {b : Bay} {s : State} (hset : s.settled) (hd : s.cctl[b].state = .delivering) (d : Nat) :
    (newDemand b d s).settled ∧ (newDemand b d s).cctl[b].body = { s.cctl[b].body with demand := min d 120 } ∧
    (s.cctl[b].demand = min d 120 → newDemand b d s = s) ∧ s.otherCharges b (newDemand b d s) ∧
    s.changedOnly (.charge :: passParts) (newDemand b d s) := by
  by_cases h : s.cctl[b].demand = min d 120
  · have heq : newDemand b d s = s := if_pos h.symm
    rw [heq]
    exact ⟨hset, by rw [← h]; rfl, fun _ => rfl, fun _ _ => rfl, .refl s _⟩
  · have heq : newDemand b d s = cctlChange b { s.cctl[b] with demand := min d 120 } s := if_neg (Ne.symm h)
    have hl : s.cctl[b].state ≠ .lockedOut := by rw [hd]; nofun
    obtain ⟨h1, h2, h3, h4⟩ := cctlChange_unlocked_settled (c := { s.cctl[b] with demand := min d 120 }) hset hl hl
    rw [heq]
    exact ⟨h1, h2, fun he => absurd he h, h3, h4⟩

/-- Settles O38: each of the four is a change of charge state without a lockout, or none. -/
theorem demandsAreAgreed : Obligations.DemandsAreAgreed := by
  intro s b hs
  refine ⟨fun d hn => ?_, fun n hn hneg hdue => ?_, fun d i hi hd => ?_, fun d hd => ?_, fun n hc hcd hdue => ?_⟩
  · obtain ⟨h1, h2, h3, h4⟩ := cctlChange_unlocked_settled (b := b) (c := s.cctl[b].deliver s.now (min d 120)) hs
      (by rw [hn]; nofun) nofun
    obtain ⟨e1, e2, e3, -, e4⟩ := body_fields_charge h2
    have heq : agreed b d s = cctlChange b (s.cctl[b].deliver s.now (min d 120)) s := by
      unfold agreed
      rw [hn]
      rfl
    exact ⟨_, congrArg Host.Outcome.next heq, h1, e1, e2, e3, e4, h3, h4⟩
  · obtain ⟨h1, h2, h3, h4⟩ := cctlChange_unlocked_settled (b := b) (c := s.cctl[b].deliver s.now 20) hs
      (by rw [hn]; nofun) nofun
    obtain ⟨e1, e2, e3, -, e4⟩ := body_fields_charge h2
    have heq : negotiationExpires b s = cctlChange b (s.cctl[b].deliver s.now 20) s :=
      if_pos ⟨hn, by rw [hneg]; exact due_some hdue⟩
    exact ⟨_, congrArg Host.Outcome.next heq, h1, e1, e2, e3, e4, h3, h4⟩
  · obtain ⟨h1, h2, h3, h4, h5⟩ := newDemand_ruled hs hd d
    have heq : exec i s = .next (newDemand b d s) := by
      obtain rfl | rfl := hi
      · change Host.Outcome.next (agreed b d s) = _
        unfold agreed
        rw [hd]
      · exact congrArg Host.Outcome.next (if_pos hd)
    exact ⟨_, heq, h1, h2, h3, h4, h5⟩
  · refine ⟨congrArg Host.Outcome.next (if_neg hd), fun hn => congrArg Host.Outcome.next ?_⟩
    unfold agreed
    cases hst : s.cctl[b].state with
    | negotiating => exact absurd hst hn
    | delivering => exact absurd hst hd
    | off | cooldown | lockedOut => rfl
  · obtain ⟨h1, h2, h3, h4⟩ := cctlChange_unlocked_settled (b := b) (c := s.cctl[b].negotiate s.now) hs
      (by rw [hc]; nofun) nofun
    obtain ⟨e1, e2, e3, e5, e4⟩ := body_fields_charge h2
    have heq : cooldownExpires b s = cctlChange b (s.cctl[b].negotiate s.now) s :=
      if_pos ⟨hc, by rw [hcd]; exact due_some hdue⟩
    exact ⟨_, congrArg Host.Outcome.next heq, h1, e1, e2, e3, e5, e4, h3, h4⟩

/-! ## The ramp (R58, R59) -/

/-- A ramp step below the grant: the power added, the samples cleared, and the timer. -/
theorem rampUp_below {c : ChargeBay} (h : c.applied < c.grant) (t : Nat) :
    (c.rampUp t).applied = c.applied + min 16 (c.grant - c.applied) ∧ (c.rampUp t).highSamples = 0 ∧
    (c.rampUp t).ramp = (if (c.rampUp t).applied < (c.rampUp t).grant then some t else none) := by
  refine ⟨(rampUp_fields c t).1, ?_, rfl⟩
  have hne : c.applied + min Config.rampStep (c.grant - c.applied) ≠ c.applied := by
    change c.applied + min 16 (c.grant - c.applied) ≠ c.applied
    omega
  unfold ChargeBay.rampUp ChargeBay.setApplied
  rw [if_neg hne]

/-- Different powers of at most 120 qW show in the bay record. -/
theorem fields_ne_of_applied {c d : ChargeBay} (hc : c.applied ≤ 120) (hd : d.applied ≤ 120)
    (h : c.applied ≠ d.applied) : c.fields ≠ d.fields := by
  intro he
  simp only [ChargeBay.fields, List.cons_append, List.cons.injEq] at he
  have hb : (byteOf c.applied).toNat = (byteOf d.applied).toNat := by rw [he.2.2.1]
  simp only [byteOf, BitVec.toNat_ofNat] at hb
  omega

/-- A ramp step of a bay below its grant (R58, R59). -/
theorem rampStep_ruled {s : State} {b : Bay} {p : Nat} (hd : s.cctl[b].state = .delivering)
    (hr : s.cctl[b].ramp = some p) (hdue : p + 100 ≤ s.now) (hlt : s.cctl[b].applied < s.cctl[b].grant)
    (hg : s.cctl[b].grant ≤ 120) :
    ∃ t, exec (.rampStep b) s = .next t ∧
      t.cctl[b].applied = s.cctl[b].applied + min 16 (s.cctl[b].grant - s.cctl[b].applied) ∧
      t.cctl[b].setpoint = t.cctl[b].applied * 4095 / 120 ∧ t.cctl[b].grant = s.cctl[b].grant ∧
      t.cctl[b].ramp = (if t.cctl[b].applied < t.cctl[b].grant then some (p + 100) else none) ∧
      t.cctl[b].highSamples = 0 ∧
      (∀ x : Bay, x ≠ b → t.cctl[x] = s.cctl[x] ∧ t.swm.bayCounts[x] = s.swm.bayCounts[x]) ∧
      t.swm.bayCounts[b] = s.swm.bayCounts[b] + 1 ∧ t.swm.cartCount = s.swm.cartCount ∧
      s.changedOnly [.delivery, .counts] t := by
  have heq : rampExpires b s = s.setCharge b (s.cctl[b].rampUp (p + 100)) := by
    unfold rampExpires
    rw [hd, hr]
    exact if_pos hdue
  obtain ⟨ha, hgr, hst, hdem⟩ := rampUp_fields s.cctl[b] (p + 100)
  obtain ⟨-, hh, hramp⟩ := rampUp_below hlt (p + 100)
  have hbump : (s.cctl[b].rampUp (p + 100)).fields ≠ s.cctl[b].fields :=
    fields_ne_of_applied (by rw [ha]; omega) (by omega) (by rw [ha]; omega)
  refine ⟨_, congrArg Host.Outcome.next heq, ?_⟩
  rw [setCharge_charge_self]
  have hcounts : (s.setCharge b (s.cctl[b].rampUp (p + 100))).swm.bayCounts =
      s.swm.bayCounts.set b (s.swm.bayCounts[b] + 1) := by
    unfold State.setCharge
    rw [bumpBay_swm_bayCounts, bne_iff_ne.mpr hbump]
    rfl
  refine ⟨ha, rfl, hgr, hramp, hh, fun x hx => ⟨by rw [setCharge_charge, if_neg hx], ?_⟩, ?_, ?_,
    setCharge_body_frame (rampUp_body _ _)⟩
  · rw [hcounts]
    exact Vector.getElem_set_ne b.isLt x.isLt fun he => hx (Fin.ext he.symm)
  · rw [hcounts]
    exact Vector.getElem_set_self b.isLt
  · unfold State.setCharge
    exact bumpBay_swm_cartCount ..

/-! ## The over-current trip (R60, R61) -/

theorem trip_fields (c : ChargeBay) (now : Nat) : (c.trip now).trips = c.trips + 1 ∧ (c.trip now).demand = c.demand ∧
    (c.trip now).state = (if c.trips < 2 then .cooldown else .lockedOut) ∧
    (c.trip now).cooldown = (if c.trips < 2 then some now else none) := by
  refine ⟨rfl, rfl, ?_, ?_⟩
  · by_cases h : c.trips < 2
    · rw [if_pos h]
      exact if_pos (by omega)
    · rw [if_neg h]
      exact if_neg (by omega)
  · by_cases h : c.trips < 2
    · rw [if_pos h]
      exact if_pos (by omega)
    · rw [if_neg h]
      exact if_neg (by omega)

/-- A law of one bay's over-current count that power cannot raise from 0, and every pass keeps. -/
def State.unpowered (b : Bay) (s : State) : Prop := s.cctl[b].applied = 0 ∧ s.cctl[b].highSamples = 0

theorem takeGrant_unpowered {c : ChargeBay} (h : c.applied = 0 ∧ c.highSamples = 0) (now g : Nat) :
    (c.takeGrant now g).applied = 0 ∧ (c.takeGrant now g).highSamples = 0 := by
  have hz : min c.applied g = c.applied := by rw [h.1]; exact Nat.zero_min g
  unfold ChargeBay.takeGrant ChargeBay.setApplied ChargeBay.syncRamp
  rw [if_pos hz]
  exact h

theorem takeGrant_thirdDue (c : ChargeBay) (now g : Nat) : (c.takeGrant now g).thirdDue = c.thirdDue := by
  unfold ChargeBay.takeGrant ChargeBay.setApplied ChargeBay.syncRamp
  split <;> rfl

theorem passFrom_charge (l : List Byte) (s : State) (b : Bay) : (passFrom l s).cctl[b] = s.cctl[b] ∨
    ∃ g : Nat, (passFrom l s).cctl[b] = s.cctl[b].takeGrant s.now g := by
  rw [passFrom_cctl, grantsTaken_charge]
  split
  · exact .inl rfl
  · exact .inr ⟨_, rfl⟩

theorem unpowered_passing (b : Bay) : Passing (State.unpowered b) where
  frame h hs := by
    obtain ⟨-, ha, -, hh, -⟩ := h .delivery (by decide) b
    exact ⟨ha.trans hs.1, hh.trans hs.2⟩
  pass {s} hs := by
    unfold State.unpowered
    obtain h | ⟨g, h⟩ := passFrom_charge s.palloc.cartFields s b
    · rw [pass, h]; exact hs
    · rw [pass, h]; exact takeGrant_unpowered hs _ _
  reserve r s hs := by
    unfold State.unpowered reservePass
    obtain h | ⟨g, h⟩ := passFrom_charge s.palloc.cartFields (s.withPalloc { s.palloc with reserve := r }) b
    · rw [h]; exact hs
    · rw [h]; exact takeGrant_unpowered hs _ _

/-- A trip (R61): no power, the count, the state after it, and BAY_FAULT. -/
theorem tripBay_ruled (b : Bay) (s : State) :
    (tripBay b s).cctl[b].applied = 0 ∧ (tripBay b s).cctl[b].highSamples = 0 ∧
    (tripBay b s).cctl[b].trips = s.cctl[b].trips + 1 ∧ (tripBay b s).cctl[b].demand = s.cctl[b].demand ∧
    (tripBay b s).cctl[b].state = (if s.cctl[b].trips < 2 then .cooldown else .lockedOut) ∧
    (tripBay b s).cctl[b].cooldown = (if s.cctl[b].trips < 2 then some s.now else none) ∧
    s.otherCharges b (tripBay b s) ∧
    (s.nctl.sources[(4 : Fin 16)].capture = true → (tripBay b s).nctl.sources[(4 : Fin 16)].request = true) := by
  have hstart : (s.setCharge b (s.cctl[b].trip s.now)).unpowered b := by
    unfold State.unpowered
    rw [setCharge_charge_self]
    exact ⟨rfl, rfl⟩
  have hP := unpowered_passing b
  have hun : (tripBay b s).unpowered b := by
    refine hP.of_frame (raise_frame _ _) ?_
    unfold cctlChange
    dsimp only
    split
    · exact hP.consider (hP.passIfChanged hstart)
    · exact hP.passIfChanged hstart
  obtain ⟨hbody, hother⟩ := cctlChange_charge b (s.cctl[b].trip s.now) s
  have hr := raise_frame .bayFault (cctlChange b (s.cctl[b].trip s.now) s)
  obtain ⟨e1, e2, -, e4, e5⟩ := body_fields_charge ((chargeBody_of_frame hr (by decide) b).trans hbody)
  obtain ⟨f1, f2, f3, f4⟩ := trip_fields s.cctl[b] s.now
  refine ⟨hun.1, hun.2, e5.trans f1, e2.trans f2, e1.trans f3, e4.trans f4, otherCharges_then hother hr, fun hc => ?_⟩
  refine raise_request .bayFault (s := cctlChange b (s.cctl[b].trip s.now) s) rfl ?_
  rw [nctl_of_frame (cctlChange_frame b _ s)]
  exact hc

/-- A bay that is not powered up has no want and no grant where the grants are settled. -/
theorem settled_unwanted {s : State} {b : Bay} (hs : s.settled) (h : s.bmon[b].door = .opened ∨
    (s.cctl[b].state ≠ .negotiating ∧ s.cctl[b].state ≠ .delivering)) :
    s.palloc.bays[b].want = 0 ∧ s.palloc.bays[b].grant = 0 := by
  obtain ⟨-, hwant, hgrant⟩ := hs.2 b
  have hz := fun t => wantOf_eq_zero (.inr h) t
  exact ⟨hwant.trans (hz _), hgrant.trans (grant_eq_zero (hz _) _ _)⟩

/-- A comparator sample of a bay with power applied (R60, R61). -/
theorem overCurrentSample_ruled {s : State} {b : Bay} (high : Bool) (hd : s.cctl[b].state = .delivering)
    (hp : 0 < s.cctl[b].applied) (hsam : ∀ p : Nat, s.cctl[b].lastSample = some p → p + 1 ≤ s.now) :
    comparatorSampled b high s =
      if high = false then s.setCharge b { s.cctl[b] with highSamples := 0, lastSample := some s.now }
      else if s.cctl[b].highSamples + 1 < 3 then
        s.setCharge b { s.cctl[b] with
          highSamples := s.cctl[b].highSamples + 1, lastSample := some s.now }
      else tripBay b s := by
  have hdue : s.cctl[b].sampleDue s.now = true := by
    unfold ChargeBay.sampleDue
    split
    · next p hl => exact decide_eq_true (hsam p hl)
    · rfl
  unfold comparatorSampled
  dsimp only
  rw [if_pos ⟨hd, hp, hdue⟩]

/-- A sample that does not trip changes the sample count only. -/
theorem setSamples_frame (b : Bay) (n : Nat) (l : Option Nat) (s : State) :
    (s.setCharge b { s.cctl[b] with highSamples := n, lastSample := l }).cctl =
      s.cctl.set b { s.cctl[b] with highSamples := n, lastSample := l } ∧
    s.changedOnly [.delivery] (s.setCharge b { s.cctl[b] with highSamples := n, lastSample := l }) :=
  ⟨setCharge_cctl .., setCharge_quiet_frame rfl rfl⟩

/-! ## A door and a third high sample together (R46) -/

/-- Bay `b` has its door open and its third sample due as `v` has it. -/
def State.doorCut (b : Bay) (v : Option Nat) (s : State) : Prop :=
  s.bmon[b].door = .opened ∧ s.cctl[b].thirdDue = v

theorem passFrom_thirdDue (l : List Byte) (s : State) (b : Bay) :
    (passFrom l s).cctl[b].thirdDue = s.cctl[b].thirdDue := by
  obtain h | ⟨g, h⟩ := passFrom_charge l s b
  · rw [h]
  · rw [h, takeGrant_thirdDue]

theorem doorCut_passing (b : Bay) (v : Option Nat) : Passing (State.doorCut b v) where
  frame h hs := ⟨(entry_of_body (h .bays (by decide) b)).2.1.trans hs.1,
    (h .delivery (by decide) b).2.2.2.2.2.trans hs.2⟩
  pass hs := ⟨by rw [pass_bmon]; exact hs.1, (passFrom_thirdDue _ _ b).trans hs.2⟩
  reserve r s hs := ⟨by rw [reservePass, passFrom_bmon]; exact hs.1, (passFrom_thirdDue _ _ b).trans hs.2⟩

/-- A door that opens as the third high sample falls due keeps it in mind, whatever follows the opening. -/
theorem doorOpens_cut {s : State} {b : Bay} (hd : s.cctl[b].state = .delivering) (hp : 0 < s.cctl[b].applied)
    (hh : s.cctl[b].highSamples = 2) (hsam : ∀ p : Nat, s.cctl[b].lastSample = some p → p + 1 ≤ s.now) :
    (doorOpens b s).doorCut b (some s.now) := by
  have hdue : s.cctl[b].sampleDue s.now = true := by
    unfold ChargeBay.sampleDue
    split
    · next p hl => exact decide_eq_true (hsam p hl)
    · rfl
  have hstart : ∀ e : BayEntry, e.door = .opened → (cctlDoorOpen b (s.setEntry b e)).doorCut b (some s.now) := by
    intro e he
    have hn : s.cctl[b].noteDoor s.now = { s.cctl[b] with thirdDue := some s.now } := if_pos ⟨hd, hp, hh, hdue⟩
    refine ⟨?_, ?_⟩
    · unfold cctlDoorOpen
      rw [withCctl_bmon, setEntry_entry_self]
      exact he
    · unfold cctlDoorOpen
      rw [withCctl_cctl, setEntry_cctl, setEntry_now, hn]
      exact congrArg ChargeBay.thirdDue (Vector.getElem_set_self b.isLt)
  have hP := doorCut_passing b (some s.now)
  unfold doorOpens
  dsimp only
  split
  · exact hP.steady.custForced b (hP.pass (hP.pschedForced b (hP.of_frame (raise_frame _ _) (hstart _ rfl))))
  · exact hP.steady.eitherOrder (fun t => hP.pass) (fun t => hP.steady.ldrvDoorOpen b)
      (hP.of_frame (custDoorReleased_frame b _) (hstart _ rfl))

/-- Where the grants are settled and no input of a pass has changed, none is taken (R45). -/
theorem passIfChanged_unchanged {s t : State} (hs : s.settled) (hp : t.palloc = s.palloc)
    (hi : ∀ b : Bay, t.tierOf b = s.tierOf b ∧ t.wantOf b (t.tierOf b) = s.wantOf b (s.tierOf b)) :
    passIfChanged t = t := by
  obtain ⟨h, -⟩ | ⟨-, h⟩ := passIfChanged_cases t
  · obtain ⟨b, -, hb⟩ := List.any_eq_true.mp h
    obtain ⟨ht, hw, -⟩ := hs.2 b
    obtain ⟨htier, hwant⟩ := hi b
    rw [hwant, htier, hp, ht, hw] at hb
    simp at hb
  · exact h

/-- No input of a pass but the want of its bay changes with a charge record. -/
theorem setCharge_inputs (b : Bay) (c : ChargeBay) (s : State) :
    (∀ x : Bay, (s.setCharge b c).tierOf x = s.tierOf x) ∧
    ∀ (x : Bay) (k : Tier), x ≠ b → (s.setCharge b c).wantOf x k = s.wantOf x k := by
  refine ⟨fun x => ?_, fun x k hx => ?_⟩
  · unfold State.tierOf State.reservationTest State.minute
    simp only [setCharge_psched, setCharge_palloc, setCharge_bmon, setCharge_acc]
  · unfold State.wantOf
    rw [setCharge_charge, if_neg hx, setCharge_bmon]

/-- A change of the charge record behind an open door takes no pass. -/
theorem setCharge_behindDoor {t : State} {b : Bay} (hs : t.settled) (hdoor : t.bmon[b].door = .opened)
    (c : ChargeBay) : passIfChanged (t.setCharge b c) = t.setCharge b c := by
  obtain ⟨htier, hwant⟩ := setCharge_inputs b c t
  refine passIfChanged_unchanged hs (setCharge_palloc ..) fun x => ⟨htier x, ?_⟩
  rw [htier x]
  by_cases hx : x = b
  · subst hx
    rw [wantOf_eq_zero (.inr (.inl hdoor)), wantOf_eq_zero (.inr (.inl (by rw [setCharge_bmon]; exact hdoor)))]
  · exact hwant x _ hx

/-- Where nothing is granted, nothing is after a bay that was not locked out has changed its charge state. -/
theorem setCharge_grantsNothing {t : State} {b : Bay} {c : ChargeBay} (hl : t.cctl[b].state ≠ .lockedOut)
    (h : t.grantsNothing) : (t.setCharge b c).grantsNothing := by
  unfold State.grantsNothing at h ⊢
  rw [setCharge_psched]
  refine h.imp id (Or.imp id fun h x hx hj => h x hx ?_)
  unfold State.mayJoin at hj ⊢
  rw [setCharge_bmon, setCharge_ldrv, setCharge_cust, setCharge_psched, setCharge_charge] at hj
  obtain ⟨h1, h2, h3, h4, h5, h6, h7, h8⟩ := hj
  refine ⟨h1, h2, h3, h4, h5, h6, h7, ?_⟩
  by_cases hx : x = b
  · subst hx
    exact hl
  · rw [if_neg hx] at h8
    exact h8

/-- A trip behind an open door changes no grant, but for the consideration after a lockout (R46). -/
theorem tripBay_behindDoor {t : State} {b : Bay} (hs : t.settled) (hdoor : t.bmon[b].door = .opened)
    (hd : t.cctl[b].state = .delivering) (h : t.cctl[b].trips < 2 ∨ t.grantsNothing) :
    (tripBay b t).palloc = t.palloc := by
  have hp := setCharge_behindDoor hs hdoor (t.cctl[b].trip t.now)
  unfold tripBay
  rw [raise_palloc]
  obtain h | h := h
  · have hst : (t.cctl[b].trip t.now).state ≠ .lockedOut := by
      rw [(trip_fields t.cctl[b] t.now).2.2.1, if_pos h]
      nofun
    rw [cctlChange_unlocked (by rw [hd]; nofun) hst, hp, setCharge_palloc]
  · have hn := setCharge_grantsNothing (c := t.cctl[b].trip t.now) (by rw [hd]; nofun) h
    unfold cctlChange
    dsimp only
    rw [hp, consider_of_grantsNothing _ hn, ite_self, setCharge_palloc]

/-- A sample in DELIVERING without power applied is taken only where a door opened as it fell due (R46). -/
theorem comparatorSampled_unpowered {s : State} {b : Bay} (ha : s.cctl[b].applied = 0) (high : Bool) :
    comparatorSampled b high s = if s.cctl[b].sampleAfterDoor s.now then
      if high then tripBay b s else s.setCharge b { s.cctl[b] with thirdDue := none } else s := by
  unfold comparatorSampled
  dsimp only
  rw [if_neg fun h => absurd h.2.1 (by rw [ha]; exact Nat.lt_irrefl 0)]

theorem supplyFalls_thirdDue (s : State) (b : Bay) : (supplyFalls s).cctl[b].thirdDue = s.cctl[b].thirdDue := by
  unfold supplyFalls
  split
  · exact (passFrom_thirdDue _ _ b).trans (by rw [raise_cctl, setPalloc_cctl])
  · rfl

theorem thermalSampled_thirdDue (r : ThermalReading) (s : State) (b : Bay) :
    (thermalSampled r s).cctl[b].thirdDue = s.cctl[b].thirdDue := by
  by_cases h : s.palloc.sampleSince + Config.thermalPeriod ≤ s.now
  · have hn : (thermalNotice (s.palloc.resampled r) s).cctl = s.cctl := by
      unfold thermalNotice
      split
      · exact setPalloc_cctl ..
      · rw [raise_cctl, setPalloc_cctl]
    rw [thermalSampled_due h]
    split
    · exact congrArg (fun v : Vector ChargeBay 36 => v[b].thirdDue) hn
    · exact (passFrom_thirdDue _ _ b).trans (congrArg (fun v : Vector ChargeBay 36 => v[b].thirdDue) hn)
  · rw [thermalSampled_early h]

/-- Settles O39: the ramp step, the three outcomes of a sample, the trip behind a door that opens, and the samples
that a cut of the power by a pass forestalls. -/
theorem rampAndTripOfAppliedPower : Obligations.RampAndTripOfAppliedPower := by
  refine ⟨fun s b p hd hr hdue hlt hg => rampStep_ruled hd hr hdue hlt hg, fun s b high hd hp hsam => ?_,
    fun s b since hpow hs hdoor hpin hdeb hdue hd hp hh hsam => ?_, fun s b r i hi hthird => ?_⟩
  · have heq := overCurrentSample_ruled high hd hp hsam
    refine ⟨_, rfl, fun h => ?_, fun h h2 => ?_, fun h h2 => ?_⟩
    · rw [heq, if_pos h]
      exact setSamples_frame b 0 (some s.now) s
    · rw [heq, if_neg (by rw [h]; nofun), if_pos (by omega)]
      exact setSamples_frame b (s.cctl[b].highSamples + 1) (some s.now) s
    · rw [heq, if_neg (by rw [h]; nofun), if_neg (by omega)]
      obtain ⟨h1, h2, h3, h4, h5, h6, h7, h8⟩ := tripBay_ruled b s
      refine ⟨h1, ?_, h2, h3, h4, h5, h6, h7, fun hs => ⟨tripBay_settled hs b,
        settled_unwanted (tripBay_settled hs b) (.inr ?_)⟩, h8, tripBay_frame b s⟩
      · rw [ChargeBay.setpoint, h1, setpointOf]
      · rw [h5]
        split <;> exact ⟨nofun, nofun⟩
  · have heq : doorHeld b s = doorOpens b s := by
      unfold doorHeld
      rw [hdeb, hdoor, hpin, if_pos ⟨due_some hdue, nofun⟩]
    obtain ⟨hopen, hthird⟩ := doorOpens_cut hd hp hh hsam
    have hset := doorHeld_settled hs b
    have hpg := doorHeld_power ((powerGood_iff s).mp hpow) b
    have hfr := doorOpens_frame b s
    rw [heq] at hset hpg
    generalize doorOpens b s = t at *
    obtain ⟨hst, -, -, -, htrips⟩ := body_fields_charge (chargeBody_of_frame hfr (by decide) b)
    have happ : t.cctl[b].applied = 0 := by
      have h1 := (hpg b).1.1
      have h2 := (hpg b).1.2.1
      have h3 := (settled_unwanted hset (.inl hopen)).2
      omega
    have hnow := now_of_frame hfr
    have htrip : comparatorSampled b true t = tripBay b t := by
      rw [comparatorSampled_unpowered happ]
      refine (if_pos ?_).trans (if_pos rfl)
      simp only [ChargeBay.sampleAfterDoor, hst, hd, happ, hthird, hnow, beq_self_eq_true, Bool.and_self]
    obtain ⟨h1, -, h3, -, h5, -⟩ := tripBay_ruled b t
    have hset' := tripBay_settled hset b
    refine ⟨t, congrArg Host.Outcome.next heq, happ, hst.trans hd, tripBay b t, congrArg Host.Outcome.next htrip, h1,
      by rw [h3, htrips], by rw [h5, htrips], (settled_unwanted hset' (.inr ?_)).2, hset', fun h x _ => ?_⟩
    · rw [h5]
      split <;> exact ⟨nofun, nofun⟩
    · rw [tripBay_behindDoor hset hopen (hst.trans hd) (by rw [htrips]; exact h)]
  · have hkeeps : ∃ t, exec i s = .next t ∧ t.cctl[b].thirdDue = s.cctl[b].thirdDue ∧ t.now = s.now := by
      obtain rfl | rfl := hi
      · exact ⟨_, rfl, supplyFalls_thirdDue s b, now_of_frame (supplyFalls_frame s)⟩
      · exact ⟨_, rfl, thermalSampled_thirdDue r s b, now_of_frame (thermalSampled_frame r s)⟩
    obtain ⟨t, hexec, hthird', hnow⟩ := hkeeps
    refine ⟨t, hexec, fun ha high => congrArg Host.Outcome.next ?_⟩
    rw [comparatorSampled_unpowered ha]
    refine if_neg fun h => hthird ?_
    simp only [ChargeBay.sampleAfterDoor, Bool.and_eq_true, beq_iff_eq] at h
    rw [← hthird', ← hnow]
    exact h.2

end Sys2Proof.Machine
end

section
/-! PROOF. The reader's frames (R108, R181). -/

namespace Sys2Proof.Machine

-- One declaration after the other: the check compiles the whole text within a memory bound.
set_option Elab.async false

/-- A byte list closed by its check byte sums to 0 (R181). -/
theorem byteSum_checked (bs : List Byte) : byteSum (bs ++ [-(byteSum bs)]) = 0 := by
  unfold byteSum
  rw [List.foldl_append]
  exact BitVec.add_right_neg _

theorem tokenOfFrame_frameOfToken (t : Token) : tokenOfFrame (frameOfToken t) = some t := by
  have hsum : byteSum (frameOfToken t) = 0 := byteSum_checked _
  have hvalue : BitVec.ofNat 64 (leNat (leBytes 8 t.toNat)) = t := by
    rw [leNat_leBytes, Nat.mod_eq_of_lt (show t.toNat < 256 ^ 8 from t.isLt), BitVec.ofNat_toNat, BitVec.setWidth_eq]
  exact (if_pos ⟨rfl, hsum⟩ : tokenOfFrame (frameOfToken t) =
    some (BitVec.ofNat 64 (leNat (leBytes 8 t.toNat)))).trans (congrArg some hvalue)

theorem tokenOfFrame_bad {frame : List Byte}
    (h : frame.length ≠ 10 ∨ frame.head? ≠ some 0x01 ∨ byteSum frame ≠ 0) : tokenOfFrame frame = none := by
  unfold tokenOfFrame
  split
  · refine if_neg fun hg => ?_
    obtain h | h | h := h
    · exact h rfl
    · exact h (congrArg some hg.1)
    · exact h hg.2
  · rfl

theorem verdict_checked (v : VerdictFrame) : byteSum v.bytes.tail = 0 := by
  have h : byteSum [0x02, v.verdict, v.bayOrCount, v.reason] = 0x02 + v.verdict + v.bayOrCount + v.reason := by
    simp [byteSum]
  have hb : v.bytes.tail = [0x02, v.verdict, v.bayOrCount, v.reason] ++
      [-(byteSum [0x02, v.verdict, v.bayOrCount, v.reason])] := by rw [h]; rfl
  rw [hb]
  exact byteSum_checked _

/-- What ends or begins a frame, outside and inside one. -/
theorem frame_collected (s : State) :
    (s.acc.collecting = none →
      (∃ t, exec .startByte s = .next t ∧ t.acc.collecting = some s.now ∧ s.changedOnly [.collecting] t) ∧
      exec .readerByteGap s = .next s ∧ ∀ frame : List Byte, exec (.tokenArrival frame) s = .next s) ∧
    (∀ w : Nat, s.acc.collecting = some w →
      exec .startByte s = .next s ∧ (s.now ≤ w + 5 → exec .readerByteGap s = .next s) ∧
      (w + 5 < s.now →
        ∃ t, exec .readerByteGap s = .next t ∧ t.acc.collecting = none ∧ s.changedOnly [.collecting] t) ∧
      (∀ frame : List Byte, tokenOfFrame frame = none ∨ w + 50 < s.now →
        ∃ t, exec (.tokenArrival frame) s = .next t ∧ t.acc.collecting = none ∧
          s.changedOnly [.collecting] t)) := by
  refine ⟨fun h => ?_, fun w h => ?_⟩
  · have hstart : startByte s = s.withCollecting (some s.now) := by unfold startByte; rw [h]
    have hgap : byteGap s = s := by unfold byteGap; rw [h]
    have hframe : ∀ frame, frameComplete frame s = s := fun frame => by unfold frameComplete; rw [h]
    exact ⟨⟨_, congrArg Host.Outcome.next hstart, rfl, withCollecting_frame s _⟩, congrArg Host.Outcome.next hgap,
      fun frame => congrArg Host.Outcome.next (hframe frame)⟩
  · have hstart : startByte s = s := by unfold startByte; rw [h]
    have hgap : byteGap s = if w + 5 < s.now then discardFrame s else s := by
      unfold byteGap
      rw [h]
      rfl
    refine ⟨congrArg Host.Outcome.next hstart,
      fun hw => congrArg Host.Outcome.next (hgap.trans (if_neg (by omega))), fun hw => ?_, fun frame hf => ?_⟩
    · exact ⟨_, congrArg Host.Outcome.next (hgap.trans (if_pos hw)), rfl, withCollecting_frame s none⟩
    · have hframe : frameComplete frame s = discardFrame s := by
        unfold frameComplete
        rw [h]
        dsimp only
        cases ht : tokenOfFrame frame with
        | none => rfl
        | some token =>
          have hlate : inTime w s.now = false := decide_eq_false (by
            have := hf.resolve_left (by rw [ht]; nofun)
            change ¬s.now ≤ w + 50
            omega)
          exact if_neg (by rw [hlate]; nofun)
      exact ⟨_, congrArg Host.Outcome.next hframe, rfl, withCollecting_frame s none⟩

/-- Settles O40: the frames by the collection, and the check byte of both directions. -/
theorem readerFramesAreChecked : Obligations.ReaderFramesAreChecked :=
  ⟨fun s => ⟨(frame_collected s).1, (frame_collected s).2, fun _ => ⟨_, rfl, rfl, withCollecting_frame s none⟩⟩,
    tokenOfFrame_frameOfToken, fun _ => tokenOfFrame_bad, fun v => ⟨rfl, rfl, verdict_checked v⟩⟩

end Sys2Proof.Machine
end

section
/-! PROOF. Memory write bursts (R156, R160 to R162): what the guard allows region by region (Table 9-2), and what lands
of a burst. -/

namespace Sys2Proof.Machine

-- One declaration after the other: the check compiles the whole text within a memory bound.
set_option Elab.async false

/-! ## The guard, region by region (Table 9-2) -/

theorem mayWrite_journal (s : State) (j : Fin 48) {a : Nat} (v : Byte) (hlo : 0x1100 + 0x20 * j.val ≤ a)
    (hhi : a < 0x1120 + 0x20 * j.val) : s.mayWrite a v = true ↔
      a = 0x1100 + 0x20 * j.val ∧ v = 0 ∧ s.cust.journal[j].state ≠ .held := by
  have hj : journalIndex a = j := Fin.ext (by unfold journalIndex; dsimp only; omega)
  have hp : ((a - 0x1100) % 0x20 = 0) ↔ a = 0x1100 + 0x20 * j.val := by omega
  have hw : s.mayWrite a v = s.cust.journal[j].writable ((a - 0x1100) % 0x20) v := by
    unfold State.mayWrite
    rw [if_neg (by omega), if_neg (by omega), if_neg (by omega), if_neg (by omega), if_neg (by omega),
      if_pos (by omega)]
    exact congrArg (fun k : Fin 48 => s.cust.journal[k].writable ((a - 0x1100) % 0x20) v) hj
  rw [hw]
  unfold JournalEntry.writable
  simp only [Bool.and_eq_true, Bool.or_eq_true, beq_iff_eq, hp, and_assoc]
  generalize s.cust.journal[j].state = st
  cases st <;> simp

theorem headerWritable_iff (l : OrderList) (p : Nat) : l.headerWritable p = true ↔
    p = 0 ∨ ((l.state = .idle ∨ l.state = .done ∨ l.state = .fault) ∧ p ≤ 3) := by
  have hp : (p = 1 ∨ p = 2 ∨ p = 3) ↔ p ≤ 3 ∧ p ≠ 0 := by omega
  unfold OrderList.headerWritable
  simp only [Bool.and_eq_true, Bool.or_eq_true, beq_iff_eq, or_assoc, hp]
  tauto

theorem mayWrite_list (s : State) (i : ListId) {a : Nat} (v : Byte) (hlo : 0x0100 + 0x20 * i.val ≤ a)
    (hhi : a < 0x0120 + 0x20 * i.val) : s.mayWrite a v = true ↔
      a = 0x0100 + 0x20 * i.val ∨ ((s.owalk[i].state = .idle ∨ s.owalk[i].state = .done ∨
        s.owalk[i].state = .fault) ∧ a ≤ 0x0103 + 0x20 * i.val) := by
  have hp : (a - (0x0100 + 0x20 * i.val) = 0 ↔ a = 0x0100 + 0x20 * i.val) ∧
      (a - (0x0100 + 0x20 * i.val) ≤ 3 ↔ a ≤ 0x0103 + 0x20 * i.val) := by omega
  have hw : s.mayWrite a v = s.owalk[i].headerWritable (a - (0x0100 + 0x20 * i.val)) := by
    obtain hi | hi : i.val = 0 ∨ i.val = 1 := by omega
    · have he : s.owalk[i] = s.owalk[(0 : ListId)] :=
        congrArg (fun k : ListId => s.owalk[k]) (show i = 0 from Fin.ext hi)
      unfold State.mayWrite
      rw [if_neg (by omega), if_pos (by omega), he, hi]
    · have he : s.owalk[i] = s.owalk[(1 : ListId)] :=
        congrArg (fun k : ListId => s.owalk[k]) (show i = 1 from Fin.ext hi)
      unfold State.mayWrite
      rw [if_neg (by omega), if_neg (by omega), if_pos (by omega), he, hi]
  rw [hw, headerWritable_iff, hp.1, hp.2]

theorem walkedByte_iff (s : State) (a : Nat) : s.walkedByte a = true ↔
    ∃ (i : ListId) (w : WalkedRecord), (s.owalk[i].state = .running ∨ s.owalk[i].state = .stalled) ∧
      w ∈ s.owalk[i].walked ∧ w.offset ≤ a ∧ a < w.offset + w.bytes := by
  unfold State.walkedByte OrderList.walking WalkedRecord.covers
  simp only [List.any_eq_true, List.mem_finRange, true_and, Bool.and_eq_true, Bool.or_eq_true, beq_iff_eq,
    decide_eq_true_eq]
  exact exists_congr fun i => ⟨fun ⟨h, w, hw, hc⟩ => ⟨w, h, hw, hc⟩, fun ⟨w, h, hw, hc⟩ => ⟨h, w, hw, hc⟩⟩

/-- What the guard allows, over the whole map (Table 9-2). -/
theorem mayWrite_regions (s : State) (a : Nat) (v : Byte) (_ha : a < 0x8000) :
    (0x7800 ≤ a → s.mayWrite a v = true) ∧
    (0x1800 ≤ a → a < 0x3800 → (s.mayWrite a v = true ↔
      ∀ (i : ListId) (w : WalkedRecord), (s.owalk[i].state = .running ∨ s.owalk[i].state = .stalled) →
        w ∈ s.owalk[i].walked → ¬(w.offset ≤ a ∧ a < w.offset + w.bytes))) ∧
    (0x3800 ≤ a → a < 0x5800 → (s.mayWrite a v = true ↔ s.acc.activeBank ≠ some .a)) ∧
    (0x5800 ≤ a → a < 0x7800 → (s.mayWrite a v = true ↔ s.acc.activeBank ≠ some .b)) ∧
    (∀ j : Fin 48, 0x1100 + 0x20 * j.val ≤ a → a < 0x1120 + 0x20 * j.val → (s.mayWrite a v = true ↔
      a = 0x1100 + 0x20 * j.val ∧ v = 0 ∧ s.cust.journal[j].state ≠ .held)) ∧
    (∀ i : ListId, 0x0100 + 0x20 * i.val ≤ a → a < 0x0120 + 0x20 * i.val → (s.mayWrite a v = true ↔
      a = 0x0100 + 0x20 * i.val ∨ ((s.owalk[i].state = .idle ∨ s.owalk[i].state = .done ∨
        s.owalk[i].state = .fault) ∧ a ≤ 0x0103 + 0x20 * i.val))) ∧
    (0x0140 ≤ a → a < 0x0200 → (s.mayWrite a v = true ↔ a = 0x0142 ∨ a = 0x0143)) ∧
    (a < 0x0100 ∨ (0x0200 ≤ a ∧ a < 0x1100) ∨ (0x1700 ≤ a ∧ a < 0x1800) → s.mayWrite a v = false) := by
  refine ⟨fun h => ?_, fun h1 h2 => ?_, fun h1 h2 => ?_, fun h1 h2 => ?_, fun j h1 h2 => mayWrite_journal s j v h1 h2,
    fun i h1 h2 => mayWrite_list s i v h1 h2, fun h1 h2 => ?_, fun h => ?_⟩
  · unfold State.mayWrite
    rw [if_neg (by omega), if_neg (by omega), if_neg (by omega), if_neg (by omega), if_neg (by omega),
      if_neg (by omega), if_neg (by omega), if_neg (by omega), if_neg (by omega), if_neg (by omega)]
  · unfold State.mayWrite
    rw [if_neg (by omega), if_neg (by omega), if_neg (by omega), if_neg (by omega), if_neg (by omega),
      if_neg (by omega), if_neg (by omega), if_pos (by omega), Bool.not_eq_true', ← Bool.not_eq_true, walkedByte_iff]
    exact ⟨fun hn i w hs hw hc => hn ⟨i, w, hs, hw, hc⟩, fun hn ⟨i, w, hs, hw, hc⟩ => hn i w hs hw hc⟩
  · unfold State.mayWrite
    rw [if_neg (by omega), if_neg (by omega), if_neg (by omega), if_neg (by omega), if_neg (by omega),
      if_neg (by omega), if_neg (by omega), if_neg (by omega), if_pos (by omega), bne_iff_ne]
  · unfold State.mayWrite
    rw [if_neg (by omega), if_neg (by omega), if_neg (by omega), if_neg (by omega), if_neg (by omega),
      if_neg (by omega), if_neg (by omega), if_neg (by omega), if_neg (by omega), if_pos (by omega), bne_iff_ne]
  · unfold State.mayWrite
    rw [if_neg (by omega), if_neg (by omega), if_neg (by omega), if_pos (by omega), Bool.or_eq_true, beq_iff_eq,
      beq_iff_eq]
  · unfold State.mayWrite
    obtain h | h | h := h
    · rw [if_pos h]
    · rw [if_neg (by omega), if_neg (by omega), if_neg (by omega), if_neg (by omega), if_pos (by omega)]
    · rw [if_neg (by omega), if_neg (by omega), if_neg (by omega), if_neg (by omega), if_neg (by omega),
        if_neg (by omega), if_pos (by omega)]

/-! ## The bytes of a burst -/

theorem mem_burstBytes (w : Burst) (a : Nat) (v : Byte) : (a, v) ∈ burstBytes w ↔
    ∃ i : Nat, i < 256 ∧ w.data[i]? = some v ∧ (w.offset.toNat + i) % 0x8000 = a := by
  unfold burstBytes
  simp only [List.mem_map, Prod.mk.injEq, Prod.exists, List.mem_zipIdx_iff_getElem?]
  constructor
  · rintro ⟨x, i, hi, ha, rfl⟩
    obtain ⟨hlt, hx⟩ := List.getElem?_eq_some_iff.mp hi
    rw [List.length_take] at hlt
    refine ⟨i, lt_of_lt_of_le hlt (Nat.min_le_left ..), ?_, ha⟩
    rwa [List.getElem?_take_of_lt (lt_of_lt_of_le hlt (Nat.min_le_left ..))] at hi
  · rintro ⟨i, hi, hx, ha⟩
    exact ⟨v, i, by rw [List.getElem?_take_of_lt hi]; exact hx, ha, rfl⟩

/-- The at most 256 bytes of a burst have as many offsets. -/
theorem burstBytes_nodup (w : Burst) : ((burstBytes w).map Prod.fst).Nodup := by
  have h : (burstBytes w).map Prod.fst = ((w.data.take burstMax).zipIdx.map Prod.snd).map (burstAt w.offset) := by
    rw [List.map_map]
    exact List.map_map
  rw [h, List.zipIdx_map_snd]
  refine List.Nodup.map_on (fun x hx y hy he => ?_) (List.nodup_range' ..)
  obtain ⟨-, hx⟩ := List.mem_range'_1.mp hx
  obtain ⟨-, hy⟩ := List.mem_range'_1.mp hy
  rw [List.length_take] at hx hy
  have hb : burstMax = 256 := rfl
  unfold burstAt at he
  omega

/-! ## What lands -/

/-- What no byte touches stays. -/
theorem lands_miss {β : Type} (g : State → β) {xs : List (Nat × Byte)} {s : State} (hs : s.memGood)
    (h : ∀ y ∈ xs, ∀ t : State, t.memGood → g (land y.1 y.2 t) = g t) :
    g (xs.foldl (fun t x => land x.1 x.2 t) s) = g s := by
  induction xs generalizing s with
  | nil => rfl
  | cons x xs ih =>
    exact (ih (wf_land x.1 x.2 s hs) fun y hy => h y (List.mem_cons_of_mem _ hy)).trans
      (h x List.mem_cons_self s hs)

/-- What one byte alone touches is as that byte leaves it. -/
theorem lands_hit {β : Type} (g : State → β) (f : β → β) {xs : List (Nat × Byte)} {x : Nat × Byte} {s : State}
    (hs : s.memGood) (hx : x ∈ xs) (hn : (xs.map Prod.fst).Nodup)
    (hhit : ∀ t : State, t.memGood → g (land x.1 x.2 t) = f (g t))
    (hmiss : ∀ y ∈ xs, y.1 ≠ x.1 → ∀ t : State, t.memGood → g (land y.1 y.2 t) = g t) :
    g (xs.foldl (fun t x => land x.1 x.2 t) s) = f (g s) := by
  induction xs generalizing s with
  | nil => exact absurd hx List.not_mem_nil
  | cons y ys ih =>
    obtain ⟨hy, hys⟩ := List.nodup_cons.mp (show (y.1 :: ys.map Prod.fst).Nodup from hn)
    have hgood := wf_land y.1 y.2 s hs
    obtain rfl | hx := List.mem_cons.mp hx
    · refine (lands_miss g hgood fun z hz => hmiss z (List.mem_cons_of_mem _ hz) fun he => hy ?_).trans (hhit s hs)
      exact he ▸ List.mem_map_of_mem hz
    · refine (ih hgood hx hys fun z hz => hmiss z (List.mem_cons_of_mem _ hz)).trans (congrArg f ?_)
      refine hmiss y List.mem_cons_self (fun he => hy ?_) s hs
      exact he ▸ List.mem_map_of_mem hx

/-- What the bytes that land at offset `a` touch, as `f` has it, and no others: as the burst's byte at `a` leaves it
if the guard allows it, and as it was if not. -/
theorem landBytes_at {β : Type} (g : State → β) (f : Byte → β → β) (a : Nat) {s : State} (hs : s.memGood) (w : Burst)
    (hland : ∀ (x : Nat) (v : Byte) (t : State), s.mayWrite x v = true → t.memGood →
      g (land x v t) = if x = a then f v (g t) else g t) :
    (∀ (i : Nat) (v : Byte), i < 256 → w.data[i]? = some v → (w.offset.toNat + i) % 0x8000 = a →
      s.mayWrite a v = true → g (landBytes (burstBytes w) s) = f v (g s)) ∧
    ((∀ (i : Nat) (v : Byte), i < 256 → w.data[i]? = some v → (w.offset.toNat + i) % 0x8000 = a →
      s.mayWrite a v = false) → g (landBytes (burstBytes w) s) = g s) := by
  refine ⟨fun i v hi hv ha hw => ?_, fun hno => ?_⟩
  · refine lands_hit g (f v) (x := (a, v)) hs
      (List.mem_filter.mpr ⟨(mem_burstBytes w a v).mpr ⟨i, hi, hv, ha⟩, hw⟩)
      ((List.filter_sublist.map Prod.fst).nodup (burstBytes_nodup w))
      (fun t ht => (hland a v t hw ht).trans (if_pos rfl)) fun y hy hne t ht => ?_
    exact (hland y.1 y.2 t (List.mem_filter.mp hy).2 ht).trans (if_neg hne)
  · refine lands_miss g hs fun y hy t ht => ?_
    obtain ⟨hy, hw⟩ := List.mem_filter.mp hy
    obtain ⟨i, hi, hv, ha⟩ := (mem_burstBytes w y.1 y.2).mp hy
    refine (hland y.1 y.2 t hw ht).trans (if_neg fun he => ?_)
    have := hno i y.2 hi hv (ha.trans he)
    rw [← he, hw] at this
    exact absurd this (by decide)

end Sys2Proof.Machine
end

section
/-! PROOF. A memory write burst (R156, R158, R160 to R162): the fields that its bytes touch, the guard capture, and
what its watch events leave alone. -/

namespace Sys2Proof.Machine

-- One declaration after the other: the check compiles the whole text within a memory bound.
set_option Elab.async false

/-! ## One byte that lands -/

theorem landList_fields (l : OrderList) (p : Nat) (v : Byte) :
    (l.land p v).policy = (if p = 1 then v else l.policy) ∧
    (l.land p v).first.toNat % 256 = (if p = 2 then v.toNat else l.first.toNat % 256) ∧
    (l.land p v).first.toNat / 256 = (if p = 3 then v.toNat else l.first.toNat / 256) ∧
    { l.land p v with policy := 0, first := 0 } = { l with policy := 0, first := 0 } := by
  have hv := v.isLt
  have hf := l.first.isLt
  have hlow : (setLow l.first v).toNat = l.first.toNat / 256 * 256 + v.toNat := by
    rw [setLow, BitVec.toNat_ofNat, Nat.mod_eq_of_lt (by omega)]
  have hhigh : (setHigh l.first v).toNat = l.first.toNat % 256 + 256 * v.toNat := by
    rw [setHigh, BitVec.toNat_ofNat, Nat.mod_eq_of_lt (by omega)]
  unfold OrderList.land
  split
  · exact ⟨rfl, rfl, rfl, rfl⟩
  · exact ⟨rfl, by dsimp only; rw [hlow, if_pos rfl]; omega, by dsimp only; rw [hlow, if_neg (by omega)]; omega, rfl⟩
  · exact ⟨rfl, by dsimp only; rw [hhigh, if_neg (by omega)]; omega, by dsimp only; rw [hhigh, if_pos rfl]; omega, rfl⟩
  · next h1 h2 h3 => exact ⟨(if_neg h1).symm, (if_neg h2).symm, (if_neg h3).symm, rfl⟩

/-- A byte lands in the header of the list that it addresses. -/
theorem land_list (a : Nat) (v : Byte) (s : State) (l : ListId) : ∃ p : Nat,
    (land a v s).owalk[l] = s.owalk[l].land p v ∧ ∀ k : Nat, 0 < k → k < 4 → (p = k ↔ a = 0x0100 + k + 0x20 * l.val) := by
  have hlow : ∀ k : Nat, 0 < k → (a - 0x0100 = k ↔ a = 0x0100 + k) := fun k hk => by omega
  have hother : ∀ k : ListId, k ≠ l → ∀ x : OrderList, (s.setList k x).owalk[l] = s.owalk[l].land 0 v := fun k hk x =>
    Vector.getElem_set_ne k.isLt l.isLt fun he => hk (Fin.ext he)
  unfold land
  obtain hl | hl : l.val = 0 ∨ l.val = 1 := by omega
  · obtain rfl : l = 0 := Fin.ext hl
    by_cases h0 : a < 0x0120
    · rw [if_pos h0]
      exact ⟨a - 0x0100, Vector.getElem_set_self (by decide), fun k hk _ => hlow k hk⟩
    · refine ⟨0, ?_, fun k hk hk4 => ⟨fun h => by omega, fun h => by omega⟩⟩
      rw [if_neg h0]
      repeat' split
      · exact hother 1 (by decide) _
      all_goals rfl
  · obtain rfl : l = 1 := Fin.ext hl
    by_cases h0 : a < 0x0120
    · rw [if_pos h0]
      exact ⟨0, hother 0 (by decide) _, fun k hk hk4 => ⟨fun h => by omega, fun h => by omega⟩⟩
    · rw [if_neg h0]
      by_cases h1 : a < 0x0140
      · rw [if_pos h1]
        exact ⟨a - 0x0120, Vector.getElem_set_self (by decide), fun k hk hk4 => by omega⟩
      · refine ⟨0, ?_, fun k hk hk4 => ⟨fun h => by omega, fun h => by omega⟩⟩
        rw [if_neg h1]
        repeat' split
        all_goals rfl

/-- The header fields of a list after a byte has landed. -/
theorem land_header (a : Nat) (v : Byte) (s : State) (l : ListId) :
    (land a v s).owalk[l].policy = (if a = 0x0101 + 0x20 * l.val then v else s.owalk[l].policy) ∧
    (land a v s).owalk[l].first.toNat % 256 =
      (if a = 0x0102 + 0x20 * l.val then v.toNat else s.owalk[l].first.toNat % 256) ∧
    (land a v s).owalk[l].first.toNat / 256 =
      (if a = 0x0103 + 0x20 * l.val then v.toNat else s.owalk[l].first.toNat / 256) ∧
    { (land a v s).owalk[l] with policy := 0, first := 0 } = { s.owalk[l] with policy := 0, first := 0 } := by
  obtain ⟨p, he, hp⟩ := land_list a v s l
  obtain ⟨h1, h2, h3, h4⟩ := landList_fields s.owalk[l] p v
  simp only [hp 1 (by decide) (by decide), hp 2 (by decide) (by decide), hp 3 (by decide) (by decide)] at h1 h2 h3
  rw [he]
  exact ⟨h1, h2, h3, h4⟩

/-- A byte that the guard lets land in the journal frees the entry that it addresses (R119). -/
theorem land_journal {s : State} {a : Nat} {v : Byte} (hw : s.mayWrite a v = true) (t : State) (j : Fin 48) :
    (land a v t).cust.journal[j] = if a = 0x1100 + 0x20 * j.val then { t.cust.journal[j] with state := .free }
      else t.cust.journal[j] := by
  by_cases hin : 0x1100 ≤ a ∧ a < 0x1700
  · have hk : journalIndex a = ⟨(a - 0x1100) / 0x20, by omega⟩ := Fin.ext (by unfold journalIndex; dsimp only; omega)
    obtain ⟨ha, -⟩ := (mayWrite_journal s (journalIndex a) v (by rw [hk]; dsimp only; omega)
      (by rw [hk]; dsimp only; omega)).mp hw
    have hl : land a v t = freeJournal (journalIndex a) t := by
      unfold land
      rw [if_neg (by omega), if_neg (by omega), if_neg (by unfold endWordAt; omega),
        if_neg (by unfold heartbeatAt; omega), if_pos (by omega)]
    have hset : (freeJournal (journalIndex a) t).cust.journal[j] = if j = journalIndex a then
        { t.cust.journal[journalIndex a] with state := .free } else t.cust.journal[j] := getElem_set_fin _ _ _ _
    rw [hl, hset]
    by_cases hj : j = journalIndex a
    · rw [if_pos hj, hj, if_pos ha]
    · rw [if_neg hj, if_neg fun he => hj (Fin.ext (by omega))]
  · rw [if_neg (by omega)]
    have hout : a < 0x0200 ∨ 0x1800 ≤ a := by
      by_contra hc
      have hregion := (mayWrite_regions s a v (by omega)).2.2.2.2.2.2.2 (by omega)
      rw [hw] at hregion
      exact absurd hregion (by decide)
    unfold land
    split
    · rfl
    split
    · rfl
    split
    · rfl
    split
    · rfl
    split
    · next h1 h2 h3 h4 h5 =>
      have hregion := ((mayWrite_regions s a v (by omega)).2.2.2.2.2.2.1 (by omega) (by omega)).mp hw
      exact absurd hregion (not_or.mpr ⟨h3, h4⟩)
    · rfl

/-- The END word and the heartbeat word are touched by a byte at their own offset alone (R162). -/
theorem land_words (a : Nat) (v : Byte) (s : State) :
    (land a v s).swm.endWord = (if a = 0x0142 then v else s.swm.endWord) ∧
    (land a v s).swm.heartbeatWord = (if a = 0x0143 then v else s.swm.heartbeatWord) := by
  unfold land
  split
  · exact ⟨(if_neg (by omega)).symm, (if_neg (by omega)).symm⟩
  split
  · exact ⟨(if_neg (by omega)).symm, (if_neg (by omega)).symm⟩
  split
  · next h => exact ⟨rfl, (if_neg fun h' => absurd (h.symm.trans h') (by decide)).symm⟩
  split
  · exact ⟨rfl, rfl⟩
  split <;> exact ⟨rfl, rfl⟩

theorem land_sequence (a : Nat) (v : Byte) (s : State) : (land a v s).cust.nextSequence = s.cust.nextSequence := by
  unfold land
  repeat' split
  all_goals rfl

/-! ## Watch events leave what landed (R162) -/

/-- The stall policies and the first record offsets are as they were. -/
def State.headersKept (s t : State) : Prop :=
  ∀ l : ListId, t.owalk[l].policy = s.owalk[l].policy ∧ t.owalk[l].first = s.owalk[l].first

theorem headersKept_refl (s : State) : s.headersKept s := fun _ => ⟨rfl, rfl⟩

theorem headersKept_trans {s t u : State} (h : s.headersKept t) (h' : t.headersKept u) : s.headersKept u := fun l =>
  ⟨(h' l).1.trans (h l).1, (h' l).2.trans (h l).2⟩

theorem headersKept_of_owalk {s t : State} (h : t.owalk = s.owalk) : s.headersKept t := by
  intro l
  rw [h]
  exact ⟨rfl, rfl⟩

theorem setList_headersKept {i : ListId} {x : OrderList} {s : State} (hp : x.policy = s.owalk[i].policy)
    (hf : x.first = s.owalk[i].first) : s.headersKept (s.setList i x) := by
  intro l
  rw [show (s.setList i x).owalk[l] = if l = i then x else s.owalk[l] from getElem_set_fin _ _ _ _]
  split
  · next h => subst h; exact ⟨hp, hf⟩
  · exact ⟨rfl, rfl⟩

theorem runList_headersKept (i : ListId) (s : State) : s.headersKept (runList i s) := by
  by_cases h : s.owalk[i].first = 0
  · rw [runList_empty h]
    refine headersKept_trans ?_ (headersKept_of_owalk (raise_owalk ..))
    exact setList_headersKept rfl rfl
  · rw [runList_chain h]
    exact setList_headersKept rfl rfl

theorem startArmed_headersKept (n : Nat) (i : ListId) (s : State) : s.headersKept (startArmed n i s) := by
  induction n generalizing i s with
  | zero => exact headersKept_refl s
  | succ n ih =>
    unfold startArmed
    dsimp only
    split
    · split
      · exact headersKept_trans (runList_headersKept i s) (ih _ _)
      · exact runList_headersKept i s
    · exact headersKept_refl s

theorem arm_headersKept (i : ListId) (s : State) : s.headersKept (arm i s) := by
  have hrun : s.headersKept (runList i (s.setList i s.owalk[i].cleared)) := by
    refine headersKept_trans ?_ (runList_headersKept i _)
    exact setList_headersKept rfl rfl
  by_cases h : s.owalk[i].resting
  · rw [armList_resting h]
    split
    · exact setList_headersKept rfl rfl
    · split
      · exact headersKept_trans hrun (startArmed_headersKept 2 _ _)
      · exact hrun
  · cases hst : s.owalk[i].state with
    | idle => exact absurd (.inl hst) h
    | done => exact absurd (.inr (.inl hst)) h
    | fault => exact absurd (.inr (.inr hst)) h
    | stalled =>
      rw [armList_stalled hst]
      exact setList_headersKept rfl rfl
    | armed => rw [armList_busy (.inl hst)]; exact headersKept_refl s
    | running => rw [armList_busy (.inr hst)]; exact headersKept_refl s

theorem endFault_headersKept (i : ListId) (c : ListFault) (o : Half) (s : State) :
    s.headersKept (endFault i c o s) := by
  unfold endFault
  refine headersKept_trans ?_ (startArmed_headersKept 2 _ _)
  refine headersKept_trans ?_ (headersKept_of_owalk (raiseOrderFault_owalk ..))
  exact setList_headersKept rfl rfl

theorem abort_headersKept (i : ListId) (s : State) : s.headersKept (abort i s) := by
  unfold abort
  dsimp only
  split
  · exact endFault_headersKept i _ _ s
  · exact endFault_headersKept i _ _ s
  · exact setList_headersKept rfl rfl
  all_goals exact headersKept_refl s

theorem listCommand_headersKept (i : ListId) (v : Byte) (s : State) : s.headersKept (listCommand i v s) := by
  have harm : s.headersKept (arm i s) := arm_headersKept i s
  have habort : s.headersKept (abort i s) := abort_headersKept i s
  unfold listCommand
  split
  · exact harm
  · split
    · exact habort
    · exact headersKept_refl s

theorem watch_headersKept {f : Byte → State → State} (bs : List (Nat × Byte)) (a : Nat)
    (hf : ∀ (v : Byte) (t : State), t.headersKept (f v t)) (s : State) : s.headersKept (watch bs a f s) := by
  unfold watch
  split
  · exact hf _ s
  · exact headersKept_refl s

theorem watchEvents_headersKept (bs : List (Nat × Byte)) (s : State) : s.headersKept (watchEvents bs s) := by
  unfold watchEvents
  refine headersKept_trans ?_ (watch_headersKept bs _ (fun _ t => headersKept_of_owalk (owalk_of_frame (heartbeat_frame t))) _)
  refine headersKept_trans ?_ (watch_headersKept bs endWordAt (f := fun v s => s.withNctl (s.nctl.endWord v))
    (fun _ _ => headersKept_of_owalk rfl) _)
  exact headersKept_trans (watch_headersKept bs _ (listCommand_headersKept 0) s)
    (watch_headersKept bs _ (listCommand_headersKept 1) _)

/-- A burst that covers no watched byte has no watch event. -/
theorem watchEvents_uncovered {w : Burst} (h : ∀ i : Nat, i < 256 → i < w.data.length →
    (w.offset.toNat + i) % 0x8000 ∉ [0x0100, 0x0120, 0x0142, 0x0143]) (s : State) :
    watchEvents (burstBytes w) s = s := by
  have hw : ∀ (a : Nat) (f : Byte → State → State) (t : State), a ∈ [0x0100, 0x0120, 0x0142, 0x0143] →
      watch (burstBytes w) a f t = t := by
    intro a f t ha
    have hnone : (burstBytes w).find? (fun x => x.1 == a) = none := by
      refine List.find?_eq_none.mpr fun x hx he => ?_
      obtain ⟨i, hi, hv, hoff⟩ := (mem_burstBytes w x.1 x.2).mp hx
      obtain ⟨hlt, -⟩ := List.getElem?_eq_some_iff.mp hv
      exact h i hi hlt (by rw [hoff, eq_of_beq he]; exact ha)
    unfold watch writtenTo
    rw [hnone]
    rfl
  unfold watchEvents
  rw [hw (listStateAt 0) _ _ (by decide), hw (listStateAt 1) _ _ (by decide), hw endWordAt _ _ (by decide),
    hw heartbeatAt _ _ (by decide)]

/-! ## The guard capture (R161) -/

theorem recordHit_armed {s : State} (h : s.swm.guardArmed = true) (a : Nat) :
    (recordHit (some a) s).swm.guardOffset = some a ∧ (recordHit (some a) s).swm.guardArmed = false ∧
    (recordHit (some a) s).nctl = s.nctl.event16 { order := false, guard := true } := by
  have heq : recordHit (some a) s = raiseGuardHit ((s.withSwm { s.swm with
      guardArmed := false, guardOffset := some a }).bumpCart
        ({ s.swm with guardArmed := false, guardOffset := some a : Swm }.cartFields != s.swm.cartFields)) :=
    if_pos h
  rw [heq, raiseGuardHit_swm, raiseGuardHit_nctl]
  simp

theorem recordHit_disarmed {s : State} (h : s.swm.guardArmed = false) (o : Option Nat) : recordHit o s = s := by
  unfold recordHit
  split
  · rfl
  · exact if_neg (by rw [h]; decide)

/-- GUARD_HIT: source 16 requests with the cause GUARD where it captures, and nothing happens where it does not. -/
theorem event16_guard (n : Nctl) :
    (n.sources[(15 : Fin 16)].capture = true →
      (n.event16 { order := false, guard := true }).sources[(15 : Fin 16)].request = true ∧
      (n.event16 { order := false, guard := true }).pendingCauses.guard = true) ∧
    (n.sources[(15 : Fin 16)].capture = false → n.event16 { order := false, guard := true } = n) := by
  refine ⟨fun h => ?_, fun h => if_neg (fun hc => Bool.noConfusion (h.symm.trans hc))⟩
  have heq : n.event16 { order := false, guard := true } = { n.event source16 with pendingCauses :=
      { order := n.pendingCauses.order || false, guard := n.pendingCauses.guard || true } } := if_pos h
  rw [heq]
  exact ⟨event_request n source16 h, Bool.or_true _⟩

/-! ## The obligation -/

/-- What lands of a burst in the list headers, the journal and the stored bytes. -/
theorem landBytes_landed {s : State} (hs : s.memGood) (w : Burst) (t : State)
    (ht : t = landBytes (burstBytes w) s) :
    (∀ (l : ListId) (i : Nat) (v : Byte), i < 256 → w.data[i]? = some v →
      ((w.offset.toNat + i) % 0x8000 = 0x0101 + 0x20 * l.val →
        s.mayWrite (0x0101 + 0x20 * l.val) v = true → t.owalk[l].policy = v) ∧
      ((w.offset.toNat + i) % 0x8000 = 0x0102 + 0x20 * l.val →
        s.mayWrite (0x0102 + 0x20 * l.val) v = true → t.owalk[l].first.toNat % 256 = v.toNat) ∧
      ((w.offset.toNat + i) % 0x8000 = 0x0103 + 0x20 * l.val →
        s.mayWrite (0x0103 + 0x20 * l.val) v = true → t.owalk[l].first.toNat / 256 = v.toNat)) ∧
    (∀ l : ListId,
      ((∀ (i : Nat) (v : Byte), i < 256 → w.data[i]? = some v →
          (w.offset.toNat + i) % 0x8000 = 0x0101 + 0x20 * l.val →
          s.mayWrite (0x0101 + 0x20 * l.val) v = false) → t.owalk[l].policy = s.owalk[l].policy) ∧
      ((∀ (i : Nat) (v : Byte), i < 256 → w.data[i]? = some v →
          (w.offset.toNat + i) % 0x8000 = 0x0102 + 0x20 * l.val →
          s.mayWrite (0x0102 + 0x20 * l.val) v = false) →
        t.owalk[l].first.toNat % 256 = s.owalk[l].first.toNat % 256) ∧
      ((∀ (i : Nat) (v : Byte), i < 256 → w.data[i]? = some v →
          (w.offset.toNat + i) % 0x8000 = 0x0103 + 0x20 * l.val →
          s.mayWrite (0x0103 + 0x20 * l.val) v = false) →
        t.owalk[l].first.toNat / 256 = s.owalk[l].first.toNat / 256)) := by
  subst ht
  have hpol := fun l : ListId => landBytes_at (fun t => t.owalk[l].policy) (fun v _ => v) (0x0101 + 0x20 * l.val) hs w
    fun x v t _ _ => (land_header x v t l).1
  have hlow := fun l : ListId => landBytes_at (fun t => t.owalk[l].first.toNat % 256) (fun v _ => v.toNat)
    (0x0102 + 0x20 * l.val) hs w fun x v t _ _ => (land_header x v t l).2.1
  have hhigh := fun l : ListId => landBytes_at (fun t => t.owalk[l].first.toNat / 256) (fun v _ => v.toNat)
    (0x0103 + 0x20 * l.val) hs w fun x v t _ _ => (land_header x v t l).2.2.1
  exact ⟨fun l i v hi hv => ⟨(hpol l).1 i v hi hv, (hlow l).1 i v hi hv, (hhigh l).1 i v hi hv⟩,
    fun l => ⟨(hpol l).2, (hlow l).2, (hhigh l).2⟩⟩

theorem landBytes_journal {s : State} (hs : s.memGood) (w : Burst) (j : Fin 48) :
    ((∃ i : Nat, i < 256 ∧ w.data[i]? = some 0 ∧ (w.offset.toNat + i) % 0x8000 = 0x1100 + 0x20 * j.val) →
      s.cust.journal[j].state ≠ .held →
      (landBytes (burstBytes w) s).cust.journal[j] = { s.cust.journal[j] with state := .free }) ∧
    ((∀ i : Nat, i < 256 → w.data[i]? = some 0 → (w.offset.toNat + i) % 0x8000 ≠ 0x1100 + 0x20 * j.val) ∨
      s.cust.journal[j].state = .held → (landBytes (burstBytes w) s).cust.journal[j] = s.cust.journal[j]) := by
  obtain ⟨hhit, hmiss⟩ := landBytes_at (fun t => t.cust.journal[j]) (fun _ e => { e with state := .free })
    (0x1100 + 0x20 * j.val) hs w fun x v t hw _ => land_journal hw t j
  have hw := fun v => mayWrite_journal s j v (le_refl (0x1100 + 0x20 * j.val)) (by omega)
  refine ⟨fun ⟨i, hi, hv, ha⟩ hheld => hhit i 0 hi hv ha ((hw 0).mpr ⟨rfl, rfl, hheld⟩), fun h => hmiss ?_⟩
  intro i v hi hv ha
  refine Bool.eq_false_iff.mpr fun hm => ?_
  obtain ⟨-, rfl, hheld⟩ := (hw v).mp hm
  exact h.elim (fun hne => hne i hi hv ha) hheld

theorem landBytes_read {s : State} (hs : s.memGood) (w : Burst) :
    (∀ (i : Nat) (v : Byte), i < 256 → w.data[i]? = some v → 0x1800 ≤ (w.offset.toNat + i) % 0x8000 →
      s.mayWrite ((w.offset.toNat + i) % 0x8000) v = true →
      Memory.read (landBytes (burstBytes w) s).swm.mem ((w.offset.toNat + i) % 0x8000) = v) ∧
    (∀ a : Nat, (∀ (i : Nat) (v : Byte), i < 256 → w.data[i]? = some v →
        (w.offset.toNat + i) % 0x8000 = a → a < 0x1800 ∨ s.mayWrite a v = false) →
      Memory.read (landBytes (burstBytes w) s).swm.mem a = Memory.read s.swm.mem a) := by
  have hat := fun a : Nat => landBytes_at (fun t => Memory.read t.swm.mem a)
    (fun v m => if 0x1800 ≤ a then v else m) a hs w fun x v t _ ht => by
      rw [read_land ht]
      by_cases hx : x = a
      · subst hx
        simp only [true_and, if_true]
      · rw [if_neg fun h => hx h.1.symm, if_neg hx]
  refine ⟨fun i v hi hv ha hw => ((hat _).1 i v hi hv rfl hw).trans (if_pos ha), fun a h => ?_⟩
  by_cases ha : a < 0x1800
  · refine lands_miss (fun t => Memory.read t.swm.mem a) hs fun y _ t ht => ?_
    rw [read_land ht, if_neg (by omega)]
  · exact (hat a).2 fun i v hi hv he => (h i v hi hv he).resolve_left ha

/-- A burst that covers no watched byte changes the stored bytes, the list headers and the journal (R160, R162). -/
theorem landBytes_uncovered {s : State} (hs : s.memGood) {w : Burst} (h : ∀ i : Nat, i < 256 → i < w.data.length →
    (w.offset.toNat + i) % 0x8000 ∉ [0x0100, 0x0120, 0x0142, 0x0143]) :
    s.changedOnly [.stored, .lists, .journal] (landBytes (burstBytes w) s) ∧
    ∀ i : ListId, (landBytes (burstBytes w) s).owalk[i] = { s.owalk[i] with
      policy := (landBytes (burstBytes w) s).owalk[i].policy
      first := (landBytes (burstBytes w) s).owalk[i].first } := by
  have hno : ∀ (a i : Nat) (v : Byte), a ∈ [0x0100, 0x0120, 0x0142, 0x0143] → i < 256 → w.data[i]? = some v →
      (w.offset.toNat + i) % 0x8000 ≠ a := fun a i v ha hi hv he => by
    obtain ⟨hlt, -⟩ := List.getElem?_eq_some_iff.mp hv
    exact h i hi hlt (by rw [he]; exact ha)
  have hend := (landBytes_at (fun t => t.swm.endWord) (fun v _ => v) 0x0142 hs w
    fun x v t _ _ => (land_words x v t).1).2 fun i v hi hv he => absurd he (hno _ i v (by decide) hi hv)
  have hheart := (landBytes_at (fun t => t.swm.heartbeatWord) (fun v _ => v) 0x0143 hs w
    fun x v t _ _ => (land_words x v t).2).2 fun i v hi hv he => absurd he (hno _ i v (by decide) hi hv)
  refine ⟨fun x hx => ?_, fun i => ?_⟩
  · by_cases hw : x = .words
    · subst hw
      exact ⟨hend, hheart⟩
    · exact landBytes_frame _ s x fun hm => by
        simp only [List.mem_cons, List.not_mem_nil, or_false] at hm hx
        tauto
  · have hrest := lands_miss (fun t => { t.owalk[i] with policy := 0, first := 0 }) hs
      (xs := (burstBytes w).filter fun x => s.mayWrite x.1 x.2) fun y _ t _ => (land_header y.1 y.2 t i).2.2.2
    have hcopy : ∀ x y : OrderList, { x with policy := 0, first := 0 } = { y with policy := 0, first := 0 } →
        x = { y with policy := x.policy, first := x.first } := fun x y he => by
      cases x
      cases y
      simp only [OrderList.mk.injEq] at he ⊢
      tauto
    exact hcopy _ _ hrest

/-- Settles O21: what lands stays through the guard capture and the watch events, and a burst that covers no watched
byte has no more than the capture. -/
theorem memoryWriteLandsAsGuardAllows : Obligations.MemoryWriteLandsAsGuardAllows := by
  refine ⟨fun s w hs _ => ⟨fun hr => congrArg Host.Outcome.next (if_neg (by rw [hr]; decide)), fun hr => ?_⟩,
    mayWrite_regions⟩
  have heq : writeBurst w s =
      watchEvents (burstBytes w) (recordHit (s.firstHit (burstBytes w)) (landBytes (burstBytes w) s)) := if_pos hr
  obtain ⟨hset, hkeep⟩ := landBytes_landed hs w _ rfl
  have hjournal := landBytes_journal hs w
  obtain ⟨hread, hstay⟩ := landBytes_read hs w
  have hseq := lands_miss (fun t => t.cust.nextSequence) hs
    (xs := (burstBytes w).filter fun x => s.mayWrite x.1 x.2) fun y _ t _ => land_sequence y.1 y.2 t
  have hfr := landBytes_frame (burstBytes w) s
  have hun := @landBytes_uncovered s hs w
  have hseq : (landBytes (burstBytes w) s).cust.nextSequence = s.cust.nextSequence := hseq
  generalize landBytes (burstBytes w) s = u at *
  have hrec := recordHit_frame (s.firstHit (burstBytes w)) u
  have hev := (hrec.mono (m := .guard :: watchParts) (by decide)).then
    (watchEvents_frame (burstBytes w) (recordHit (s.firstHit (burstBytes w)) u))
  have hhead := headersKept_trans (headersKept_of_owalk (owalk_of_frame hrec))
    (watchEvents_headersKept (burstBytes w) (recordHit (s.firstHit (burstBytes w)) u))
  refine ⟨_, congrArg Host.Outcome.next heq, fun l i v hi hv => ?_, fun l => ?_, fun j => ?_, ?_, fun i v hi hv ha hw => ?_,
    fun a ha => ?_, fun h => ?_⟩
  · rw [(hhead l).1, (hhead l).2]
    exact hset l i v hi hv
  · rw [(hhead l).1, (hhead l).2]
    exact hkeep l
  · rw [cust_of_frame hev]
    exact hjournal j
  · rw [cust_of_frame hev]
    exact hseq
  · rw [(hev .stored (by decide)).2]
    exact hread i v hi hv ha hw
  · rw [(hev .stored (by decide)).2]
    exact hstay a ha
  · obtain ⟨hquiet, hlists⟩ := hun h
    rw [watchEvents_uncovered h] at hhead ⊢
    refine ⟨(hquiet.mono (m := [.stored, .lists, .journal, .guard, .notices, .counts]) (by decide)).then hrec, fun i => ?_,
      fun hnone => ?_, fun a ha harm => ?_, fun harm => ?_⟩
    · rw [owalk_of_frame hrec]
      exact hlists i
    · rw [hnone]
      exact hquiet
    · have hguard : u.swm.guardArmed = true := (hquiet .guard (by decide)).1.trans harm
      obtain ⟨h1, h2, h3⟩ := recordHit_armed hguard a
      obtain ⟨hcap, hno⟩ := event16_guard s.nctl
      rw [ha, h1, h2, h3, nctl_of_frame hquiet]
      exact ⟨rfl, rfl, hcap, hno⟩
    · rw [recordHit_disarmed ((hquiet .guard (by decide)).1.trans harm)]
      exact hquiet

end Sys2Proof.Machine
end

section
/-! PROOF. The rules of the Latch Driver: the take of a request (R135, R136, R138), the reserve given back (R140), the
offer of the queue when a slot goes idle (R135, R140), and a request for a bay (R134). -/

namespace Sys2Proof.Machine

-- One declaration after the other: the check compiles the whole text within a memory bound.
set_option Elab.async false

/-! ## Slots that drive -/

theorem slot_cases (k : Slot) : k = 0 ∨ k = 1 := by
  revert k
  decide

theorem other_slot {m x : Slot} (h : x ≠ m) : x = 1 - m := by
  revert m x
  decide

theorem driving_iff_slot (l : Ldrv) (k : Slot) (b : Bay) :
    l.driving b = (l.slotDrives k b || l.slotDrives (1 - k) b) := by
  obtain rfl | rfl := slot_cases k
  · rfl
  · exact Bool.or_comm _ _

theorem slotDrives_none {l : Ldrv} {k : Slot} (h : l.slots[k] = none) (b : Bay) : l.slotDrives k b = false := by
  unfold Ldrv.slotDrives
  rw [h]

/-- With slot `k` idle, the bays driven are those of the other slot. -/
theorem driving_of_idle {l : Ldrv} {k : Slot} (h : l.slots[k] = none) (b : Bay) :
    l.driving b = l.slotDrives (1 - k) b := by
  rw [driving_iff_slot l k b, slotDrives_none h, Bool.false_or]

theorem slotDrives_congr {l l' : Ldrv} {k : Slot} (h : l'.slots[k] = l.slots[k]) (b : Bay) :
    l'.slotDrives k b = l.slotDrives k b := by
  unfold Ldrv.slotDrives
  rw [h]

theorem oldestFree_none {l : Ldrv} (h : ∀ q : LatchRequest, q ∈ l.queue → l.driving q.bay = true) :
    l.oldestFree = none := by
  have hf : l.queue.find? (fun r => !l.driving r.bay) = none :=
    List.find?_eq_none.mpr fun q hq => by rw [h q hq]; decide
  rw [Ldrv.oldestFree, hf]
  rfl

theorem oldestFree_some {l : Ldrv} {pre post : List LatchRequest} {q : LatchRequest} (hq : l.queue = pre ++ q :: post)
    (hpre : ∀ y : LatchRequest, y ∈ pre → l.driving y.bay = true) (h : l.driving q.bay = false) :
    l.oldestFree = some q.bay := by
  have hf : pre.find? (fun r => !l.driving r.bay) = none :=
    List.find?_eq_none.mpr fun y hy => by rw [hpre y hy]; decide
  rw [Ldrv.oldestFree, hq, List.find?_append, hf, List.find?_cons_of_pos (by rw [h]; rfl)]
  rfl

/-- The queue without a bay that one request alone is for. -/
theorem dequeue_split {l : Ldrv} {pre post : List LatchRequest} {q : LatchRequest} (hq : l.queue = pre ++ q :: post)
    (hpre : ∀ y : LatchRequest, y ∈ pre → y.bay ≠ q.bay) (hpost : ∀ y : LatchRequest, y ∈ post → y.bay ≠ q.bay) :
    (l.dequeue q.bay).queue = pre ++ post := by
  have h1 : pre.filter (fun r => r.bay != q.bay) = pre :=
    List.filter_eq_self.mpr fun y hy => bne_iff_ne.mpr (hpre y hy)
  have h2 : post.filter (fun r => r.bay != q.bay) = post :=
    List.filter_eq_self.mpr fun y hy => bne_iff_ne.mpr (hpost y hy)
  unfold Ldrv.dequeue
  rw [hq, List.filter_append, h1, List.filter_cons_of_neg (by simp), h2]

/-! ## The take of a request (R135, R136, R138) -/

/-- Slot `m` has taken the request for bay `b`. -/
def taken (m : Slot) (b : Bay) (u : State) : State := startDrive m b (askReserve m (u.withLdrv (u.ldrv.dequeue b)))

theorem askReserve_ldrv (m : Slot) (s : State) :
    (askReserve m s).ldrv = { s.ldrv with reserveHeld := decide (m = 1) || s.ldrv.reserveHeld } := by
  unfold askReserve
  obtain rfl | rfl := slot_cases m
  · rfl
  · have h : (requestReserve s).ldrv = s.ldrv := ldrv_of_frame (requestReserve_frame s)
    rw [if_pos rfl]
    dsimp only [withLdrv_ldrv]
    rw [h]
    rfl

theorem requestReserve_rest (s : State) : (requestReserve s).acc = s.acc ∧ (requestReserve s).cust = s.cust ∧
    (requestReserve s).out = s.out ∧ (requestReserve s).now = s.now := by
  have hf := requestReserve_frame s
  exact ⟨acc_of_frame hf, cust_of_frame hf, out_of_frame hf, now_of_frame hf⟩

theorem returnReserve_rest (s : State) : (returnReserve s).acc = s.acc ∧ (returnReserve s).cust = s.cust ∧
    (returnReserve s).out = s.out := by
  have hf := returnReserve_frame s
  exact ⟨acc_of_frame hf, cust_of_frame hf, out_of_frame hf⟩

theorem askReserve_rest (m : Slot) (s : State) : (askReserve m s).acc = s.acc ∧ (askReserve m s).cust = s.cust ∧
    (askReserve m s).out = s.out ∧ (askReserve m s).now = s.now ∧ (askReserve m s).bmon = s.bmon ∧
    (askReserve m s).palloc.reserve = if m = 1 then 56 else s.palloc.reserve := by
  have hb : (requestReserve s).bmon = s.bmon := by
    unfold requestReserve
    split
    · rfl
    · exact passFrom_bmon ..
  obtain ⟨h1, h2, h3, h4⟩ := requestReserve_rest s
  unfold askReserve
  split
  · exact ⟨h1, h2, h3, h4, hb, requestReserve_reserve s⟩
  · exact ⟨rfl, rfl, rfl, rfl, rfl, rfl⟩

/-- A consideration leaves the reserve as it is. -/
theorem consider_reserve (s : State) : (consider s).palloc.reserve = s.palloc.reserve := by
  obtain ⟨-, -, -, -, -, -, h, -⟩ := settings_each (consider_frame s .limits (by decide))
  exact h

theorem taken_ldrv (m : Slot) (b : Bay) (u : State) : (taken m b u).ldrv = { u.ldrv with
    queue := (u.ldrv.dequeue b).queue
    slots := u.ldrv.slots.set m (some
      { bay := b, mode := u.ldrv.mode, pulse := u.ldrv.pulse, since := u.now
        releasedSeen := decide (u.bmon[b].latch = .released) })
    reserveHeld := decide (m = 1) || u.ldrv.reserveHeld } := by
  obtain ⟨-, -, -, hnow, hbmon, -⟩ := askReserve_rest m (u.withLdrv (u.ldrv.dequeue b))
  have hl := askReserve_ldrv m (u.withLdrv (u.ldrv.dequeue b))
  unfold taken startDrive
  generalize askReserve m (u.withLdrv (u.ldrv.dequeue b)) = v at *
  dsimp only
  rw [consider_ldrv, ldrv_of_frame (custDriveStart_frame b _), ldrv_of_frame (answerDeciding_frame b _ _ _ _),
    withLdrv_ldrv, newDrive, hl, hnow, hbmon]
  rfl

/-- The release of a bay after the start of its drive (R121). -/
theorem custDriveStart_release {b : Bay} {r : Release} {s : State} (h : s.cust.releases[b] = some r) :
    (custDriveStart b s).cust.releases[b] =
      some (if r.stage = .latchWait then r.started s.bmon[b].door s.now else r) := by
  unfold custDriveStart
  rw [h]
  dsimp only
  split
  · have hset : ∀ x : Option Release, (s.setRelease b x).cust.releases[b] = x := fun x => Vector.getElem_set_self b.isLt
    rw [hset, Release.started]
    split <;> rfl
  · exact h

/-- What a take leaves of the reader port, the releases and the inputs of the next take. -/
theorem taken_rest (m : Slot) (b : Bay) (u : State) :
    (taken m b u).palloc.reserve = (if m = 1 then 56 else u.palloc.reserve) ∧
    (∀ r : Release, u.cust.releases[b] = some r → (taken m b u).cust.releases[b] =
      some (if r.stage = .latchWait then r.started u.bmon[b].door u.now else r)) ∧
    u.answersDeciding b ⟨0x01, bayByte b, 0⟩ (taken m b u) ∧
    (∀ x : Bay, (taken m b u).bmon[x].body = u.bmon[x].body) ∧ (taken m b u).now = u.now := by
  obtain ⟨hacc, hcust, hout, hnow, hbmon, hres⟩ := askReserve_rest m (u.withLdrv (u.ldrv.dequeue b))
  unfold taken startDrive
  generalize askReserve m (u.withLdrv (u.ldrv.dequeue b)) = v at *
  dsimp only
  have hans := answerDeciding_answers b .release (bayByte b) .none
    (v.withLdrv { v.ldrv with slots := v.ldrv.slots.set m (some (newDrive b v)) })
  have hf := (answerDeciding_frame b .release (bayByte b) .none
    (v.withLdrv { v.ldrv with slots := v.ldrv.slots.set m (some (newDrive b v)) }))
  have hpalloc : (answerDeciding b .release (bayByte b) .none
      (v.withLdrv { v.ldrv with slots := v.ldrv.slots.set m (some (newDrive b v)) })).palloc.reserve =
      v.palloc.reserve := by
    unfold answerDeciding
    split
    · split <;> rfl
    · rfl
  have hbm : (answerDeciding b .release (bayByte b) .none
      (v.withLdrv { v.ldrv with slots := v.ldrv.slots.set m (some (newDrive b v)) })).bmon = u.bmon := by
    refine Eq.trans ?_ hbmon
    unfold answerDeciding
    split
    · split <;> rfl
    · rfl
  have hc := (cust_of_frame hf).trans hcust
  have hn := (now_of_frame hf).trans hnow
  generalize answerDeciding b .release (bayByte b) .none
    (v.withLdrv { v.ldrv with slots := v.ldrv.slots.set m (some (newDrive b v)) }) = w at *
  have hg := custDriveStart_frame b w
  have hreserve : (custDriveStart b w).palloc.reserve = w.palloc.reserve := by
    unfold custDriveStart
    split
    · split <;> rfl
    · rfl
  have hentry : (custDriveStart b w).bmon = w.bmon := by
    unfold custDriveStart
    split
    · split <;> rfl
    · rfl
  refine ⟨?_, fun r hr => ?_, ?_, fun x => ?_, ?_⟩
  · rw [consider_reserve, hreserve, hpalloc, hres]
    rfl
  · rw [consider_cust, custDriveStart_release (by rw [hc]; exact hr), hbm, hn]
    rfl
  · refine answersDeciding_left (answersDeciding_right hans ?_ ?_) (congrArg Acc.transaction hacc)
      (congrArg (·.txd) hout)
    · rw [consider_acc, acc_of_frame hg]
    · rw [consider_out, out_of_frame hg]
  · rw [consider_body, hentry, hbm]
  · rw [consider_now, now_of_frame hg, hn]
    rfl

/-! ## The reserve given back (R140) -/

theorem settleReserve_ldrv (s : State) : (settleReserve s).ldrv = { s.ldrv with
    reserveHeld := s.ldrv.reserveHeld && s.ldrv.slots[(1 : Slot)].isSome } := by
  unfold settleReserve
  split
  · next h =>
    rw [ldrv_of_frame (returnReserve_frame _), withLdrv_ldrv, ← Option.not_isNone, h.2]
    simp
  · next h =>
    rw [not_and_or] at h
    cases hh : s.ldrv.reserveHeld with
    | false => rw [Bool.false_and, ← hh]
    | true =>
      have hs : s.ldrv.slots[(1 : Slot)].isNone = false := Bool.eq_false_iff.mpr (h.resolve_left (by simp [hh]))
      rw [Bool.true_and, ← Option.not_isNone, hs, Bool.not_false, ← hh]

theorem settleReserve_rest (s : State) : (settleReserve s).acc = s.acc ∧ (settleReserve s).cust = s.cust ∧
    (settleReserve s).out = s.out ∧ (∀ x : Bay, (settleReserve s).bmon[x].body = s.bmon[x].body) ∧
    (settleReserve s).nctl = s.nctl ∧
    (s.ldrv.reserveHeld = true → s.ldrv.slots[(1 : Slot)] = none → (settleReserve s).palloc.reserve = 28) ∧
    (s.ldrv.reserveHeld = false ∨ s.ldrv.slots[(1 : Slot)] ≠ none → settleReserve s = s) := by
  have hrest : (settleReserve s).acc = s.acc ∧ (settleReserve s).cust = s.cust ∧ (settleReserve s).out = s.out := by
    unfold settleReserve
    split
    · exact returnReserve_rest _
    · exact ⟨rfl, rfl, rfl⟩
  refine ⟨hrest.1, hrest.2.1, hrest.2.2, fun x => body_of_frame (settleReserve_frame s) (by decide) x,
    nctl_of_frame (settleReserve_frame s), fun h h1 => ?_, fun h => if_neg fun hc => ?_⟩
  · unfold settleReserve
    rw [if_pos ⟨h, by rw [h1]; rfl⟩]
    exact returnReserve_reserve _
  · obtain ⟨h1, h2⟩ := hc
    exact h.elim (fun hf => Bool.noConfusion (hf.symm.trans h1)) fun hn => hn (Option.isNone_iff_eq_none.mp h2)

/-! ## A slot cleared (R140) -/

theorem clearSlot_ldrv (k : Slot) (s : State) :
    (clearSlot k s).ldrv = { s.ldrv with slots := s.ldrv.slots.set k none } := by
  unfold clearSlot
  rw [consider_ldrv, withLdrv_ldrv]

theorem clearSlot_rest (k : Slot) (s : State) : (clearSlot k s).acc = s.acc ∧ (clearSlot k s).cust = s.cust ∧
    (clearSlot k s).out = s.out ∧ (clearSlot k s).now = s.now ∧ (clearSlot k s).nctl = s.nctl ∧
    (∀ x : Bay, (clearSlot k s).bmon[x].body = s.bmon[x].body) := by
  unfold clearSlot
  exact ⟨by rw [consider_acc]; rfl, by rw [consider_cust]; rfl, by rw [consider_out]; rfl,
    by rw [consider_now]; rfl, by rw [consider_nctl]; rfl, fun x => by rw [consider_body]; rfl⟩

theorem slots_set_self (k : Slot) (d : Option Drive) (v : Vector (Option Drive) 2) : (v.set k d)[k] = d :=
  Vector.getElem_set_self k.isLt

theorem slots_set_other {k x : Slot} (h : x ≠ k) (d : Option Drive) (v : Vector (Option Drive) 2) :
    (v.set k d)[x] = v[x] :=
  Vector.getElem_set_ne k.isLt x.isLt fun he => h (Fin.ext he.symm)

end Sys2Proof.Machine
end

section
/-! PROOF. The offer of the queue (R135, R139, R140): what it comes to when it takes nothing, one request, or discards
one; then a slot that goes idle, and a request for a bay (R134). -/

namespace Sys2Proof.Machine

-- One declaration after the other: the check compiles the whole text within a memory bound.
set_option Elab.async false

/-! ## The offer -/

theorem slot_other_ne (k : Slot) : (1 : Slot) - k ≠ k := by
  revert k
  decide

/-- The offer ends where no slot is idle or no request is free. -/
theorem offer_stops {s : State} (h : s.ldrv.offeredSlot = none ∨ s.ldrv.oldestFree = none) (n : Nat) :
    offer n s = s := by
  cases n with
  | zero => rfl
  | succ n =>
    unfold offer
    split
    · next k b hk hb => exact h.elim (fun h => absurd (hk.symm.trans h) nofun) fun h => absurd (hb.symm.trans h) nofun
    · rfl

/-- A request for an ACTIVE bay is discarded (R135). -/
theorem offer_discards {s : State} {m : Slot} {b : Bay} (hm : s.ldrv.offeredSlot = some m)
    (hb : s.ldrv.oldestFree = some b) (ha : s.psched.records[b].state = .active) (n : Nat) :
    offer (n + 1) s = offer n (s.withLdrv (s.ldrv.dequeue b)) := by
  rw [offer, hm, hb]
  exact if_pos ha

/-- The oldest free request is taken by the slot that is offered the queue (R135, R139). -/
theorem offer_takes {s : State} {m : Slot} {b : Bay} (hm : s.ldrv.offeredSlot = some m)
    (hb : s.ldrv.oldestFree = some b) (ha : s.psched.records[b].state ≠ .active) (n : Nat) :
    offer (n + 1) s = if (taken m b s).ldrv.mode = .hold ∧ (taken m b s).bmon[b].door = .opened then
      offer n (clearSlot m (taken m b s)) else offer n (taken m b s) := by
  rw [offer, hm, hb]
  exact if_neg ha

theorem offeredSlot_some {l : Ldrv} {m : Slot} (h : l.offeredSlot = some m) : l.slots[m] = none := by
  unfold Ldrv.offeredSlot at h
  split at h
  · next h0 => obtain rfl := Option.some.inj h; exact Option.isNone_iff_eq_none.mp h0
  · split at h
    · next h1 => obtain rfl := Option.some.inj h; exact Option.isNone_iff_eq_none.mp h1
    · exact absurd h nofun

theorem offeredSlot_none {l : Ldrv} (h : l.slots[(0 : Slot)] ≠ none ∧ l.slots[(1 : Slot)] ≠ none) :
    l.offeredSlot = none := by
  unfold Ldrv.offeredSlot
  rw [if_neg fun h0 => h.1 (Option.isNone_iff_eq_none.mp h0), if_neg fun h1 => h.2 (Option.isNone_iff_eq_none.mp h1)]

/-- With slot `k` idle, the queue is offered to slot 1 if it is idle, else to slot 2. -/
theorem offeredSlot_idle {l : Ldrv} {k : Slot} (h : l.slots[k] = none) :
    l.offeredSlot = some (if l.slots[(0 : Slot)] = none then 0 else 1) := by
  unfold Ldrv.offeredSlot
  by_cases h0 : l.slots[(0 : Slot)] = none
  · rw [if_pos h0, if_pos (by rw [h0]; rfl)]
  · obtain rfl | rfl := slot_cases k
    · exact absurd h h0
    · rw [if_neg h0, if_neg fun hc => h0 (Option.isNone_iff_eq_none.mp hc), if_pos (by rw [h]; rfl)]

/-- `t` holds the take of the request for bay `b` by slot `m` in `u`, with every other request left to wait. -/
structure State.Takes (u : State) (m : Slot) (b : Bay) (t : State) : Prop where
  queue : t.ldrv.queue = (u.ldrv.dequeue b).queue
  slot : u.takes m b t
  release : ∀ r : Release, u.cust.releases[b] = some r →
    t.cust.releases[b] = some (if r.stage = .latchWait then r.started u.bmon[b].door u.now else r)
  answer : u.answersDeciding b ⟨0x01, bayByte b, 0⟩ t

/-- The requests left in the queue are blocked after a take: the other slot drives all their bays. -/
theorem oldestFree_others {u : State} {m : Slot} {b : Bay} {l : Ldrv}
    (hq : l.queue = (u.ldrv.dequeue b).queue) (hs : l.slots[1 - m] = u.ldrv.slots[1 - m])
    (h : ∀ q : LatchRequest, q ∈ u.ldrv.queue → q.bay ≠ b → u.ldrv.slotDrives (1 - m) q.bay = true) :
    l.oldestFree = none := by
  refine oldestFree_none fun q hmem => ?_
  rw [hq] at hmem
  obtain ⟨hmem, hne⟩ := List.mem_filter.mp hmem
  rw [driving_iff_slot l m, slotDrives_congr hs, h q hmem (bne_iff_ne.mp hne), Bool.or_true]

/-- A take after which the offer ends, as no slot is idle or the other slot drives every bay left, and the reserve
settled. -/
theorem offer_takes_one {u : State} {m : Slot} {b : Bay} {n : Nat} (hm : u.ldrv.offeredSlot = some m)
    (hb : u.ldrv.oldestFree = some b) (ha : u.psched.records[b].state ≠ .active)
    (hend : (u.ldrv.slots[1 - m] ≠ none ∧ (u.ldrv.mode ≠ .hold ∨ u.bmon[b].door = .closed)) ∨
      ∀ q : LatchRequest, q ∈ u.ldrv.queue → q.bay ≠ b → u.ldrv.slotDrives (1 - m) q.bay = true) :
    u.Takes m b (settleReserve (offer (n + 1) u)) := by
  have hother := slot_other_ne m
  have hl := taken_ldrv m b u
  obtain ⟨hres, hrel, hans, hbody, hnow⟩ := taken_rest m b u
  have hdoor := (entry_of_body (hbody b)).2.1
  have hself : (taken m b u).ldrv.slots[m] = some
      { bay := b, mode := u.ldrv.mode, pulse := u.ldrv.pulse, since := u.now
        releasedSeen := decide (u.bmon[b].latch = .released) } :=
    (congrArg (fun l : Ldrv => l.slots[m]) hl).trans (slots_set_self m _ _)
  have hslots : ∀ x : Slot, x ≠ m → (taken m b u).ldrv.slots[x] = u.ldrv.slots[x] := fun x hx =>
    (congrArg (fun l : Ldrv => l.slots[x]) hl).trans (slots_set_other hx _ _)
  have hqueue : (taken m b u).ldrv.queue = (u.ldrv.dequeue b).queue := (congrArg Ldrv.queue hl :)
  have hmode : (taken m b u).ldrv.mode = u.ldrv.mode := (congrArg Ldrv.mode hl :)
  have hheld : (taken m b u).ldrv.reserveHeld = (decide (m = 1) || u.ldrv.reserveHeld) :=
    (congrArg Ldrv.reserveHeld hl :)
  rw [offer_takes hm hb ha, hmode, hdoor]
  generalize taken m b u = v at *
  by_cases hc : u.ldrv.mode = .hold ∧ u.bmon[b].door = .opened
  · rw [if_pos hc]
    have hlc := clearSlot_ldrv m v
    obtain ⟨hacc, hcust, hout, hnowc, -, hbc⟩ := clearSlot_rest m v
    have hfree : (clearSlot m v).ldrv.oldestFree = none := by
      refine oldestFree_others (u := u) ((congrArg Ldrv.queue hlc).trans hqueue) ?_
        (hend.resolve_left fun h => h.2.elim (fun h => h hc.1) fun h => by rw [hc.2] at h; exact nomatch h)
      rw [hlc]
      exact (slots_set_other hother _ _).trans (hslots _ hother)
    rw [offer_stops (.inr hfree)]
    have hls := settleReserve_ldrv (clearSlot m v)
    obtain ⟨g1, g2, g3, -, -, g6, -⟩ := settleReserve_rest (clearSlot m v)
    have hm0 : (clearSlot m v).ldrv.slots[m] = none :=
      (congrArg (fun l : Ldrv => l.slots[m]) hlc).trans (slots_set_self m _ _)
    refine ⟨?_, ⟨fun x hx => ?_, fun _ _ => ⟨?_, fun hm1 => ?_⟩, fun h => ?_⟩, fun r hr => ?_, ?_⟩
    · rw [hls, hlc]
      exact hqueue
    · rw [hls, hlc]
      exact (slots_set_other hx _ _).trans (hslots x hx)
    · rw [hls]
      exact hm0
    · subst hm1
      have hr : (clearSlot 1 v).ldrv.reserveHeld = true := by rw [hlc]; exact hheld
      refine ⟨?_, g6 hr hm0⟩
      rw [hls]
      dsimp only
      rw [hm0]
      exact Bool.and_false _
    · exact absurd hc fun hc => h.elim (fun h => h hc.1) fun h => by rw [hc.2] at h; exact nomatch h
    · rw [g2, hcust]
      exact hrel r hr
    · exact answersDeciding_right hans (by rw [g1, hacc]) (by rw [g3, hout])
  · rw [if_neg hc]
    have hstop : v.ldrv.offeredSlot = none ∨ v.ldrv.oldestFree = none := by
      obtain ⟨h, -⟩ | h := hend
      · have hboth : ∀ x : Slot, v.ldrv.slots[x] ≠ none := fun x => by
          by_cases hx : x = m
          · subst hx
            rw [hself]
            nofun
          · rw [hslots x hx, other_slot hx]
            exact h
        exact .inl (offeredSlot_none ⟨hboth 0, hboth 1⟩)
      · exact .inr (oldestFree_others hqueue (hslots _ hother) h)
    rw [offer_stops hstop]
    have hls := settleReserve_ldrv v
    obtain ⟨g1, g2, g3, -, -, -, g7⟩ := settleReserve_rest v
    refine ⟨by rw [hls]; exact hqueue, ⟨fun x hx => by rw [hls]; exact hslots x hx, fun h1 h2 => absurd ⟨h1, h2⟩ hc,
      fun _ => ⟨by rw [hls]; exact hself, fun hm1 => ?_⟩⟩, fun r hr => by rw [g2]; exact hrel r hr,
      answersDeciding_right hans (by rw [g1]) (by rw [g3])⟩
    subst hm1
    have hone : v.ldrv.slots[(1 : Slot)] ≠ none := by rw [hself]; nofun
    rw [g7 (.inr hone), hheld, hres]
    exact ⟨rfl, rfl⟩

/-! ## A slot that goes idle (R135, R140) -/

/-- `u` is `s` with slot `k` idle, and otherwise as an offer of the queue reads it. -/
structure State.SlotIdle (s : State) (k : Slot) (u : State) : Prop where
  ldrv : u.ldrv.queue = s.ldrv.queue ∧ u.ldrv.slots = s.ldrv.slots.set k none ∧
    u.ldrv.reserveHeld = s.ldrv.reserveHeld ∧ u.ldrv.mode = s.ldrv.mode ∧ u.ldrv.pulse = s.ldrv.pulse
  inputs : ∀ b : Bay, u.bmon[b].door = s.bmon[b].door ∧ u.bmon[b].latch = s.bmon[b].latch
  now : u.now = s.now
  releases : ∀ (b : Bay) (r : Release), s.cust.releases[b] = some r → r.stage = .latchWait →
    u.cust.releases[b] = some r
  transaction : u.acc.transaction = s.acc.transaction
  sent : u.out.txd = s.out.txd
  active : ∀ b : Bay, s.psched.records[b].state = .active → u.psched.records[b].state = .active
  idle : ∀ b : Bay, s.psched.records[b].state ≠ .active →
    (s.psched.records[b].state = .waiting → s.cust.inCartAt b = false) → u.psched.records[b].state ≠ .active

/-- What a take from the state with the idle slot is, said of the state before. -/
theorem Takes.queued {s u t : State} {k m : Slot} {b : Bay} (h : s.SlotIdle k u)
    (hm : m = if k = 0 ∨ s.ldrv.slots[(0 : Slot)] = none then 0 else 1) (ht : u.Takes m b t) :
    s.takesQueued k b t := by
  obtain ⟨hqueue, hslots, hheld, hmode, hpulse⟩ := h.ldrv
  obtain ⟨hdoor, hlatch⟩ := h.inputs b
  refine ⟨fun x hx => ?_, fun r hr hst => ?_, fun y hy hb => ?_, fun hy => ?_⟩
  · obtain rfl : x = m := hx.trans hm.symm
    obtain ⟨h1, h2, h3⟩ := ht.slot
    rw [hslots] at h1
    rw [hmode, hdoor] at h2 h3
    rw [hpulse, h.now, hlatch] at h3
    exact ⟨h1, h2, h3⟩
  · rw [ht.release r (h.releases b r hr hst), if_pos hst, hdoor, h.now]
  · rw [← h.sent]
    exact ht.answer.1 y (h.transaction.trans hy) hb
  · rw [← h.sent, ← h.transaction]
    exact ht.answer.2 fun y hy' => hy y (h.transaction.symm.trans hy')

/-- What the offer of the queue comes to when a slot goes idle. -/
theorem slotIdle_freed {s u : State} {k : Slot} (h : s.SlotIdle k u) : s.slotFreed k (offerAndSettle u) := by
  obtain ⟨hqueue, hslots, hheld, hmode, hpulse⟩ := h.ldrv
  have hk : u.ldrv.slots[k] = none := by
    rw [hslots]
    exact slots_set_self k _ _
  have hother := slot_other_ne k
  have ho : u.ldrv.slots[1 - k] = s.ldrv.slots[1 - k] := by
    rw [hslots]
    exact slots_set_other hother _ _
  have hdrives : ∀ b : Bay, u.ldrv.driving b = s.ldrv.slotDrives (1 - k) b := fun b => by
    rw [driving_of_idle hk, slotDrives_congr ho]
  have hoffered : u.ldrv.offeredSlot = some (if k = 0 ∨ s.ldrv.slots[(0 : Slot)] = none then 0 else 1) := by
    rw [offeredSlot_idle hk, hslots]
    congr 1
    refine if_congr ?_ rfl rfl
    obtain rfl | rfl := slot_cases k
    · exact ⟨fun _ => .inl rfl, fun _ => slots_set_self 0 _ _⟩
    · rw [slots_set_other (by decide)]
      exact ⟨.inr, fun hc => hc.resolve_left (by decide)⟩
  set m : Slot := if k = 0 ∨ s.ldrv.slots[(0 : Slot)] = none then 0 else 1 with hm
  have hmk : s.ldrv.slots[1 - k] ≠ none → m = k := fun hbusy => by
    obtain rfl | rfl := slot_cases k
    · exact hm.trans (if_pos (.inl rfl))
    · exact hm.trans (if_neg fun hc => hc.elim (by decide) hbusy)
  refine ⟨fun hall => ?_, fun pre post q hq hpre hfree => ?_⟩
  · have hstop : offer u.ldrv.queue.length u = u :=
      offer_stops (.inr (oldestFree_none fun q hq => by rw [hdrives]; exact hall q (by rw [← hqueue]; exact hq))) _
    unfold offerAndSettle
    rw [hstop]
    have hls := settleReserve_ldrv u
    obtain ⟨-, -, g3, -, -, g6, -⟩ := settleReserve_rest u
    refine ⟨by rw [hls]; exact hqueue, by rw [hls]; exact hk, by rw [hls]; exact ho, fun hr h1 => ?_, by rw [g3, h.sent]⟩
    have hone : u.ldrv.slots[(1 : Slot)] = none := by
      obtain rfl | h1 := h1
      · exact hk
      · obtain rfl | rfl := slot_cases k
        · exact ho.trans h1
        · exact hk
    refine ⟨?_, g6 (hheld.trans hr) hone⟩
    rw [hls]
    dsimp only
    rw [hone]
    exact Bool.and_false _
  · have hold : u.ldrv.oldestFree = some q.bay :=
      oldestFree_some (hqueue.trans hq) (fun y hy => by rw [hdrives]; exact hpre y hy) (by rw [hdrives]; exact hfree)
    have hlen : u.ldrv.queue.length = (pre ++ post).length + 1 := by
      rw [hqueue, hq]
      simp
      omega
    have hnepre : ∀ y : LatchRequest, y ∈ pre → y.bay ≠ q.bay := fun y hy he =>
      Bool.noConfusion (hfree.symm.trans (he ▸ hpre y hy))
    have hdequeue : (∀ y : LatchRequest, y ∈ post → y.bay ≠ q.bay) → (u.ldrv.dequeue q.bay).queue = pre ++ post :=
      dequeue_split (hqueue.trans hq) hnepre
    have hbusy_of : ∀ y : LatchRequest, s.ldrv.slotDrives (1 - k) y.bay = true → s.ldrv.slots[1 - k] ≠ none :=
      fun y hy hn => Bool.noConfusion ((slotDrives_none hn y.bay).symm.trans hy)
    have hmem : ∀ y : LatchRequest, y ∈ u.ldrv.queue → y.bay ≠ q.bay → y ∈ pre ∨ y ∈ post := fun y hy hne => by
      rw [hqueue, hq, List.mem_append, List.mem_cons] at hy
      obtain hy | rfl | hy := hy
      · exact .inl hy
      · exact absurd rfl hne
      · exact .inr hy
    unfold offerAndSettle
    rw [hlen]
    refine ⟨fun hpost => ?_, fun hpost hbusy hdoor hna hw => ?_⟩
    · have hnepost : ∀ y : LatchRequest, y ∈ post → y.bay ≠ q.bay := fun y hy he =>
        Bool.noConfusion (hfree.symm.trans (he ▸ hpost y hy))
      have hothers : ∀ y : LatchRequest, y ∈ u.ldrv.queue → y.bay ≠ q.bay → s.ldrv.slotDrives (1 - k) y.bay = true :=
        fun y hy hne => (hmem y hy hne).elim (hpre y) (hpost y)
      by_cases ha : u.psched.records[q.bay].state = .active
      · rw [offer_discards hoffered hold ha]
        set v := u.withLdrv (u.ldrv.dequeue q.bay) with hv
        have hstop : v.ldrv.oldestFree = none :=
          oldestFree_others (u := u) (m := k) (b := q.bay) rfl rfl fun y hy hne => by
            rw [slotDrives_congr ho]
            exact hothers y hy hne
        rw [offer_stops (.inr hstop)]
        have hls := settleReserve_ldrv v
        obtain ⟨-, g2, g3, -⟩ := settleReserve_rest v
        have hvq : (settleReserve v).ldrv.queue = pre ++ post := by
          rw [hls]
          exact hdequeue hnepost
        refine ⟨hvq, fun _ => ⟨by rw [hls]; exact hk, by rw [hls]; exact ho, by rw [g3]; exact h.sent,
          fun r hr hst => by rw [g2]; exact h.releases q.bay r hr hst⟩, fun hna hw => absurd ha (h.idle q.bay hna hw)⟩
      · have ht := offer_takes_one (n := (pre ++ post).length) hoffered hold ha (.inr fun y hy hne => by
            have hd := hothers y hy hne
            rw [hmk (hbusy_of y hd), slotDrives_congr ho]
            exact hd)
        exact ⟨ht.queue.trans (hdequeue hnepost), fun hact => absurd (h.active q.bay hact) ha,
          fun _ _ => Takes.queued h hm ht⟩
    · have ht := offer_takes_one (n := (pre ++ post).length) hoffered hold (h.idle q.bay hna hw)
        (.inl ⟨by rw [hmk hbusy, ho]; exact hbusy, by rw [hmode, (h.inputs q.bay).1]; exact hdoor⟩)
      exact ⟨ht.queue.trans (hdequeue hpost), Takes.queued h hm ht⟩

theorem slotFreed_right {s t v : State} {k : Slot} (h : s.slotFreed k t) (hl : v.ldrv = t.ldrv)
    (hr : v.palloc.reserve = t.palloc.reserve) (hc : v.cust = t.cust) (ha : v.acc = t.acc) (ho : v.out = t.out) :
    s.slotFreed k v := by
  simpa only [State.slotFreed, State.takesQueued, State.takes, hl, hr, hc, ha, ho] using h

/-! ## A request for a bay (R134) -/

/-- `t` holds what a request for bay `b` comes to in `v` with the queue blocked: it waits, with nothing reported, or a
slot takes it. -/
structure State.Asks (v : State) (b : Bay) (t : State) : Prop where
  waits : v.mustWait b → t.ldrv.slots = v.ldrv.slots ∧ t.ldrv.queue = (if v.ldrv.queued b then v.ldrv.queue
    else v.ldrv.queue ++ [{ bay := b, since := v.now }]) ∧ t.cust = v.cust ∧ t.acc = v.acc ∧ t.out = v.out
  takes : ¬v.mustWait b → ∀ m : Slot, m = (if v.ldrv.slots[(0 : Slot)] = none then 0 else 1) →
    t.ldrv.queue = v.ldrv.queue ∧ v.takes m b t ∧
    (∀ r : Release, v.cust.releases[b] = some r →
      t.cust.releases[b] = some (if r.stage = .latchWait then r.started v.bmon[b].door v.now else r)) ∧
    v.answersDeciding b ⟨0x01, bayByte b, 0⟩ t

theorem not_mustWait {s : State} {b : Bay} (h : ¬s.mustWait b) : s.ldrv.driving b = false ∧
    ∀ m : Slot, m = (if s.ldrv.slots[(0 : Slot)] = none then 0 else 1) → s.ldrv.slots[m] = none := by
  unfold State.mustWait at h
  push Not at h
  obtain ⟨h1, h2⟩ := h
  refine ⟨Bool.eq_false_iff.mpr h2, fun m hm => ?_⟩
  split at hm
  · next h0 => rw [hm]; exact h0
  · next h0 => rw [hm]; exact h1 h0

theorem requestDrive_asks {v : State} {b : Bay} (hq : v.queueBlocked) (ha : v.psched.records[b].state ≠ .active) :
    v.Asks b (requestDrive b v) := by
  have hevent : ∀ u : State, u = offerAndSettle (appendRequest b v) → v.Asks b u → v.Asks b (requestDrive b v) := by
    intro u hu h
    have heq : requestDrive b v = ldrvEvent (fun s => offerAndSettle (appendRequest b s)) v := rfl
    have e1 : (requestDrive b v).ldrv = u.ldrv := by rw [heq, ldrvEvent_ldrv, hu]
    have e2 : (requestDrive b v).cust = u.cust := by rw [heq, ldrvEvent_cust, hu]
    have e3 : (requestDrive b v).acc = u.acc := by rw [heq, ldrvEvent_acc, hu]
    have e4 : (requestDrive b v).out = u.out := by rw [heq, ldrvEvent_out, hu]
    have e5 : (requestDrive b v).palloc = u.palloc := by rw [heq, ldrvEvent_palloc, hu]
    obtain ⟨h1, h2⟩ := h
    constructor <;> simpa only [e1, e2, e3, e4, e5, State.takes, State.answersDeciding]
  refine hevent _ rfl ?_
  have hslots : (appendRequest b v).ldrv.slots = v.ldrv.slots := by
    unfold appendRequest
    split <;> rfl
  have hqueue : (appendRequest b v).ldrv.queue = (if v.ldrv.queued b then v.ldrv.queue
      else v.ldrv.queue ++ [{ bay := b, since := v.now }]) := by
    unfold appendRequest
    split <;> rfl
  have hrest : (appendRequest b v).cust = v.cust ∧ (appendRequest b v).acc = v.acc ∧
      (appendRequest b v).out = v.out ∧ (appendRequest b v).now = v.now ∧ (appendRequest b v).bmon = v.bmon ∧
      (appendRequest b v).psched = v.psched ∧ (appendRequest b v).ldrv.mode = v.ldrv.mode ∧
      (appendRequest b v).ldrv.pulse = v.ldrv.pulse := by
    unfold appendRequest
    split <;> exact ⟨rfl, rfl, rfl, rfl, rfl, rfl, rfl, rfl⟩
  have hdriving : ∀ x : Bay, (appendRequest b v).ldrv.driving x = v.ldrv.driving x := fun x => by
    unfold Ldrv.driving Ldrv.slotDrives
    rw [hslots]
  obtain ⟨hcust, hacc, hout, hnow, hbmon, hpsched, hmode, hpulse⟩ := hrest
  generalize appendRequest b v = u at *
  unfold offerAndSettle
  refine ⟨fun hw => ?_, fun hw m hm => ?_⟩
  · have hstop : u.ldrv.offeredSlot = none ∨ u.ldrv.oldestFree = none := by
      obtain ⟨h0, h1⟩ | hd := hw
      · exact .inl (offeredSlot_none (by rw [hslots]; exact ⟨h0, h1⟩))
      · obtain ⟨⟨d0, h0⟩, d1, h1⟩ | hall := hq
        · exact .inl (offeredSlot_none (by rw [hslots, h0, h1]; exact ⟨nofun, nofun⟩))
        · refine .inr (oldestFree_none fun q hmem => ?_)
          rw [hdriving]
          rw [hqueue] at hmem
          split at hmem
          · exact hall q hmem
          · obtain hmem | hmem := List.mem_append.mp hmem
            · exact hall q hmem
            · rw [List.mem_singleton.mp hmem]
              exact hd
    rw [offer_stops hstop]
    have hls := settleReserve_ldrv u
    obtain ⟨g1, g2, g3, -⟩ := settleReserve_rest u
    exact ⟨by rw [hls]; exact hslots, by rw [hls]; exact hqueue, g2.trans hcust, g1.trans hacc, g3.trans hout⟩
  · obtain ⟨hfree, hidle⟩ := not_mustWait hw
    have hidle := hidle m hm
    have hall : ∀ q : LatchRequest, q ∈ v.ldrv.queue → v.ldrv.driving q.bay = true := by
      obtain ⟨⟨d0, h0⟩, d1, h1⟩ | hall := hq
      · exact absurd (.inl ⟨by rw [h0]; nofun, by rw [h1]; nofun⟩) hw
      · exact hall
    have hnq : v.ldrv.queued b = false := by
      refine List.any_eq_false.mpr fun q hmem hb => ?_
      have := hall q hmem
      rw [eq_of_beq hb, hfree] at this
      exact nomatch this
    rw [hnq, if_neg (by decide)] at hqueue
    have hne : ∀ y : LatchRequest, y ∈ v.ldrv.queue → y.bay ≠ b := fun y hy he => by
      have := hall y hy
      rw [he, hfree] at this
      exact nomatch this
    have hu : u.ldrv.slots[m] = none := by rw [hslots]; exact hidle
    have hoffered : u.ldrv.offeredSlot = some m := by
      rw [offeredSlot_idle hu, hslots, hm]
    have hold : u.ldrv.oldestFree = some b :=
      oldestFree_some (q := { bay := b, since := v.now }) hqueue (fun y hy => by rw [hdriving]; exact hall y hy)
        (by rw [hdriving]; exact hfree)
    have hlen : u.ldrv.queue.length = v.ldrv.queue.length + 1 := by rw [hqueue, List.length_append]; rfl
    rw [hlen]
    have ht := offer_takes_one (n := v.ldrv.queue.length) hoffered hold (by rw [hpsched]; exact ha)
      (.inr fun q hmem hqb => by
        rw [← driving_of_idle hu, hdriving]
        rw [hqueue] at hmem
        obtain hmem | hmem := List.mem_append.mp hmem
        · exact hall q hmem
        · exact absurd (by rw [List.mem_singleton.mp hmem]) hqb)
    refine ⟨ht.queue.trans ?_, ?_, fun r hr => ?_, ?_⟩
    · have := dequeue_split (q := { bay := b, since := v.now }) hqueue hne fun y hy => absurd hy List.not_mem_nil
      rw [List.append_nil] at this
      exact this
    · have := ht.slot
      simpa only [State.takes, hslots, hmode, hpulse, hbmon, hnow] using this
    · have := ht.release r (by rw [hcust]; exact hr)
      rwa [hbmon, hnow] at this
    · exact answersDeciding_left ht.answer (by rw [hacc]) (by rw [hout])

/-- What a request comes to is what the obligations say of it, wherever the queue and the inputs are the same. -/
theorem Asks.requests {s v t : State} {b : Bay} (h : v.Asks b t) (hl : v.ldrv = s.ldrv) (hn : v.now = s.now)
    (hi : v.bmon[b].door = s.bmon[b].door ∧ v.bmon[b].latch = s.bmon[b].latch) : s.requests b t := by
  obtain ⟨hw, ht⟩ := h
  unfold State.mustWait at hw ht
  rw [hl, hn] at hw
  rw [hl] at ht
  have htakes : ∀ m : Slot, v.takes m b t → s.takes m b t := fun m h => by
    simpa only [State.takes, hl, hn, hi.1, hi.2] using h
  refine ⟨fun h => ⟨(hw h).1, (hw h).2.1⟩, fun h => ?_⟩
  have ht := ht h
  refine ⟨(ht _ rfl).1, fun h0 => htakes 0 (ht 0 (if_pos h0).symm).2.1, fun h0 => htakes 1 (ht 1 (if_neg h0).symm).2.1⟩

end Sys2Proof.Machine
end

section
/-! PROOF. Drives that end: by time (R139, R140, R142), and by the door of their bay (R139), with the doors that open and
close around a release (R11, R12, R122). -/

namespace Sys2Proof.Machine

-- One declaration after the other: the check compiles the whole text within a memory bound.
set_option Elab.async false

/-! ## A consideration of a bay that may not be joined (R74, R75) -/

/-- A consideration leaves the record of a bay that does not wait in the queue, or is not eligible. -/
theorem consider_recordKept {s : State} (hq : s.psched.queue.Nodup) {b : Bay}
    (h : b ∉ s.psched.queue ∨ ¬s.mayJoin b) : (consider s).psched.records[b] = s.psched.records[b] := by
  obtain ⟨hstand, hatt⟩ := consider_considers s
  cases hmode : s.psched.mode with
  | standalone => rw [(hstand hmode).1]
  | attended =>
    obtain ⟨-, hrest, -⟩ := hatt s.eligible hmode hq (eligible_iff s)
    refine (hrest b fun c hc => ?_).1
    obtain ⟨hmem, hok⟩ := List.mem_filter.mp (List.of_mem_zip hc).1
    exact h.elim (fun h => h hmem) fun h => h ((eligible_iff s b).mp hok)

/-- A bay with no record IN_CART may not be joined. -/
theorem not_mayJoin {s : State} {b : Bay} (h : s.cust.inCartAt b = false) : ¬s.mayJoin b := fun hj => by
  have := (inCartAt_iff s.cust b).mpr hj.2.2.2.2.1
  rw [h] at this
  exact nomatch this

/-- A consideration makes no bay ACTIVE that is not WAITING or has no record IN_CART, and ends no session. -/
theorem consider_active {s : State} (hq : s.psched.queue.Nodup)
    (hw : ∀ b : Bay, b ∈ s.psched.queue ↔ s.psched.records[b].state = .waiting) (b : Bay) :
    (s.psched.records[b].state = .active → (consider s).psched.records[b].state = .active) ∧
    (s.psched.records[b].state ≠ .active → (s.psched.records[b].state = .waiting → s.cust.inCartAt b = false) →
      (consider s).psched.records[b].state ≠ .active) := by
  refine ⟨fun ha => ?_, fun ha hin => ?_⟩
  · have hn : b ∉ s.psched.queue := fun hm => by rw [(hw b).mp hm] at ha; exact nomatch ha
    rw [consider_recordKept hq (.inl hn)]
    exact ha
  · have hn : b ∉ s.psched.queue ∨ ¬s.mayJoin b := by
      by_cases hm : b ∈ s.psched.queue
      · exact .inr (not_mayJoin (hin ((hw b).mp hm)))
      · exact .inl hm
    rw [consider_recordKept hq hn]
    exact ha

/-! ## A slot cleared leaves it idle (R140) -/

/-- `x` is `s` as an offer of the queue reads it, but for the releases that no drive can start. -/
structure State.SameOffer (s x : State) : Prop where
  ldrv : x.ldrv.queue = s.ldrv.queue ∧ x.ldrv.slots = s.ldrv.slots ∧ x.ldrv.reserveHeld = s.ldrv.reserveHeld ∧
    x.ldrv.mode = s.ldrv.mode ∧ x.ldrv.pulse = s.ldrv.pulse
  inputs : ∀ b : Bay, x.bmon[b].door = s.bmon[b].door ∧ x.bmon[b].latch = s.bmon[b].latch
  now : x.now = s.now
  releases : ∀ (b : Bay) (r : Release), s.cust.releases[b] = some r → r.stage = .latchWait →
    x.cust.releases[b] = some r
  transaction : x.acc.transaction = s.acc.transaction
  sent : x.out.txd = s.out.txd
  psched : x.psched = s.psched
  slots : x.cust.slots = s.cust.slots

theorem clearSlot_idle {s x : State} (h : s.SameOffer x) (hq : s.psched.queue.Nodup)
    (hw : ∀ b : Bay, b ∈ s.psched.queue ↔ s.psched.records[b].state = .waiting) (k : Slot) :
    s.SlotIdle k (clearSlot k x) := by
  obtain ⟨h1, h2, h3, h4, h5⟩ := h.ldrv
  have hl := clearSlot_ldrv k x
  obtain ⟨hacc, hcust, hout, hnow, -, hbody⟩ := clearSlot_rest k x
  have hps : (x.withLdrv { x.ldrv with slots := x.ldrv.slots.set k none }).psched = s.psched := h.psched
  have hcart : ∀ b : Bay, x.cust.inCartAt b = s.cust.inCartAt b := fun b => inCartAt_congr h.slots b
  have hact := fun b : Bay => consider_active (s := x.withLdrv { x.ldrv with slots := x.ldrv.slots.set k none })
    (by rw [hps]; exact hq) (fun b => by rw [hps]; exact hw b) b
  refine ⟨?_, fun b => ?_, hnow.trans h.now, fun b r hr hst => ?_, ?_, ?_, fun b ha => ?_, fun b ha hin => ?_⟩
  · rw [hl]
    exact ⟨h1, congrArg (fun v : Vector (Option Drive) 2 => v.set k none) h2, h3, h4, h5⟩
  · have he := hbody b
    exact ⟨((congrArg BayEntry.door he :)).trans (h.inputs b).1, ((congrArg BayEntry.latch he :)).trans (h.inputs b).2⟩
  · rw [hcust]
    exact h.releases b r hr hst
  · rw [hacc]
    exact h.transaction
  · rw [hout]
    exact h.sent
  · exact (hact b).1 (by rw [hps]; exact ha)
  · exact (hact b).2 (by rw [hps]; exact ha) (by rw [hps]; exact fun hwait => (hcart b).trans (hin hwait))

/-! ## A drive ends by time (R139, R140, R142) -/

theorem judge_rest (d : Drive) (s : State) : s.SameOffer (judge d s) ∧
    (judge d s).ldrv.stuck = s.ldrv.stuck.set d.bay (!d.releasedSeen) ∧ (judge d s).cust = s.cust ∧
    (d.releasedSeen = true → (judge d s).nctl = s.nctl) ∧
    (d.releasedSeen = false → s.nctl.sources[(5 : Fin 16)].capture = true →
      (judge d s).nctl.sources[(5 : Fin 16)].request = true) := by
  unfold judge
  dsimp only
  split
  · next h =>
    exact ⟨⟨⟨rfl, rfl, rfl, rfl, rfl⟩, fun _ => ⟨rfl, rfl⟩, rfl, fun _ _ hr _ => hr, rfl, rfl, rfl, rfl⟩, rfl, rfl,
      fun _ => rfl, fun hf => Bool.noConfusion (h.symm.trans hf)⟩
  · next h =>
    exact ⟨⟨⟨rfl, rfl, rfl, rfl, rfl⟩, fun _ => ⟨rfl, rfl⟩, rfl, fun _ _ hr _ => hr, rfl, rfl, rfl, rfl⟩, rfl, rfl,
      fun ht => absurd ht h, fun _ hc => raise_request .latchFault rfl hc⟩

/-- The end of a drive at LDRV, as one event, frees its slot. -/
theorem freed_event {s x : State} (h : s.SameOffer x) (hn : s.psched.queue.Nodup)
    (hw : ∀ b : Bay, b ∈ s.psched.queue ↔ s.psched.records[b].state = .waiting) (k : Slot) {f : State → State} {y : State}
    (hf : f y = offerAndSettle (clearSlot k x)) : s.slotFreed k (ldrvEvent f y) := by
  refine slotFreed_right (slotIdle_freed (clearSlot_idle h hn hw k)) ?_ ?_ ?_ ?_ ?_
  · rw [ldrvEvent_ldrv, hf]
  · rw [ldrvEvent_palloc, hf]
  · rw [ldrvEvent_cust, hf]
  · rw [ldrvEvent_acc, hf]
  · rw [ldrvEvent_out, hf]

/-- Settles O45: the judgement, and the offer of the queue to the slot cleared. -/
theorem driveEndsByTime : Obligations.DriveEndsByTime := by
  intro s k d hd hdue
  have heq : driveTimeEnds k s = timeEnd k d s := by
    unfold driveTimeEnds
    rw [hd]
    exact if_pos hdue
  obtain ⟨hsame, hstuck, hcust, hquiet, hfault⟩ := judge_rest d s
  have hfr := driveTimeEnds_frame k s
  rw [heq] at hfr
  have hevent : timeEnd k d s = ldrvEvent (fun s => offerAndSettle (clearSlot k (judge d s))) s := rfl
  have hoffer := offerAndSettle_frame (clearSlot k (judge d s))
  obtain ⟨-, hccust, -, -, hcnctl, -⟩ := clearSlot_rest k (judge d s)
  have hnctl : (timeEnd k d s).nctl = (judge d s).nctl := by
    rw [hevent, ldrvEvent_nctl, nctl_of_frame hoffer, hcnctl]
  refine ⟨_, congrArg Host.Outcome.next heq, fun b => ?_, fun h hc => ?_, fun h => ?_,
    fun hq => freed_event hsame hq.1 hq.2.1 k rfl, fun hempty => ?_, hfr⟩
  · have hl : (timeEnd k d s).ldrv.stuck = (judge d s).ldrv.stuck := by
      have hkept : (offerAndSettle (clearSlot k (judge d s))).ldrv.stuck = (clearSlot k (judge d s)).ldrv.stuck :=
        hoffer .stuck (by decide)
      rw [hevent, ldrvEvent_ldrv, hkept, clearSlot_ldrv]
    rw [hl, hstuck]
    exact getElem_set_fin _ _ _ _
  · rw [hnctl]
    exact hfault h hc
  · rw [hnctl]
    exact hquiet h
  · have hnone : (clearSlot k (judge d s)).ldrv.queue = [] := by
      rw [clearSlot_ldrv]
      exact hsame.ldrv.1.trans hempty
    rw [hevent, ldrvEvent_cust]
    unfold offerAndSettle
    rw [hnone]
    obtain ⟨-, g2, -⟩ := settleReserve_rest (offer 0 (clearSlot k (judge d s)))
    rw [List.length_nil, g2]
    exact congrArg Cust.releases (hccust.trans hcust)

end Sys2Proof.Machine
end

section
/-! PROOF. The doors that open and close around a release or a drive (R11, R12, R122, R139). -/

namespace Sys2Proof.Machine

-- One declaration after the other: the check compiles the whole text within a memory bound.
set_option Elab.async false

/-! ## What an offer leaves of a release that waits for no drive -/

theorem custDriveStart_other {b x : Bay} (h : x ≠ b) (s : State) :
    (custDriveStart b s).cust.releases[x] = s.cust.releases[x] := by
  unfold custDriveStart
  split
  · split
    · exact Vector.getElem_set_ne b.isLt x.isLt fun he => h (Fin.ext he.symm)
    · rfl
  · rfl

/-- A take leaves a release that is not in LATCH_WAIT. -/
theorem taken_release_kept {u : State} {b : Bay} {r : Release} (h : u.cust.releases[b] = some r)
    (hst : r.stage ≠ .latchWait) (m : Slot) (x : Bay) : (taken m x u).cust.releases[b] = some r := by
  by_cases hx : x = b
  · subst hx
    rw [(taken_rest m x u).2.1 r h, if_neg hst]
  · obtain ⟨-, hcust, -⟩ := askReserve_rest m (u.withLdrv (u.ldrv.dequeue x))
    unfold taken startDrive
    dsimp only
    rw [consider_cust, custDriveStart_other (Ne.symm hx), cust_of_frame (answerDeciding_frame x _ _ _ _)]
    exact (congrArg (fun c : Cust => c.releases[b]) hcust).trans h

theorem offer_release_kept {b : Bay} {r : Release} (hst : r.stage ≠ .latchWait) (n : Nat) {u : State}
    (h : u.cust.releases[b] = some r) : (offer n u).cust.releases[b] = some r := by
  induction n generalizing u with
  | zero => exact h
  | succ n ih =>
    cases hm : u.ldrv.offeredSlot with
    | none => rw [offer_stops (.inl hm)]; exact h
    | some m =>
      cases hx : u.ldrv.oldestFree with
      | none => rw [offer_stops (.inr hx)]; exact h
      | some x =>
        have ht := taken_release_kept h hst m x
        by_cases ha : u.psched.records[x].state = .active
        · rw [offer_discards hm hx ha]
          exact ih h
        · rw [offer_takes hm hx ha]
          split
          · refine ih ?_
            rw [(clearSlot_rest m _).2.1]
            exact ht
          · exact ih ht

/-! ## A door OPEN at LDRV (R139) -/

theorem slotOf_driving {l : Ldrv} {k : Slot} {d : Drive} {b : Bay} (hd : l.slots[k] = some d) (hb : d.bay = b)
    (h : l.slotDrives (1 - k) b = false) : l.slotOf b = some k := by
  have hk : l.slotDrives k b = true := (slotDrives_iff l k b).mpr ⟨d, hd, hb⟩
  unfold Ldrv.slotOf
  obtain rfl | rfl := slot_cases k
  · exact if_pos hk
  · exact (if_neg (by rw [show l.slotDrives 0 b = false from h]; decide)).trans (if_pos hk)

theorem ldrvDoorOpen_hold {s : State} {k : Slot} {d : Drive} {b : Bay} (hd : s.ldrv.slots[k] = some d) (hb : d.bay = b)
    (h : s.ldrv.slotDrives (1 - k) b = false) (hm : d.mode = .hold) :
    ldrvDoorOpen b s = ldrvEvent (fun s => offerAndSettle (clearSlot k s)) s := by
  unfold ldrvDoorOpen
  rw [slotOf_driving hd hb h]
  dsimp only
  rw [hd]
  exact if_pos hm

theorem ldrvDoorOpen_other {s : State} {b : Bay}
    (h : s.ldrv.driving b = false ∨ ∃ (k : Slot) (d : Drive), s.ldrv.slots[k] = some d ∧ d.bay = b ∧
      s.ldrv.slotDrives (1 - k) b = false ∧ d.mode ≠ .hold) : ldrvDoorOpen b s = s := by
  unfold ldrvDoorOpen
  obtain h | ⟨k, d, hd, hb, h1, hm⟩ := h
  · obtain ⟨h0, h1⟩ := Bool.or_eq_false_iff.mp h
    have hn : s.ldrv.slotOf b = none := (if_neg (by rw [h0]; decide)).trans (if_neg (by rw [h1]; decide))
    rw [hn]
  · rw [slotOf_driving hd hb h1]
    dsimp only
    rw [hd]
    exact if_neg hm

theorem ldrvDoorOpen_release {s : State} {b : Bay} {r : Release} (hst : r.stage ≠ .latchWait)
    (h : s.cust.releases[b] = some r) (x : Bay) : (ldrvDoorOpen x s).cust.releases[b] = some r := by
  have hevent : ∀ k : Slot,
      (ldrvEvent (fun s => offerAndSettle (clearSlot k s)) s).cust.releases[b] = some r := fun k => by
    rw [ldrvEvent_cust]
    unfold offerAndSettle
    rw [(settleReserve_rest _).2.1]
    refine offer_release_kept hst _ ?_
    rw [(clearSlot_rest _ s).2.1]
    exact h
  unfold ldrvDoorOpen
  repeat' split
  · exact hevent _
  all_goals exact h

/-- What a pass and a door OPEN at LDRV come to, in either order. -/
theorem eitherOrder_door (b : Bay) (v : State) : ∃ (w : State), w = v.withChoices (v.choices + 1) ∧
    (eitherOrder pass (ldrvDoorOpen b) v = ldrvDoorOpen b (pass w) ∨
      eitherOrder pass (ldrvDoorOpen b) v = pass (ldrvDoorOpen b w)) :=
  ⟨_, rfl, eitherOrder_cases pass (ldrvDoorOpen b) v⟩

theorem ldrvDoorOpen_settled {s : State} (b : Bay) (h : s.settled) : (ldrvDoorOpen b s).settled :=
  settled_steady.ldrvDoorOpen b h

/-- A pass leaves what an offer of the queue reads. -/
theorem pass_rest (s : State) : (pass s).ldrv = s.ldrv ∧ (pass s).cust = s.cust ∧ (pass s).acc = s.acc ∧
    (pass s).out = s.out ∧ (pass s).palloc.reserve = s.palloc.reserve := by
  obtain ⟨-, -, -, -, -, -, h, -⟩ := settings_each (pass_frame s .limits (by decide))
  exact ⟨ldrv_of_frame (pass_frame s), cust_of_frame (pass_frame s), acc_of_frame (pass_frame s),
    out_of_frame (pass_frame s), h⟩

theorem sameOffer_pass {s x : State} (h : s.SameOffer x) : s.SameOffer (pass x) := by
  obtain ⟨h1, h2, h3, h4, -⟩ := pass_rest x
  obtain ⟨g1, g2, g3, g4, g5, g6, g7, g8⟩ := h
  constructor
  · rw [h1]; exact g1
  · intro b; rw [pass_bmon]; exact g2 b
  · exact (now_of_frame (pass_frame x)).trans g3
  · rw [h2]; exact g4
  · rw [h3]; exact g5
  · rw [h4]; exact g6
  · rw [pass_psched]; exact g7
  · rw [h2]; exact g8

/-! ## A RELEASED opening (R11, R12, R122) -/

/-- The state in which the recipients of a RELEASED opening take it: the door open and classed, and the release
moved on. -/
def releasedOpening (b : Bay) (s : State) : State :=
  custDoorReleased b (cctlDoorOpen b
    (s.setEntry b { s.bmon[b] with door := .opened, doorDebounce := none, lastOpen := some .released }))

theorem custDoorReleased_releases (b : Bay) (s : State) :
    (∀ r : Release, s.cust.releases[b] = some r → r.stage = .window →
      (custDoorReleased b s).cust.releases[b] = some { r with stage := .opened, window := none }) ∧
    (∀ (x : Bay) (r : Release), s.cust.releases[x] = some r → r.stage ≠ .window →
      (custDoorReleased b s).cust.releases[x] = some r) := by
  unfold custDoorReleased
  refine ⟨fun r hr hst => ?_, fun x r hr hst => ?_⟩
  · rw [hr]
    dsimp only
    rw [if_pos hst]
    exact Vector.getElem_set_self b.isLt
  · split
    · next y hy =>
      split
      · next hw =>
        have hx : x ≠ b := fun he => by
          subst he
          obtain rfl := Option.some.inj (hy.symm.trans hr)
          exact hst hw
        exact (Vector.getElem_set_ne b.isLt x.isLt fun he => hx (Fin.ext he.symm)).trans hr
      · exact hr
    · exact hr

theorem releasedOpening_rest (b : Bay) (s : State) :
    (releasedOpening b s).bmon = (s.setEntry b
      { s.bmon[b] with door := .opened, doorDebounce := none, lastOpen := some .released }).bmon ∧
    (releasedOpening b s).ldrv = s.ldrv ∧ (releasedOpening b s).palloc = s.palloc ∧
    (s.setEntry b { s.bmon[b] with door := .opened }).SameOffer (releasedOpening b s) := by
  set v := cctlDoorOpen b
    (s.setEntry b { s.bmon[b] with door := .opened, doorDebounce := none, lastOpen := some .released }) with hv
  have hkeep : (custDoorReleased b v).bmon = v.bmon ∧ (custDoorReleased b v).ldrv = v.ldrv ∧
      (custDoorReleased b v).palloc = v.palloc ∧ (custDoorReleased b v).now = v.now ∧
      (custDoorReleased b v).acc = v.acc ∧ (custDoorReleased b v).out = v.out ∧
      (custDoorReleased b v).psched = v.psched ∧ (custDoorReleased b v).cust.slots = v.cust.slots := by
    unfold custDoorReleased
    split
    · split <;> exact ⟨rfl, rfl, rfl, rfl, rfl, rfl, rfl, rfl⟩
    · exact ⟨rfl, rfl, rfl, rfl, rfl, rfl, rfl, rfl⟩
  obtain ⟨k1, k2, k3, k4, k5, k6, k7, k8⟩ := hkeep
  have hrel := (custDoorReleased_releases b v).2
  have hfields : v.ldrv = s.ldrv ∧ v.palloc = s.palloc ∧ v.now = s.now ∧ v.acc = s.acc ∧ v.out = s.out ∧
      v.psched = s.psched ∧ v.cust = s.cust := by
    rw [hv]
    simp [cctlDoorOpen]
  obtain ⟨v1, v2, v3, v4, v5, v6, v7⟩ := hfields
  have hopen : releasedOpening b s = custDoorReleased b v := rfl
  rw [hopen]
  refine ⟨k1, k2.trans v1, k3.trans v2, ⟨?_, fun x => ?_, ?_, fun x r hr hst => ?_, ?_, ?_, ?_, ?_⟩⟩
  · rw [k2, v1, setEntry_ldrv]
    exact ⟨rfl, rfl, rfl, rfl, rfl⟩
  · rw [k1]
    change (s.setEntry b _).bmon[x].door = _ ∧ (s.setEntry b _).bmon[x].latch = _
    rw [setEntry_entry, setEntry_entry]
    split <;> exact ⟨rfl, rfl⟩
  · rw [k4, v3, setEntry_now]
  · rw [setEntry_cust] at hr
    exact hrel x r (by rw [v7]; exact hr) (by rw [hst]; nofun)
  · rw [k5, v4, setEntry_acc]
  · rw [k6, v5, setEntry_out]
  · rw [k7, v6, setEntry_psched]
  · rw [k8, v7, setEntry_cust]

/-- What the recipients of a RELEASED opening leave of it. -/
theorem doorOpens_released {b : Bay} {s : State} (h : s.openClass b = .released) :
    doorOpens b s = eitherOrder pass (ldrvDoorOpen b) (releasedOpening b s) := by
  unfold doorOpens
  rw [h]
  rfl

theorem openClass_released {b : Bay} {s : State} (h : s.ldrv.driving b = true ∨
    ∃ r : Release, s.cust.releases[b] = some r ∧ (r.stage = .window ∨ r.stage = .opened)) :
    s.openClass b = .released := by
  have hor : (s.ldrv.driving b || s.cust.windowRuns b) = true := by
    obtain h | ⟨r, hr, hst⟩ := h
    · rw [h]
      rfl
    · have hw : s.cust.windowRuns b = true := by
        unfold Cust.windowRuns
        rw [hr]
        obtain hst | hst := hst <;> simp [hst]
      rw [hw, Bool.or_true]
  exact if_pos hor

/-- A pass and a door OPEN at LDRV leave the grants settled, whatever their order. -/
theorem eitherOrder_door_settled (b : Bay) (v : State) : (eitherOrder pass (ldrvDoorOpen b) v).settled := by
  obtain h | h := eitherOrder_cases pass (ldrvDoorOpen b) v
  · rw [h]
    exact settled_steady.ldrvDoorOpen b (pass_settled _)
  · rw [h]
    exact pass_settled _

theorem eitherOrder_door_frame (b : Bay) (v : State) :
    v.changedOnly (.choices :: driveParts) (eitherOrder pass (ldrvDoorOpen b) v) :=
  eitherOrder_frame (fun t => (pass_frame t).mono (by decide)) (fun t => (ldrvDoorOpen_frame b t).mono (by decide)) v

/-- A drive of the bay in HOLD ends with the opening; another drive runs on. -/
theorem eitherOrder_door_drive {s v : State} {b : Bay} (h : s.SameOffer v) (hl : v.ldrv = s.ldrv) {k : Slot} {d : Drive}
    (hd : s.ldrv.slots[k] = some d) (hb : d.bay = b) (h1 : s.ldrv.slotDrives (1 - k) b = false) :
    (d.mode = .hold → s.psched.queue.Nodup →
      (∀ x : Bay, x ∈ s.psched.queue ↔ s.psched.records[x].state = .waiting) → s.slotFreed k (eitherOrder pass (ldrvDoorOpen b) v)) ∧
    (d.mode ≠ .hold → (eitherOrder pass (ldrvDoorOpen b) v).ldrv = v.ldrv ∧
      (eitherOrder pass (ldrvDoorOpen b) v).palloc.reserve = v.palloc.reserve) := by
  set w := v.withChoices (v.choices + 1) with hw
  have hww : s.SameOffer w := ⟨h.ldrv, h.inputs, h.now, h.releases, h.transaction, h.sent, h.psched, h.slots⟩
  have hwl : w.ldrv = s.ldrv := hl
  obtain ⟨p1, p2, p3, p4, p5⟩ := pass_rest w
  refine ⟨fun hm hn hq => ?_, fun hm => ?_⟩
  · obtain he | he := eitherOrder_cases pass (ldrvDoorOpen b) v
    · rw [he, ldrvDoorOpen_hold (s := pass w) (k := k) (d := d) (by rw [p1, hwl]; exact hd) hb (by rw [p1, hwl]; exact h1) hm]
      exact freed_event (sameOffer_pass hww) hn hq k rfl
    · rw [he, ldrvDoorOpen_hold (s := w) (k := k) (d := d) (by rw [hwl]; exact hd) hb (by rw [hwl]; exact h1) hm]
      have hfreed := freed_event (x := w) hww hn hq k (f := fun s => offerAndSettle (clearSlot k s)) (y := w) rfl
      obtain ⟨q1, q2, q3, q4, q5⟩ := pass_rest (ldrvEvent (fun s => offerAndSettle (clearSlot k s)) w)
      exact slotFreed_right hfreed q1 q5 q2 q3 q4
  · have hno : ∀ x : State, x.ldrv = s.ldrv → ldrvDoorOpen b x = x := fun x hx =>
      ldrvDoorOpen_other (.inr ⟨k, d, by rw [hx]; exact hd, hb, by rw [hx]; exact h1, hm⟩)
    obtain he | he := eitherOrder_cases pass (ldrvDoorOpen b) v
    · rw [he, hno (pass w) (by rw [p1, hwl])]
      exact ⟨p1, p5⟩
    · rw [he, hno w hwl]
      exact ⟨p1, p5⟩

theorem eitherOrder_door_idle {v : State} {b : Bay} (h : v.ldrv.driving b = false) :
    (eitherOrder pass (ldrvDoorOpen b) v).ldrv = v.ldrv ∧
    (eitherOrder pass (ldrvDoorOpen b) v).palloc.reserve = v.palloc.reserve := by
  obtain ⟨p1, -, -, -, p5⟩ := pass_rest (v.withChoices (v.choices + 1))
  have hno : ∀ x : State, x.ldrv = v.ldrv → ldrvDoorOpen b x = x := fun x hx =>
    ldrvDoorOpen_other (.inl (by rw [hx]; exact h))
  obtain he | he := eitherOrder_cases pass (ldrvDoorOpen b) v
  · rw [he, hno (pass (v.withChoices (v.choices + 1))) p1]
    exact ⟨p1, p5⟩
  · rw [he, hno (v.withChoices (v.choices + 1)) rfl]
    exact ⟨p1, p5⟩

theorem eitherOrder_door_release {v : State} {b : Bay} {r : Release} (hst : r.stage ≠ .latchWait)
    (h : v.cust.releases[b] = some r) : (eitherOrder pass (ldrvDoorOpen b) v).cust.releases[b] = some r := by
  have hp : ∀ x : State, x.cust.releases[b] = some r → (pass x).cust.releases[b] = some r := fun x hx => by
    rw [(pass_rest x).2.1]
    exact hx
  have hw : (v.withChoices (v.choices + 1)).cust.releases[b] = some r := h
  obtain he | he := eitherOrder_cases pass (ldrvDoorOpen b) v
  · rw [he]
    exact ldrvDoorOpen_release hst (hp _ hw) b
  · rw [he]
    exact hp _ (ldrvDoorOpen_release hst hw b)

/-! ## A closing (R12, R122) -/

/-- What a pass and the recipients of a door CLOSED come to: the grants settled, and the release in OPENED ended. -/
theorem eitherOrder_closed (b : Bay) (v : State) :
    (eitherOrder pass (fun t => custDoorClosed b (consider t)) v).settled ∧
    v.changedOnly (.choices :: releaseParts) (eitherOrder pass (fun t => custDoorClosed b (consider t)) v) ∧
    (∀ r : Release, v.cust.releases[b] = some r → r.stage = .opened → v.bmon[b].presenceDebounce = none →
      v.Reverts b r (eitherOrder pass (fun t => custDoorClosed b (consider t)) v)) ∧
    ((∀ r : Release, v.cust.releases[b] = some r → r.stage ≠ .opened) →
      v.changedOnly (.choices :: considerParts) (eitherOrder pass (fun t => custDoorClosed b (consider t)) v)) := by
  set w := v.withChoices (v.choices + 1) with hw
  have hwf : v.changedOnly [.choices] w := withChoices_frame _ v
  have hrev : ∀ (x : State) (r : Release), x.cust = v.cust → x.acc = v.acc → x.bmon[b].body = v.bmon[b].body →
      v.cust.releases[b] = some r → r.stage = .opened → v.bmon[b].presenceDebounce = none →
      v.Reverts b r (custDoorClosed b (consider x)) := fun x r hc ha hb hr hst hp => by
    have hcust : (consider x).cust = v.cust := by rw [consider_cust, hc]
    have hpres : (consider x).bmon[b].presenceDebounce = none :=
      ((congrArg BayEntry.presenceDebounce ((consider_body x b).trans hb) :)).trans hp
    have heq : custDoorClosed b (consider x) = endUnopened b (consider x) := by
      unfold custDoorClosed
      rw [hcust, hr]
      exact if_pos ⟨hst, hpres⟩
    rw [heq]
    exact (endUnopened_reverts (by rw [hcust]; exact hr)).left hcust (by rw [consider_acc, ha])
  have hquiet : ∀ x : State, x.cust = v.cust → (∀ r : Release, v.cust.releases[b] = some r → r.stage ≠ .opened) →
      custDoorClosed b (consider x) = consider x := fun x hc h => by
    unfold custDoorClosed
    rw [consider_cust, hc]
    split
    · next r hr => exact if_neg fun hst => h r hr hst.1
    · rfl
  obtain ⟨p1, p2, p3, p4, p5⟩ := pass_rest w
  have hclose : ∀ x : State, x.changedOnly releaseParts (custDoorClosed b (consider x)) := fun x =>
    ((consider_frame x).mono (by decide)).then (custDoorClosed_frame b _)
  obtain he | he := eitherOrder_cases pass (fun t => custDoorClosed b (consider t)) v
  · rw [he]
    refine ⟨settled_steady.custDoorClosed b (consider_settled (pass_settled _)),
      ((hwf.mono (m := .choices :: releaseParts) (by decide)).then (pass_frame _)).then (hclose _),
      fun r => hrev (pass w) r p2 p3 (by rw [pass_bmon]; rfl), fun h => ?_⟩
    rw [hquiet (pass w) p2 h]
    exact ((hwf.mono (m := .choices :: considerParts) (by decide)).then (pass_frame _)).then (consider_frame _)
  · rw [he]
    refine ⟨pass_settled _, ((hwf.mono (m := .choices :: releaseParts) (by decide)).then (hclose _)).then (pass_frame _),
      fun r hr hst hp => (hrev w r rfl rfl rfl hr hst hp).right (pass_rest _).2.1, fun h => ?_⟩
    rw [hquiet w rfl h]
    exact ((hwf.mono (m := .choices :: considerParts) (by decide)).then (consider_frame _)).then (pass_frame _)

/-- Settles O31. -/
theorem doorsOfAReleaseOpenAndClose : Obligations.DoorsOfAReleaseOpenAndClose := by
  intro s b since hpow hdeb hdue
  refine ⟨fun hdoor hpin hcause => ?_, fun hdoor hpin => ?_⟩
  · have heq : doorHeld b s = eitherOrder pass (ldrvDoorOpen b) (releasedOpening b s) := by
      unfold doorHeld
      rw [hdeb, hdoor, hpin, if_pos ⟨due_some hdue, nofun⟩]
      exact doorOpens_released (openClass_released hcause)
    have hpg := doorHeld_power ((powerGood_iff s).mp hpow) b
    rw [heq] at hpg
    obtain ⟨hbmon, hldrv, hpalloc, hsame⟩ := releasedOpening_rest b s
    have hset := eitherOrder_door_settled b (releasedOpening b s)
    have hfr := eitherOrder_door_frame b (releasedOpening b s)
    have hbody : ∀ x : Bay, (eitherOrder pass (ldrvDoorOpen b) (releasedOpening b s)).bmon[x].body = (if x = b then
        { s.bmon[b] with door := .opened, doorDebounce := none, lastOpen := some .released } else s.bmon[x]).body :=
      fun x => by rw [body_of_frame hfr (by decide) x, hbmon, setEntry_entry]
    have hb := (hbody b).trans (congrArg BayEntry.body (if_pos rfl))
    obtain ⟨hwant, hgrant⟩ := settled_unwanted (b := b) hset (.inl (congrArg BayEntry.door hb :))
    have happ : (eitherOrder pass (ldrvDoorOpen b) (releasedOpening b s)).cctl[b].applied = 0 := by
      have h1 := (hpg b).1.1
      have h2 := (hpg b).1.2.1
      omega
    have hrel : ∀ r : Release, s.cust.releases[b] = some r → r.stage = .window →
        (releasedOpening b s).cust.releases[b] = some { r with stage := .opened, window := none } := fun r hr hst =>
      (custDoorReleased_releases b _).1 r (by simpa [cctlDoorOpen] using hr) hst
    have hopen : s.changedOnly (.choices :: .bays :: driveParts) (releasedOpening b s) := by
      refine ((doorOpened_frame b _ s ?_).mono (by decide)).then (custDoorReleased_frame b _)
      exact ⟨rfl, rfl, rfl, rfl⟩
    refine ⟨_, congrArg Host.Outcome.next heq, hb, fun x hx => (hbody x).trans (by rw [if_neg hx]), hwant, hgrant, happ,
      fun r hr hst => eitherOrder_door_release nofun (hrel r hr hst), fun k d hd hdb h1 => ?_, fun h => ?_,
      hopen.then hfr⟩
    · obtain ⟨hhold, hrun⟩ := eitherOrder_door_drive hsame (hldrv.trans (setEntry_ldrv ..).symm)
        (by rw [setEntry_ldrv]; exact hd) hdb (by rw [setEntry_ldrv]; exact h1)
      refine ⟨fun hm hq => hhold hm ?_ ?_, fun hm => ?_⟩
      · rw [setEntry_psched]
        exact hq.1
      · rw [setEntry_psched]
        exact hq.2.1
      · obtain ⟨h2, h3⟩ := hrun hm
        exact ⟨h2.trans hldrv, h3.trans (by rw [hpalloc])⟩
    · obtain ⟨h2, h3⟩ := eitherOrder_door_idle (v := releasedOpening b s) (by rw [hldrv]; exact h)
      exact ⟨h2.trans hldrv, h3.trans (by rw [hpalloc])⟩
  · set v := s.setEntry b { s.bmon[b] with door := .closed, doorDebounce := none } with hv
    have heq : doorHeld b s = eitherOrder pass (fun t => custDoorClosed b (consider t)) v := by
      unfold doorHeld
      rw [hdeb, hdoor, hpin, if_pos ⟨due_some hdue, nofun⟩]
      rfl
    have hvf : s.changedOnly [.bays, .counts] v := setEntry_body_frame b _ s ⟨rfl, rfl, rfl, rfl⟩
    obtain ⟨hset, hfr, hrev, hquiet⟩ := eitherOrder_closed b v
    have hbody : ∀ x : Bay, (eitherOrder pass (fun t => custDoorClosed b (consider t)) v).bmon[x].body = (if x = b then
        { s.bmon[b] with door := .closed, doorDebounce := none } else s.bmon[x]).body :=
      fun x => by rw [body_of_frame hfr (by decide) x, hv, setEntry_entry]
    have hcust : v.cust = s.cust := by rw [hv, setEntry_cust]
    have hacc : v.acc = s.acc := by rw [hv, setEntry_acc]
    have hpres : v.bmon[b].presenceDebounce = s.bmon[b].presenceDebounce := by rw [hv, setEntry_entry_self]
    refine ⟨_, congrArg Host.Outcome.next heq, (hbody b).trans (congrArg BayEntry.body (if_pos rfl)),
      fun x hx => (hbody x).trans (by rw [if_neg hx]), hset, fun r i x hr hst hrec hp hi hx => ?_, fun h => ?_,
      (hvf.mono (m := .choices :: .bays :: releaseParts) (by decide)).then hfr⟩
    · have h := (hrev r (by rw [hcust]; exact hr) hst (hpres.trans hp)).left hcust hacc
      refine ⟨h.cleared, (h.record hrec i x hi hx).1, fun j hj => ?_⟩
      rw [h.journal j hrec hj]
      exact Vector.getElem_set_self j.isLt
    · exact (hvf.mono (m := .choices :: .bays :: considerParts) (by decide)).then
        (hquiet fun r hr => h r (by rw [← hcust]; exact hr))

end Sys2Proof.Machine
end

section
/-! PROOF. SET_LATCH_MODE (R143): the modes PULSE and HOLD, and the stop by OFF. -/

namespace Sys2Proof.Machine

-- One declaration after the other: the check compiles the whole text within a memory bound.
set_option Elab.async false

/-! ## A dropped request (R114, R123) -/

theorem custDropped_rest (b : Bay) (s : State) : (custDropped b s).acc = s.acc ∧ (custDropped b s).out = s.out ∧
    (custDropped b s).ldrv = s.ldrv := by
  have hf := custDropped_frame b s
  exact ⟨acc_of_frame hf, out_of_frame hf, ldrv_of_frame hf⟩

/-- A drop reports its verdict to a student who is deciding on its bay. -/
theorem reportDrop_answers (b : Bay) (v : Verdict) (f : Byte) (s : State) :
    s.answersDeciding b ⟨v.code, f, 0⟩ (reportDrop b v f s) ∧ (reportDrop b v f s).ldrv = s.ldrv := by
  obtain ⟨h1, h2, h3⟩ := custDropped_rest b (answerDeciding b v f .none s)
  refine ⟨answersDeciding_right (answerDeciding_answers b v f .none s) ?_ ?_, ?_⟩
  · exact congrArg Acc.transaction h1
  · exact congrArg (·.txd) h2
  · exact h3.trans (ldrv_of_frame (answerDeciding_frame b v f .none s))

theorem answerDeciding_releases (b : Bay) (v : Verdict) (f : Byte) (r : Reason) (s : State) :
    (answerDeciding b v f r s).cust.releases = s.cust.releases := by
  rw [cust_of_frame (answerDeciding_frame b v f r s)]

/-- A drop ends the release of its bay that waits for the drive, and leaves every other. -/
theorem reportDrop_releases (b : Bay) (v : Verdict) (f : Byte) (s : State) :
    (∀ r : Release, s.cust.releases[b] = some r → r.stage = .latchWait →
      (reportDrop b v f s).cust.releases[b] = none) ∧
    (s.cust.releases[b] = none → (reportDrop b v f s).cust.releases[b] = none) ∧
    (∀ x : Bay, x ≠ b → (reportDrop b v f s).cust.releases[x] = s.cust.releases[x]) := by
  have hr := answerDeciding_releases b v f .none s
  unfold reportDrop
  generalize answerDeciding b v f .none s = u at *
  have hb : u.cust.releases[b] = s.cust.releases[b] := congrArg (fun v : Vector (Option Release) 36 => v[b]) hr
  cases hu : u.cust.releases[b] with
  | none =>
    have heq : custDropped b u = u := by
      unfold custDropped
      rw [hu]
    rw [heq]
    exact ⟨fun r h => absurd (hb.symm.trans hu) (by rw [h]; nofun), fun _ => hu,
      fun x _ => congrArg (fun v : Vector (Option Release) 36 => v[x]) hr⟩
  | some r =>
    have heq : custDropped b u = if r.stage = .latchWait then endUnopened b u else u := by
      unfold custDropped
      rw [hu]
    rw [heq]
    have hsome : s.cust.releases[b] = some r := hb.symm.trans hu
    refine ⟨fun y hy hst => ?_, fun h => absurd (hsome.symm.trans h) nofun, fun x hx => ?_⟩
    · obtain rfl := Option.some.inj (hsome.symm.trans hy)
      rw [if_pos hst]
      exact (endUnopened_reverts hu).cleared
    · have hkept : u.cust.releases[x] = s.cust.releases[x] :=
        congrArg (fun v : Vector (Option Release) 36 => v[x]) hr
      by_cases hst : r.stage = .latchWait
      · rw [if_pos hst]
        exact (congrArg (fun v : Vector (Option Release) 36 => v[x]) (endUnopened_reverts hu).releases).trans
          ((Vector.getElem_set_ne b.isLt x.isLt fun he => hx (Fin.ext he.symm)).trans hkept)
      · rw [if_neg hst]
        exact hkept

/-- The requests of a list dropped in turn (R143). -/
def dropAll (qs : List LatchRequest) (s : State) : State :=
  qs.foldl (fun t r => reportDrop r.bay .denyLatch 0 t) s

theorem dropAll_ldrv (qs : List LatchRequest) (s : State) : (dropAll qs s).ldrv = s.ldrv := by
  induction qs generalizing s with
  | nil => rfl
  | cons q qs ih => exact (ih _).trans (reportDrop_answers q.bay .denyLatch 0 s).2

/-- With no student deciding, nothing is sent. -/
theorem dropAll_idle {qs : List LatchRequest} {s : State} (h : s.acc.transaction = none) :
    (dropAll qs s).acc.transaction = none ∧ (dropAll qs s).out.txd = s.out.txd := by
  induction qs generalizing s with
  | nil => exact ⟨h, rfl⟩
  | cons q qs ih =>
    obtain ⟨ha, hs⟩ := (reportDrop_answers q.bay .denyLatch 0 s).1.2 fun x hx => absurd (h.symm.trans hx) nofun
    obtain ⟨h1, h2⟩ := ih (ha.trans h)
    exact ⟨h1, h2.trans hs⟩

/-- A student deciding on the bay of a dropped request is answered DENY_LATCH, once. -/
theorem dropAll_answers {qs : List LatchRequest} {s : State} {x : Transaction} (hx : s.acc.transaction = some x)
    (hq : qs.any (fun r => r.bay == x.bay) = true) :
    (dropAll qs s).acc.transaction = none ∧ (dropAll qs s).out.txd = s.out.txd ++ [⟨0x17, 0, 0⟩] := by
  induction qs generalizing s with
  | nil => exact absurd hq Bool.false_ne_true
  | cons q qs ih =>
    obtain ⟨hyes, hno⟩ := (reportDrop_answers q.bay .denyLatch 0 s).1
    by_cases hb : x.bay = q.bay
    · obtain ⟨ha, hs⟩ := hyes x hx hb
      obtain ⟨h1, h2⟩ := dropAll_idle (qs := qs) ha
      exact ⟨h1, h2.trans hs⟩
    · obtain ⟨ha, hs⟩ := hno fun y hy => by
        obtain rfl := Option.some.inj (hx.symm.trans hy)
        exact hb
      have hrest : qs.any (fun r => r.bay == x.bay) = true := by
        rw [List.any_cons, beq_false_of_ne (Ne.symm hb), Bool.false_or] at hq
        exact hq
      obtain ⟨h1, h2⟩ := ih (ha.trans hx) hrest
      exact ⟨h1, h2.trans (congrArg (· ++ _) hs)⟩

/-- The release of a dropped request that waits for its drive is ended. -/
theorem dropAll_release {qs : List LatchRequest} {s : State} {b : Bay}
    (h : s.cust.releases[b] = none ∨
      (∃ r : Release, s.cust.releases[b] = some r ∧ r.stage = .latchWait) ∧ ∃ q ∈ qs, q.bay = b) :
    (dropAll qs s).cust.releases[b] = none := by
  induction qs generalizing s with
  | nil => exact h.elim id fun ⟨_, _, hq, _⟩ => absurd hq List.not_mem_nil
  | cons q qs ih =>
    obtain ⟨hend, hnone, hother⟩ := reportDrop_releases q.bay .denyLatch 0 s
    refine ih ?_
    by_cases hb : b = q.bay
    · subst hb
      exact .inl (h.elim hnone fun ⟨⟨r, hr, hst⟩, _⟩ => hend r hr hst)
    · rw [hother b hb]
      refine h.imp id fun ⟨hr, y, hy, hyb⟩ => ⟨hr, y, ?_, hyb⟩
      exact (List.mem_cons.mp hy).resolve_left fun he => hb (by rw [← hyb, he])

/-! ## The drives ended (R143) -/

theorem modeEnd_ldrv (k : Slot) (s : State) :
    (modeEnd k s).ldrv = { s.ldrv with slots := s.ldrv.slots.set k none } := by
  unfold modeEnd
  split
  · exact clearSlot_ldrv k s
  · next h =>
    have hn : s.ldrv.slots[k] = none := Option.not_isSome_iff_eq_none.mp h
    have hset : s.ldrv.slots.set k none = s.ldrv.slots := by
      rw [← hn]
      exact Vector.set_getElem_self k.isLt
    rw [hset]

theorem modeEnd_rest (k : Slot) (s : State) : (modeEnd k s).acc = s.acc ∧ (modeEnd k s).cust = s.cust ∧
    (modeEnd k s).out = s.out := by
  unfold modeEnd
  split
  · obtain ⟨h1, h2, h3, -⟩ := clearSlot_rest k s
    exact ⟨h1, h2, h3⟩
  · exact ⟨rfl, rfl, rfl⟩

theorem drivesEnded (s : State) :
    ((eitherOrder (modeEnd 0) (modeEnd 1) s).ldrv.queue = s.ldrv.queue ∧
      (∀ k : Slot, (eitherOrder (modeEnd 0) (modeEnd 1) s).ldrv.slots[k] = none) ∧
      (eitherOrder (modeEnd 0) (modeEnd 1) s).ldrv.reserveHeld = s.ldrv.reserveHeld ∧
      (eitherOrder (modeEnd 0) (modeEnd 1) s).ldrv.mode = s.ldrv.mode ∧
      (eitherOrder (modeEnd 0) (modeEnd 1) s).ldrv.pulse = s.ldrv.pulse) ∧
    (eitherOrder (modeEnd 0) (modeEnd 1) s).acc = s.acc ∧ (eitherOrder (modeEnd 0) (modeEnd 1) s).cust = s.cust ∧
    (eitherOrder (modeEnd 0) (modeEnd 1) s).out = s.out := by
  have hboth : ∀ (i j : Slot) (w : State), i ≠ j → w.ldrv = s.ldrv → w.acc = s.acc → w.cust = s.cust →
      w.out = s.out →
      ((modeEnd i (modeEnd j w)).ldrv.queue = s.ldrv.queue ∧ (∀ k : Slot, (modeEnd i (modeEnd j w)).ldrv.slots[k] = none) ∧
        (modeEnd i (modeEnd j w)).ldrv.reserveHeld = s.ldrv.reserveHeld ∧
        (modeEnd i (modeEnd j w)).ldrv.mode = s.ldrv.mode ∧ (modeEnd i (modeEnd j w)).ldrv.pulse = s.ldrv.pulse) ∧
      (modeEnd i (modeEnd j w)).acc = s.acc ∧ (modeEnd i (modeEnd j w)).cust = s.cust ∧
      (modeEnd i (modeEnd j w)).out = s.out := fun i j w hij hl ha hc ho => by
    obtain ⟨a1, c1, o1⟩ := modeEnd_rest i (modeEnd j w)
    obtain ⟨a2, c2, o2⟩ := modeEnd_rest j w
    rw [modeEnd_ldrv, modeEnd_ldrv, hl]
    refine ⟨⟨rfl, fun k => ?_, rfl, rfl, rfl⟩, (a1.trans a2).trans ha, (c1.trans c2).trans hc, (o1.trans o2).trans ho⟩
    by_cases hk : k = i
    · subst hk
      exact slots_set_self _ _ _
    · refine (slots_set_other hk _ _).trans ?_
      have hkj : k = j := (other_slot hk).trans (other_slot (Ne.symm hij)).symm
      subst hkj
      exact slots_set_self _ _ _
  obtain he | he := eitherOrder_cases (modeEnd 0) (modeEnd 1) s
  · rw [he]
    exact hboth 1 0 (s.withChoices (s.choices + 1)) (by decide) rfl rfl rfl rfl
  · rw [he]
    exact hboth 0 1 (s.withChoices (s.choices + 1)) (by decide) rfl rfl rfl rfl

/-- What a change to OFF leaves (R143). -/
theorem latchOff_stops (s : State) : (latchOff s).ldrv.mode = .off ∧ (latchOff s).ldrv.pulse = s.ldrv.pulse ∧
    (latchOff s).ldrv.queue = [] ∧ (∀ k : Slot, (latchOff s).ldrv.slots[k] = none) ∧
    (s.ldrv.reserveHeld = true → (latchOff s).ldrv.reserveHeld = false ∧ (latchOff s).palloc.reserve = 28) ∧
    (∀ x : Transaction, s.acc.transaction = some x → s.ldrv.queued x.bay = true →
      (latchOff s).acc.transaction = none ∧ (latchOff s).out.txd = s.out.txd ++ [⟨0x17, 0, 0⟩]) ∧
    (∀ (q : LatchRequest) (r : Release), q ∈ s.ldrv.queue → s.cust.releases[q.bay] = some r →
      r.stage = .latchWait → (latchOff s).cust.releases[q.bay] = none) := by
  set v := dropAll s.ldrv.queue (s.withLdrv { s.ldrv with mode := .off, queue := [] }) with hv
  set w := eitherOrder (modeEnd 0) (modeEnd 1) v with hw
  have heq : latchOff s = ldrvEvent (fun s => settleReserve (eitherOrder (modeEnd 0) (modeEnd 1)
      (dropAll s.ldrv.queue (s.withLdrv { s.ldrv with mode := .off, queue := [] })))) s := rfl
  have el : (latchOff s).ldrv = (settleReserve w).ldrv := by rw [heq, ldrvEvent_ldrv]
  have ep : (latchOff s).palloc = (settleReserve w).palloc := by rw [heq, ldrvEvent_palloc]
  have ea : (latchOff s).acc = (settleReserve w).acc := by rw [heq, ldrvEvent_acc]
  have eo : (latchOff s).out = (settleReserve w).out := by rw [heq, ldrvEvent_out]
  have ec : (latchOff s).cust = (settleReserve w).cust := by rw [heq, ldrvEvent_cust]
  obtain ⟨⟨w1, w2, w3, w4, w5⟩, w6, w7, w8⟩ := drivesEnded v
  rw [← hw] at w1 w2 w3 w4 w5 w6 w7 w8
  have hvl : v.ldrv = { s.ldrv with mode := .off, queue := [] } := dropAll_ldrv _ _
  have hls := settleReserve_ldrv w
  obtain ⟨g1, g2, g3, -, -, g6, -⟩ := settleReserve_rest w
  rw [el, hls, ep, ea, eo, ec, g1, g2, g3, w6, w7, w8]
  have hone : w.ldrv.slots[(1 : Slot)] = none := w2 1
  refine ⟨by rw [w4, hvl], by rw [w5, hvl], by rw [w1, hvl], w2, fun hr => ⟨?_, g6 ?_ hone⟩, fun x hx hq => ?_,
    fun q r hq hr hst => ?_⟩
  · rw [hone]
    exact Bool.and_false _
  · rw [w3, hvl]
    exact hr
  · exact dropAll_answers (s := s.withLdrv { s.ldrv with mode := .off, queue := [] }) hx hq
  · exact dropAll_release (s := s.withLdrv { s.ldrv with mode := .off, queue := [] })
      (.inr ⟨⟨r, hr, hst⟩, q, hq, rfl⟩)

/-! ## SET_LATCH_MODE -/

theorem answered_ldrv (i : ListId) (off n : Nat) (l : Half) (a : Answer) (s : State) :
    (answered i off n l a s).ldrv = s.ldrv := rfl

theorem latchMode_ofCode (n : Byte) : (2 < n.toNat → LatchMode.ofCode n = none) ∧
    (n = 0 → LatchMode.ofCode n = some .pulse) ∧ (n = 1 → LatchMode.ofCode n = some .hold) ∧
    (n = 2 → LatchMode.ofCode n = some .off) := by
  refine ⟨fun h => ?_, ?_, ?_, ?_⟩
  · unfold LatchMode.ofCode
    split
    · omega
    · omega
    · omega
    · rfl
  all_goals
    rintro rfl
    rfl

/-- Settles O57. -/
theorem setLatchModeSetsOrStops : Obligations.SetLatchModeSetsOrStops := by
  intro s i off n hm hr
  obtain ⟨hbad, hpulse, hhold, hoff⟩ := latchMode_ofCode (s.field1 off 0x0C)
  refine ⟨fun h => order_refused (kind := .setLatchMode) (a := .badField 1) hm hr ?_, fun p hp h => ?_, fun h => ?_,
    fun h => ?_⟩
  · simp only [OrderKind.owner, orderSetLatchMode, hbad h]
  · have hpn : pulseOf (s.fieldN off 0x0E 2) = p := hp.symm
    have hord : OrderKind.setLatchMode.owner off s = (ldrvEvent (fun s => s.withLdrv { s.ldrv with
        mode := .pulse, pulse := p }) s, ⟨if p = s.fieldN off 0x0E 2 then .done else .doneClamped, 0⟩) := by
      simp only [OrderKind.owner, orderSetLatchMode, hpulse h, hpn, Answer.clamped, bne_iff_ne]
      by_cases he : p = s.fieldN off 0x0E 2
      · rw [if_pos he, if_neg fun hc => hc he]
      · rw [if_neg he, if_pos he]
    obtain ⟨hexec, hans, -, -⟩ := order_answered hm hr (kind := .setLatchMode) hord
    refine ⟨_, hexec, ?_, hans, ?_⟩
    · rw [answered_ldrv, ldrvEvent_ldrv, withLdrv_ldrv]
    · exact (answered_changes (latchMode_frame (fun s => { s.ldrv with mode := .pulse, pulse := p }) s
        ⟨rfl, rfl, rfl, rfl⟩) i off n _ _).mono (by decide)
  · have hord : OrderKind.setLatchMode.owner off s =
        (ldrvEvent (fun s => s.withLdrv { s.ldrv with mode := .hold }) s, .done) := by
      simp only [OrderKind.owner, orderSetLatchMode, hhold h]
    obtain ⟨hexec, hans, -, -⟩ := order_answered hm hr (kind := .setLatchMode) hord
    refine ⟨_, hexec, ?_, hans, ?_⟩
    · rw [answered_ldrv, ldrvEvent_ldrv, withLdrv_ldrv]
    · exact (answered_changes (latchMode_frame (fun s => { s.ldrv with mode := .hold }) s
        ⟨rfl, rfl, rfl, rfl⟩) i off n _ _).mono (by decide)
  · have hord : OrderKind.setLatchMode.owner off s = (latchOff s, ⟨.done, s.ldrv.queue.length⟩) := by
      simp only [OrderKind.owner, orderSetLatchMode, hoff h]
    obtain ⟨hexec, hans, -, hfr⟩ := order_answered hm hr (kind := .setLatchMode) hord
    obtain ⟨h1, h2, h3, h4, h5, h6, h7⟩ := latchOff_stops s
    generalize latchOff s = u at *
    refine ⟨_, hexec, ?_⟩
    rw [answered_ldrv, answered_palloc, answered_cust, answered_acc]
    exact ⟨h1, h2, h3, h4, h5, h6, h7, hans, hfr.mono (by decide)⟩

end Sys2Proof.Machine
end

section
/-! PROOF. Releases that are opened (R113, R118, R129), what an event at LDRV keeps of them, and RELEASE_BAY (R129). -/

namespace Sys2Proof.Machine

-- One declaration after the other: the check compiles the whole text within a memory bound.
set_option Elab.async false

/-! ## A bay with no record IN_CART is never joined (R74) -/

theorem records_of_frame {s t : State} {l : List Part} (h : s.changedOnly l t) (hl : Part.prov ∉ l := by decide) :
    t.psched.records = s.psched.records :=
  (h .prov hl).1

theorem scanCore_notInCart (n : Nat) {b : Bay} {s : State} (h : s.cust.inCartAt b = false) :
    (scanCore n s).psched.records[b] = s.psched.records[b] := by
  induction n generalizing s with
  | zero => rfl
  | succ n ih =>
    obtain ⟨c, x, -, hx, he⟩ | ⟨-, he⟩ := scanCore_cases n s
    · have hne : b ≠ x := fun hb => not_mayJoin h ((eligible_iff s b).mp (hb ▸ List.find?_some hx))
      have hcust : (grantCore c x s).cust = s.cust := cust_of_frame (grantCore_frame c x s)
      rw [he, ih (by rw [hcust]; exact h), grantCore_record hne]
    · rw [he]

/-- A consideration leaves the record of a bay that has no record IN_CART. -/
theorem consider_notInCart {b : Bay} {s : State} (h : s.cust.inCartAt b = false) :
    (consider s).psched.records[b] = s.psched.records[b] := by
  unfold consider
  rw [pschedEvent_psched_records]
  unfold considerCore
  split
  · rfl
  · exact scanCore_notInCart 4 h

/-! ## What every event at LDRV keeps -/

/-- A law kept by every part of a request at LDRV: a consideration, a pass for the reserve, the start of a drive at
CUST and the answer to a student who is deciding. -/
structure Driving (P : State → Prop) : Prop where
  frame : ∀ {s t : State}, s.changedOnly [.counts, .latches, .latchMode, .stuck] t → P s → P t
  consider : ∀ {s : State}, P s → P (consider s)
  reserve : ∀ (r : Nat) {s : State}, P s → P (reservePass r s)
  start : ∀ (b : Bay) {s : State}, P s → P (custDriveStart b s)
  answer : ∀ (b : Bay) (v : Verdict) (f : Byte) (r : Reason) {s : State}, P s → P (answerDeciding b v f r s)

namespace Driving
variable {P : State → Prop} (hP : Driving P)
include hP

theorem withLdrv (l : Ldrv) {s : State} (h : P s) : P (s.withLdrv l) :=
  hP.frame ((withLdrv_frame l s).mono (by decide)) h

theorem askReserve (k : Slot) {s : State} (h : P s) : P (askReserve k s) := by
  unfold Machine.askReserve Machine.requestReserve
  split
  · refine hP.withLdrv _ ?_
    split
    · exact h
    · exact hP.reserve _ h
  · exact h

theorem startDrive (k : Slot) (b : Bay) {s : State} (h : P s) : P (startDrive k b s) :=
  hP.consider (hP.start b (hP.answer b _ _ _ (hP.withLdrv _ h)))

theorem offer (n : Nat) {s : State} (h : P s) : P (offer n s) := by
  induction n generalizing s with
  | zero => exact h
  | succ n ih =>
    unfold Machine.offer
    split
    · next k b _ _ =>
      have ht := hP.withLdrv (s.ldrv.dequeue b) h
      have hu := hP.startDrive k b (hP.askReserve k ht)
      dsimp only
      split
      · exact ih ht
      · split
        · exact ih (hP.consider (hP.withLdrv _ hu))
        · exact ih hu
    · exact h

theorem settleReserve {s : State} (h : P s) : P (settleReserve s) := by
  unfold Machine.settleReserve Machine.returnReserve
  split
  · have hl := hP.withLdrv { s.ldrv with reserveHeld := false } h
    split
    · exact hl
    · exact hP.reserve _ hl
  · exact h

theorem requestDrive (b : Bay) {s : State} (h : P s) : P (requestDrive b s) := by
  have hc : ∀ {t u : State}, t.changedOnly [.counts] u → P t → P u := fun hf ht =>
    hP.frame (hf.mono (by decide)) ht
  have ha : P (appendRequest b s) := hP.frame ((appendRequest_frame b s).mono (by decide)) h
  exact hc (bumpCart_frame _ _) (hc (bumpBays_frame _ _) (hP.settleReserve (hP.offer _ ha)))

end Driving

/-- The provisioning record of a bay with no record IN_CART, and the custody records, through an event at LDRV. -/
theorem driving_record (b : Bay) (r : ProvRecord) : Driving fun t => t.cust.inCartAt b = false ∧
    t.psched.records[b] = r where
  frame h hs := by
    rw [records_of_frame h, cust_of_frame h]
    exact hs
  consider h := by
    rw [consider_notInCart h.1, consider_cust]
    exact h
  reserve n _ h := by
    rw [records_of_frame (reservePass_frame n _), cust_of_frame (reservePass_frame n _)]
    exact h
  start x s h := by
    have hf := custDriveStart_frame x s
    rw [records_of_frame hf, inCartAt_congr (hf .custody (by decide))]
    exact h
  answer x v f n s h := by
    have hf := answerDeciding_frame x v f n s
    rw [records_of_frame hf, cust_of_frame hf]
    exact h

/-- A release keeps everything but its stage and its window through an event at LDRV. -/
theorem driving_release (b : Bay) (r : Release) : Driving fun t =>
    ∃ x : Release, t.cust.releases[b] = some x ∧ x.kind = r.kind ∧ x.holder = r.holder ∧ x.recorded = r.recorded ∧
      x.held = r.held where
  frame h hs := by
    rw [cust_of_frame h]
    exact hs
  consider h := by
    rw [consider_cust]
    exact h
  reserve n _ h := by
    rw [cust_of_frame (reservePass_frame n _)]
    exact h
  start c s h := by
    obtain ⟨x, hx, hr⟩ := h
    by_cases hc : b = c
    · subst hc
      refine ⟨_, custDriveStart_release hx, ?_⟩
      split
      · exact hr
      · exact hr
    · exact ⟨x, (custDriveStart_other hc s).trans hx, hr⟩
  answer c v f n s h := by
    rw [cust_of_frame (answerDeciding_frame c v f n s)]
    exact h

/-- With no student deciding, an event at LDRV sends nothing. -/
theorem driving_silent (sent : List VerdictFrame) : Driving fun t => t.acc.transaction = none ∧ t.out.txd = sent where
  frame h hs := by
    rw [acc_of_frame h, out_of_frame h]
    exact hs
  consider h := by
    rw [consider_acc, consider_out]
    exact h
  reserve n _ h := by
    rw [acc_of_frame (reservePass_frame n _), out_of_frame (reservePass_frame n _)]
    exact h
  start x s h := by
    have hf := custDriveStart_frame x s
    rw [acc_of_frame hf, out_of_frame hf]
    exact h
  answer x v f n s h := by
    obtain ⟨ha, ho⟩ := (answerDeciding_answers x v f n s).2 fun y hy => absurd (h.1.symm.trans hy) nofun
    exact ⟨ha.trans h.1, ho.trans h.2⟩

/-! ## A release opened (R113, R118, R129) -/

/-- `t` holds what the opening of a release for bay `b` leaves of `s`. -/
structure State.Opens (s : State) (b : Bay) (k : ReleaseKind) (holder : Option Token) (t : State) : Prop where
  release : t.cust.releases[b] = some
    { stage := .latchWait, kind := k, holder := holder, recorded := (s.cust.slotAt b).isSome
      held := if (s.cust.slotAt b).isSome then s.cust.freeEntry else none, window := none }
  record : s.changesRecordAt b (fun x => x.toPending holder s.minute) t
  journal : ∀ j : Fin 48, (s.cust.slotAt b).isSome = true → s.cust.freeEntry = some j →
    t.cust.journal = s.cust.journal.set j (JournalEntry.heldFor b)
  sequence : t.cust.nextSequence = s.cust.nextSequence
  plain : s.cust.slotAt b = none → t.cust.journal = s.cust.journal ∧ t.cust.slots = s.cust.slots
  away : t.cust.inCartAt b = false
  provision : t.psched.records[b] = s.psched.records[b]
  rest : t.ldrv = s.ldrv ∧ t.out = s.out ∧ t.now = s.now ∧ t.bmon[b].door = s.bmon[b].door ∧
    t.bmon[b].latch = s.bmon[b].latch

theorem inCartAt_none {c : Cust} {b : Bay} (h : c.slotAt b = none) : c.inCartAt b = false := by
  unfold Cust.inCartAt Cust.recordAt
  rw [h]
  rfl

/-- A record that is changed and stays located at its bay is found there again. -/
theorem slotAt_changed {s t : State} {b : Bay} {i : Fin 48} {y : CustodyRecord} (hi : s.cust.slotAt b = some i)
    (hy : t.cust.slots[i].record = some y) (hloc : y.locatedAt b = true)
    (ho : ∀ k : Fin 48, k ≠ i → t.cust.slots[k] = s.cust.slots[k]) : t.cust.slotAt b = some i := by
  obtain ⟨x, hx, hb⟩ := slotAt_record s.cust b i hi
  rw [← hi]
  unfold Cust.slotAt
  refine congrArg (fun p : Fin 48 → Bool => (List.finRange 48).find? p) (funext fun k => ?_)
  by_cases hk : k = i
  · subst hk
    rw [hy, hx]
    exact hloc.trans hb.symm
  · rw [ho k hk]

/-- A record made PENDING_RELEASE is no longer IN_CART at its bay. -/
theorem inCartAt_pending {s : State} {b : Bay} {i : Fin 48} {x : CustodyRecord} (hi : s.cust.slotAt b = some i)
    (hx : s.cust.slots[i].record = some x) (holder : Option Token) (m : Option Nat) :
    (s.setSlot i (some (x.toPending holder m))).cust.inCartAt b = false := by
  have hloc : x.locatedAt b = true := by
    obtain ⟨y, hy, hb⟩ := slotAt_record s.cust b i hi
    obtain rfl := Option.some.inj (hx.symm.trans hy)
    exact hb
  have hplace : (x.toPending holder m).locatedAt b = true :=
    (locatedAt_iff _ _).mpr ⟨.inr rfl, ((locatedAt_iff _ _).mp hloc).2⟩
  have hslot : (s.setSlot i (some (x.toPending holder m))).cust.slotAt b = some i :=
    slotAt_changed hi (setSlot_record_self i _ s) hplace fun k hk => setSlot_slot_other hk _ s
  unfold Cust.inCartAt Cust.recordAt
  rw [hslot]
  dsimp only [Option.bind]
  rw [setSlot_record_self]
  rfl

theorem openRelease_opens (b : Bay) (k : ReleaseKind) (holder : Option Token) (s : State) :
    s.Opens b k holder (openRelease b k holder s) := by
  have hf := openRelease_frame b k holder s
  have hbody := body_of_frame hf (by decide) b
  have hrest : (openRelease b k holder s).ldrv = s.ldrv ∧
      (openRelease b k holder s).out = s.out ∧ (openRelease b k holder s).now = s.now ∧
      (openRelease b k holder s).bmon[b].door = s.bmon[b].door ∧
      (openRelease b k holder s).bmon[b].latch = s.bmon[b].latch :=
    ⟨ldrv_of_frame hf, out_of_frame hf, now_of_frame hf, (congrArg BayEntry.door hbody :),
      (congrArg BayEntry.latch hbody :)⟩
  cases hi : s.cust.slotAt b with
  | none =>
    have heq : openRelease b k holder s = s.setRelease b (some
        { stage := .latchWait, kind := k, holder := holder, recorded := false, held := none, window := none }) := by
      unfold openRelease
      rw [hi]
    rw [heq] at hrest ⊢
    refine ⟨?_, fun i x h => absurd (hi.symm.trans h) nofun, fun j h => absurd (hi ▸ h) (by decide), rfl,
      fun _ => ⟨rfl, rfl⟩, inCartAt_none hi, rfl, hrest⟩
    rw [hi]
    exact Vector.getElem_set_self b.isLt
  | some i =>
    obtain ⟨x, hx, -⟩ := slotAt_record s.cust b i hi
    set t := s.setSlot i (some (x.toPending holder s.minute)) with ht
    set u := (match s.cust.freeEntry with
      | some j => journalLow s.cust.freeCount (t.setJournal j (JournalEntry.heldFor b))
      | none => t) with hu
    have heq : openRelease b k holder s = consider (u.setRelease b (some
        { stage := .latchWait, kind := k, holder := holder, recorded := true, held := s.cust.freeEntry
          window := none })) := by
      unfold openRelease
      rw [hi]
      dsimp only
      rw [hx]
      rfl
    have hslots : u.cust.slots = t.cust.slots ∧ u.cust.nextSequence = t.cust.nextSequence ∧
        u.psched.records = t.psched.records ∧
        ∀ j : Fin 48, s.cust.freeEntry = some j → u.cust.journal = s.cust.journal.set j (JournalEntry.heldFor b) := by
      rw [hu]
      cases s.cust.freeEntry with
      | none => exact ⟨rfl, rfl, rfl, nofun⟩
      | some j =>
        dsimp only
        have hc := cust_of_frame (journalLow_frame s.cust.freeCount (t.setJournal j (JournalEntry.heldFor b)))
        have hp := records_of_frame (journalLow_frame s.cust.freeCount (t.setJournal j (JournalEntry.heldFor b)))
        rw [hc, hp]
        exact ⟨rfl, rfl, rfl, fun j' h => by rw [← Option.some.inj h]; rfl⟩
    obtain ⟨h1, h2, h3, h4⟩ := hslots
    rw [heq] at hrest ⊢
    have hcust := consider_cust (s := u.setRelease b (some
        { stage := .latchWait, kind := k, holder := holder, recorded := true, held := s.cust.freeEntry
          window := none }))
    have haway : u.cust.inCartAt b = false :=
      (inCartAt_congr h1 b).trans (inCartAt_pending hi hx holder s.minute)
    refine ⟨?_, fun j y hj hy => ?_, fun j _ hj => ?_, ?_, fun h => absurd (hi.symm.trans h) nofun, ?_, ?_, hrest⟩
    · rw [hcust, hi]
      exact Vector.getElem_set_self b.isLt
    · obtain rfl := Option.some.inj (hi.symm.trans hj)
      obtain rfl := Option.some.inj (hx.symm.trans hy)
      rw [hcust]
      have hs : (u.setRelease b (some
        { stage := .latchWait, kind := k, holder := holder, recorded := true, held := s.cust.freeEntry
          window := none })).cust.slots = t.cust.slots := h1
      rw [hs]
      exact ⟨setSlot_record_self i _ s, fun k hk => setSlot_slot_other hk _ s⟩
    · rw [hcust]
      exact h4 j hj
    · rw [hcust]
      exact h2
    · rw [hcust]
      exact haway
    · refine (consider_notInCart (b := b) (s := u.setRelease b _) haway).trans ?_
      exact congrArg (fun v : Vector ProvRecord 36 => v[b]) h3

theorem openRelease_acc (b : Bay) (k : ReleaseKind) (holder : Option Token) (s : State) :
    (openRelease b k holder s).acc = s.acc :=
  acc_of_frame (openRelease_frame b k holder s)

section
variable {s t : State} {b : Bay} {k : ReleaseKind} {holder : Option Token}

/-- The transaction of the reader port is no part of an opened release. -/
theorem State.Opens.withAcc (h : s.Opens b k holder t) (a : Acc) : s.Opens b k holder (t.withAcc a) :=
  ⟨h.release, h.record, h.journal, h.sequence, h.plain, h.away, h.provision, h.rest⟩

/-- What CUST holds of an opened release after the request for its drive. -/
theorem State.Opens.requested (h : s.Opens b k holder t) :
    (∃ r : Release, (requestDrive b t).cust.releases[b] = some r ∧ r.kind = k ∧ r.holder = holder ∧
      r.recorded = (s.cust.slotAt b).isSome ∧
      r.held = if (s.cust.slotAt b).isSome then s.cust.freeEntry else none) ∧
    s.changesRecordAt b (fun x => x.toPending holder s.minute) (requestDrive b t) ∧
    (requestDrive b t).cust.slots = t.cust.slots ∧ (requestDrive b t).cust.journal = t.cust.journal ∧
    (requestDrive b t).cust.nextSequence = s.cust.nextSequence ∧
    (requestDrive b t).psched.records[b] = s.psched.records[b] := by
  have hf := requestDrive_frame b t
  have hslots : (requestDrive b t).cust.slots = t.cust.slots := hf .custody (by decide)
  have hjournal : (requestDrive b t).cust.journal = t.cust.journal ∧
      (requestDrive b t).cust.nextSequence = t.cust.nextSequence := hf .journal (by decide)
  refine ⟨(driving_release b _).requestDrive b ⟨_, h.release, rfl, rfl, rfl, rfl⟩, ?_, hslots, hjournal.1,
    hjournal.2.trans h.sequence, ((driving_record b _).requestDrive b ⟨h.away, h.provision⟩).2⟩
  have hrec := h.record
  simpa only [State.changesRecordAt, hslots] using hrec

/-- What LDRV makes of the request of an opened release (R134 to R136). -/
theorem State.Opens.asks (h : s.Opens b k holder t) (ha : s.psched.records[b].state ≠ .active) (hq : s.queueBlocked) :
    t.Asks b (requestDrive b t) ∧ s.requests b (requestDrive b t) := by
  obtain ⟨hl, -, hn, hi⟩ := h.rest
  have hasks : t.Asks b (requestDrive b t) := by
    refine requestDrive_asks ?_ (by rw [h.provision]; exact ha)
    unfold State.queueBlocked
    rw [hl]
    exact hq
  exact ⟨hasks, Asks.requests hasks hl hn hi⟩

end

/-! ## A session that is aborted (R82) -/

theorem endBayCore_active {e : Option Bay} {b : Bay} {s : State} (hs : s.QueueLaw e) (ha : s.psched.records[b].state = .active) :
    ∃ (c : Chan) (x : Session), s.psched.channels[c].session = some x ∧ x.bay = b ∧
      ∀ o : SessionOutcome, endBayCore b o s = endSessionCore c o 0 s := by
  cases hc : s.psched.channelOf b with
  | none =>
    have := (channelOf_isSome s.psched b).mpr (hs.active b ha).1
    rw [hc] at this
    exact absurd this (by decide)
  | some c =>
    obtain ⟨x, hx, hb⟩ := bayOf_eq_some.mp (channelOf_eq_some hc)
    refine ⟨c, x, hx, hb, fun o => ?_⟩
    unfold endBayCore
    rw [if_pos ha, hc]

/-- The record of an ACTIVE bay whose session is ended by an outcome that does not leave it WAITING. -/
theorem endBayCore_record {b : Bay} {s : State} (hq : s.queueGood) (ha : s.psched.records[b].state = .active)
    {o : SessionOutcome} (ho : (s.psched.records[b].afterEnd o 0).state ≠ .waiting) :
    (endBayCore b o s).psched.records[b] = s.psched.records[b].afterEnd o 0 := by
  obtain ⟨c, x, hx, rfl, he⟩ := endBayCore_active ((queueGood_iff s).mp hq) ha
  rw [he o]
  exact endSessionCore_ends hq hx ho

/-- The state in which RELEASE_BAY opens its release: a session that the force flag overrides is aborted. -/
def aborted (b : Bay) (s : State) : State := if s.psched.records[b].state = .active then pschedAbort b s else s

theorem aborted_frame (b : Bay) (s : State) : s.changedOnly endParts (aborted b s) := by
  unfold aborted
  split
  · exact pschedAbort_frame b s
  · exact .refl _ _

theorem aborted_record {b : Bay} {s : State} (hq : s.queueGood) :
    (aborted b s).psched.records[b].state ≠ .active ∧ (s.psched.records[b].state = .active →
      (aborted b s).psched.records[b].state = .none ∧ (aborted b s).psched.records[b].lastOutcome = some .aborted) := by
  unfold aborted
  by_cases ha : s.psched.records[b].state = .active
  · have hrec : (pschedAbort b s).psched.records[b] = s.psched.records[b].afterEnd .aborted 0 := by
      unfold pschedAbort
      rw [pschedEvent_psched_records, endBayCore_record (o := .aborted) hq ha nofun]
    have hab : (pschedAbort b s).psched.records[b].state ≠ .active ∧ (s.psched.records[b].state = .active →
        (pschedAbort b s).psched.records[b].state = .none ∧
        (pschedAbort b s).psched.records[b].lastOutcome = some .aborted) := by
      rw [hrec]
      exact ⟨nofun, fun _ => ⟨rfl, rfl⟩⟩
    simpa only [if_pos ha] using hab
  · simpa only [if_neg ha] using ⟨ha, fun h => absurd h ha⟩

/-! ## RELEASE_BAY -/

theorem releaseByStaff_eq (b : Bay) (holder : Option Token) (s : State) :
    releaseByStaff b holder s = requestDrive b (openRelease b .staff holder (aborted b s)) := rfl

/-- What a staff release of a bay leaves (R129). -/
theorem releaseByStaff_releases {b : Bay} {holder : Option Token} {s : State} (hq : s.queueGood) {j : Fin 48}
    (hj : s.cust.freeEntry = some j) {t : State} (ht : t = releaseByStaff b holder s) :
    (∃ r : Release, t.cust.releases[b] = some r ∧ r.kind = .staff ∧ r.holder = holder ∧
      (r.recorded = true ↔ (s.cust.slotAt b).isSome) ∧
      r.held = (if (s.cust.slotAt b).isSome then some j else none)) ∧
    (∀ (k : Fin 48) (x : CustodyRecord), s.cust.slotAt b = some k → s.cust.slots[k].record = some x →
      t.cust.slots[k].record = some { x with state := .pendingRelease, holder := holder, since := s.minute } ∧
      t.cust.journal = s.cust.journal.set j (JournalEntry.heldFor b)) ∧
    (s.cust.slotAt b = none → t.cust.journal = s.cust.journal ∧ t.cust.slots = s.cust.slots) ∧
    (s.queueBlocked → s.requests b t) ∧
    (s.psched.records[b].state = .active → t.psched.records[b].state = .none ∧
      t.psched.records[b].lastOutcome = some .aborted) := by
  rw [releaseByStaff_eq] at ht
  have hf := aborted_frame b s
  obtain ⟨hna, hab⟩ := aborted_record (b := b) hq
  have hc : (aborted b s).cust = s.cust := cust_of_frame hf
  have hl : (aborted b s).ldrv = s.ldrv := ldrv_of_frame hf
  have hn : (aborted b s).now = s.now := now_of_frame hf
  have hm : (aborted b s).minute = s.minute := congrArg (fun a : Acc => a.clock.map CartClock.minute) (acc_of_frame hf)
  have hbody := body_of_frame hf (by decide) b
  have hi : (aborted b s).bmon[b].door = s.bmon[b].door ∧ (aborted b s).bmon[b].latch = s.bmon[b].latch :=
    ⟨(congrArg BayEntry.door hbody :), (congrArg BayEntry.latch hbody :)⟩
  generalize aborted b s = v at *
  have hopen := openRelease_opens b .staff holder v
  obtain ⟨hrel, hrec, hslots, hjrn, -, hprov⟩ := hopen.requested
  have hasks := hopen.asks hna
  rw [← ht] at hrel hrec hslots hjrn hprov hasks
  have hjournal := hopen.journal j
  have hplain := hopen.plain
  rw [← hslots, ← hjrn, hc] at hplain
  rw [← hjrn, hc] at hjournal
  rw [hc, hj] at hrel
  unfold State.changesRecordAt at hrec
  rw [hc, hm] at hrec
  obtain ⟨r, h1, h2, h3, h4, h5⟩ := hrel
  refine ⟨⟨r, h1, h2, h3, by rw [h4], h5⟩, fun k x hk hx => ⟨(hrec k x hk hx).1, hjournal (by rw [hk]; rfl) hj⟩, hplain,
    fun hb => ?_, fun ha => ?_⟩
  · obtain ⟨h, -⟩ := hasks (by unfold State.queueBlocked; rw [hl]; exact hb)
    obtain ⟨ol, -, on, oi⟩ := hopen.rest
    exact Asks.requests h (ol.trans hl) (on.trans hn) ⟨oi.1.trans hi.1, oi.2.trans hi.2⟩
  · rw [hprov]
    exact hab ha

theorem freeEntry_eq_none {c : Cust} : c.freeEntry = none ↔ ∀ j : Fin 48, c.journal[j].state ≠ .free := by
  unfold Cust.freeEntry
  rw [List.find?_eq_none]
  exact ⟨fun h j hf => h j (List.mem_finRange j) (beq_iff_eq.mpr hf), fun h j _ hf => h j (beq_iff_eq.mp hf)⟩

theorem orderReleaseBay_bay {off : Nat} {b : Bay} {s : State} (h : (s.field1 off 0x0C).toNat = b.val + 1) :
    (∀ a : Answer, s.releaseCheck b (s.field1 off 0x0D != 0) (s.fieldToken off 0x10) = some a →
      orderReleaseBay off s = refuse a s) ∧
    (s.releaseCheck b (s.field1 off 0x0D != 0) (s.fieldToken off 0x10) = none →
      orderReleaseBay off s = (releaseByStaff b (s.fieldToken off 0x10) s, .done)) := by
  unfold orderReleaseBay
  rw [h, bayOfNumber_val_add_one]
  refine ⟨fun a ha => ?_, fun hn => ?_⟩
  · simp only [ha]
  · simp only [hn]

/-- Settles O55. -/
theorem releaseBayOpensAStaffRelease : Obligations.ReleaseBayOpensAStaffRelease := by
  intro s i off n hm hq hr
  refine ⟨fun h => order_refused (kind := .releaseBay) (a := .badField 1) hm hr ?_, fun b hb => ?_⟩
  · simp only [OrderKind.owner, orderReleaseBay, bayOfNumber_eq_none h]
  obtain ⟨hbad, hgood⟩ := orderReleaseBay_bay hb
  refine ⟨fun ho => order_refused (kind := .releaseBay) (a := ⟨.badState, 0⟩) hm hr (hbad _ ?_), fun ho => ?_⟩
  · unfold State.releaseCheck
    obtain ho | ho := ho <;> rw [ho] <;> rfl
  have hatt : ¬s.bmon[b].occupancy.attached = false := by
    obtain ho | ho | ho := ho <;> rw [ho] <;> decide
  refine ⟨fun r hrel => order_refused (kind := .releaseBay) (a := .busy 1) hm hr (hbad _ ?_),
    fun hrel => ⟨fun ha hforce => order_refused (kind := .releaseBay) (a := .busy 2) hm hr (hbad _ ?_), fun ha => ?_⟩⟩
  · unfold State.releaseCheck
    rw [if_neg hatt, hrel]
    rfl
  · unfold State.releaseCheck
    rw [if_neg hatt, hrel, hforce]
    exact (if_neg (by decide)).trans (if_pos ⟨ha, rfl⟩)
  have hnotForced : ¬(s.psched.records[b].state = .active ∧ (s.field1 off 0x0D != 0) = false) := fun ⟨h1, h2⟩ =>
    ha.elim (fun h => h h1) fun h => h (of_not_not fun hc => by rw [bne_iff_ne.mpr hc] at h2; exact nomatch h2)
  have hcheck : s.releaseCheck b (s.field1 off 0x0D != 0) (s.fieldToken off 0x10) =
      if s.cust.freeEntry = none then some ⟨.full, 0⟩
      else if s.ldrv.canTake b = false then some (.busy 3)
      else if s.holderBusy b (s.fieldToken off 0x10) then some (.busy 4)
      else none := by
    unfold State.releaseCheck
    rw [if_neg hatt, hrel]
    exact (if_neg (by decide)).trans (if_neg hnotForced)
  refine ⟨fun hfull => order_refused (kind := .releaseBay) (a := ⟨.full, 0⟩) hm hr (hbad _ ?_),
    fun j hj => ⟨fun hcan => order_refused (kind := .releaseBay) (a := .busy 3) hm hr (hbad _ ?_),
    fun hcan hholder => order_refused (kind := .releaseBay) (a := .busy 4) hm hr (hbad _ ?_),
    fun hcan hholder => ?_⟩⟩
  · rw [hcheck, if_pos (freeEntry_eq_none.mpr hfull)]
  · rw [hcheck, hj, hcan]
    rfl
  · rw [hcheck, hj, hcan, hholder]
    rfl
  · have hpass : s.releaseCheck b (s.field1 off 0x0D != 0) (s.fieldToken off 0x10) = none := by
      rw [hcheck, hj, hcan, hholder]
      rfl
    obtain ⟨hexec, hans, -, hfr⟩ := order_answered hm hr (kind := .releaseBay) (hgood hpass)
    obtain ⟨h1, h2, h3, h4, h5⟩ := releaseByStaff_releases (holder := s.fieldToken off 0x10) hq hj rfl
    refine ⟨_, hexec, hans, ?_⟩
    generalize releaseByStaff b (s.fieldToken off 0x10) s = u at *
    rw [answered_cust, answered_psched]
    refine ⟨h1, h2, h3, fun hb => ?_, h5, hfr.mono (by decide)⟩
    have hreq := h4 hb
    unfold State.requests State.takes at hreq ⊢
    rw [answered_ldrv, answered_palloc]
    exact hreq

end Sys2Proof.Machine
end

section
/-! PROOF. The verdicts of a token arrival: a student's checkout (R110 to R114), a teacher's group release (R115), and the
verdicts that end within the arrival (R108, R109, R116). -/

namespace Sys2Proof.Machine

-- One declaration after the other: the check compiles the whole text within a memory bound.
set_option Elab.async false

/-! ## The token of a complete frame -/

theorem tokenArrival_arrives {s : State} {w : Nat} (hc : s.acc.collecting = some w) (hw : s.now ≤ w + 50)
    (token : Token) : frameComplete (frameOfToken token) s = tokenArrives token (s.withCollecting none) := by
  unfold frameComplete
  rw [hc, tokenOfFrame_frameOfToken]
  exact if_pos (decide_eq_true hw)

/-- What a verdict frame leaves of the state in which the frame was complete. -/
theorem sendVerdict_collected (s : State) (v : Verdict) (f : Byte) (r : Reason) :
    (sendVerdict v f r (s.withCollecting none)).out.txd = s.out.txd ++ [⟨v.code, f, r.code⟩] ∧
    s.changedOnly [.collecting, .verdicts] (sendVerdict v f r (s.withCollecting none)) :=
  ⟨rfl, ((withCollecting_frame s none).mono (by decide)).then (sendVerdict_frame v f r _)⟩

theorem holds_iff (c : Cust) (token : Token) : c.holds token none = true ↔
    ∃ (i : Fin 48) (r : CustodyRecord), c.slots[i].record = some r ∧
      (r.state = .pendingRelease ∨ r.state = .out) ∧ r.holder = some token := by
  unfold Cust.holds
  rw [List.any_eq_true]
  constructor
  · rintro ⟨i, -, hi⟩
    split at hi
    · next r hr =>
      simp only [Bool.and_eq_true, Bool.or_eq_true, beq_iff_eq] at hi
      exact ⟨i, r, hr, hi.1.1, hi.1.2⟩
    · exact absurd hi Bool.false_ne_true
  · rintro ⟨i, r, hr, hst, hh⟩
    refine ⟨i, List.mem_finRange i, ?_⟩
    rw [hr]
    simp only [Bool.and_eq_true, Bool.or_eq_true, beq_iff_eq]
    exact ⟨⟨hst, hh⟩, rfl⟩

/-! ## The bay that a student is offered (R112) -/

/-- The bay of a group that is ready: by level from the highest, then by number. -/
theorem poolBay_isBest (s : State) (group : Nat) (token : Token) :
    IsBest (fun b : Bay => decide (s.bmon[b].pool = some group) && s.ready b token)
      (fun b : Bay => OrderDual.toDual (s.bmon[b].level.getD 0)) (List.finRange 36) (s.poolBay group token) := by
  have heq : s.poolBay group token = (List.finRange 36).foldl
      (pickBest (fun b : Bay => decide (s.bmon[b].pool = some group) && s.ready b token)
        fun b : Bay => OrderDual.toDual (s.bmon[b].level.getD 0)) none := by
    unfold State.poolBay
    congr 1
    funext best b
    cases best <;> simp [-Fin.getElem_fin, pickBest]
  rw [heq]
  exact isBest_foldl _ _ (finRange_sorted 36)

theorem poolBay_none {s : State} {group : Nat} {token : Token}
    (h : ∀ x : Bay, s.bmon[x].pool = some group → ¬s.readyFor x token) : s.poolBay group token = none := by
  have hbest := poolBay_isBest s group token
  cases hb : s.poolBay group token with
  | none => rfl
  | some c =>
    rw [hb] at hbest
    obtain ⟨-, hp, -⟩ := hbest
    obtain ⟨hpool, hready⟩ := Bool.and_eq_true_iff.mp hp
    exact absurd ((ready_iff s c token).mp hready) (h c (of_decide_eq_true hpool))

theorem poolBay_some {s : State} {group : Nat} {token : Token} {b : Bay} (hpool : s.bmon[b].pool = some group)
    (hb : s.readyFor b token)
    (h : ∀ (x : Bay) (l m : Nat), s.bmon[x].pool = some group → s.readyFor x token → s.bmon[x].level = some l →
      s.bmon[b].level = some m → l < m ∨ (l = m ∧ b ≤ x)) : s.poolBay group token = some b := by
  have hbest := poolBay_isBest s group token
  have hpb : (decide (s.bmon[b].pool = some group) && s.ready b token) = true :=
    Bool.and_eq_true_iff.mpr ⟨decide_eq_true hpool, (ready_iff s b token).mpr hb⟩
  cases hc : s.poolBay group token with
  | none =>
    rw [hc] at hbest
    exact absurd (hpb.symm.trans (hbest b (List.mem_finRange b))) nofun
  | some c =>
    rw [hc] at hbest
    obtain ⟨-, hp, hall⟩ := hbest
    obtain ⟨hpc, hrc⟩ := Bool.and_eq_true_iff.mp hp
    have hready := (ready_iff s c token).mp hrc
    obtain ⟨l, hl, -⟩ := hready.2.2.2.1
    obtain ⟨m, hm, -⟩ := hb.2.2.2.1
    have hcb := h c l m (of_decide_eq_true hpc) hready hl hm
    have hbc := hall b (List.mem_finRange b) hpb
    simp only [hl, hm, Option.getD_some, OrderDual.toDual_lt_toDual, OrderDual.toDual_inj] at hbc
    have hle : b ≤ c ∧ c ≤ b := by
      obtain h1 | ⟨h1, hbc'⟩ := hcb
      · obtain h2 | ⟨h2, -⟩ := hbc <;> omega
      · obtain h2 | ⟨-, hcb'⟩ := hbc
        · omega
        · exact ⟨hbc', hcb'⟩
    exact congrArg some (le_antisymm hle.2 hle.1)

/-- The reason of Table 6-2 is one code. -/
theorem homeReasonIs_unique {s : State} {b : Bay} {token : Token} {r r' : Byte} (h : s.homeReasonIs b token r)
    (h' : s.homeReasonIs b token r') : r = r' := by
  obtain ⟨he, ho⟩ := h
  obtain ⟨he', ho'⟩ := h'
  by_cases hemp : s.bmon[b].occupancy = .empty ∨ s.bmon[b].occupancy = .settling
  · rw [he hemp, he' hemp]
  · obtain ⟨n1, n2⟩ := not_or.mp hemp
    obtain ⟨h1, h2, h3, h4⟩ := ho n1 n2
    obtain ⟨h1', h2', h3', h4'⟩ := ho' n1 n2
    by_cases hf : s.homeFault b
    · rw [h1 hf, h1' hf]
    · by_cases ht : s.homeTaken b token
      · rw [h2 hf ht, h2' hf ht]
      · by_cases hp : s.homeProvisioning b
        · rw [h3 hf ht hp, h3' hf ht hp]
        · rw [h4 hf ht hp, h4' hf ht hp]

theorem selectBay_home {s : State} {e : CredentialEntry} {b : Bay} (h : e.homeBay.toNat = b.val + 1) (token : Token) :
    s.selectBay e token = if s.ready b token then .bay b else .notReady (bayByte b) (s.homeReason b token) := by
  unfold State.selectBay
  rw [h, bayOfNumber_val_add_one]

theorem selectBay_pool {s : State} {e : CredentialEntry} (h : e.homeBay = 0) (token : Token) :
    (s.poolBay e.group.toNat token = none → s.selectBay e token = .notReady 0 .noneFree) ∧
    ∀ b : Bay, s.poolBay e.group.toNat token = some b → s.selectBay e token = .bay b := by
  have hno : bayOfNumber e.homeBay.toNat = none := by
    rw [h]
    exact bayOfNumber_eq_none (.inl rfl)
  unfold State.selectBay
  rw [hno]
  refine ⟨fun hp => ?_, fun b hp => ?_⟩ <;> rw [hp]

/-! ## An accepted checkout (R113) -/

/-- What an accepted student checkout leaves of `s`, with a record IN_CART at the bay. -/
theorem acceptStudent_accepts {s : State} {b : Bay} {token : Token} {j : Fin 48} (hb : s.readyFor b token)
    (hj : s.cust.freeEntry = some j) {t : State} (ht : t = acceptStudent b token s) :
    (∀ (i : Fin 48) (r : CustodyRecord), s.cust.slotAt b = some i → s.cust.slots[i].record = some r →
      t.cust.slots[i].record = some { r with
        state := .pendingRelease, holder := some token, since := s.minute }) ∧
    t.cust.journal = s.cust.journal.set j (JournalEntry.heldFor b) ∧
    t.cust.nextSequence = s.cust.nextSequence ∧
    (s.queueBlocked → s.requests b t ∧
      (¬s.mustWait b →
        t.out.txd = s.out.txd ++ [⟨0x01, bayByte b, 0⟩] ∧ t.acc.transaction = none ∧
        t.cust.releases[b] = some
          { stage := .window, kind := .student, holder := some token, recorded := true
            held := some j, window := some s.now }) ∧
      (s.mustWait b →
        t.out.txd = s.out.txd ∧ t.acc.transaction = some { token := token, bay := b } ∧
        t.cust.releases[b] = some
          { stage := .latchWait, kind := .student, holder := some token, recorded := true
            held := some j, window := none })) := by
  obtain ⟨⟨-, hdoor, -⟩, ⟨i, x, hi, -, -⟩, ⟨-, hna, -⟩, -⟩ := hb
  set u := openRelease b .student (some token) s with hu
  have hopen : s.Opens b .student (some token)
      (u.withAcc { u.acc with transaction := some { token := token, bay := b } }) :=
    (openRelease_opens b .student (some token) s).withAcc _
  have heq : t = requestDrive b (u.withAcc { u.acc with transaction := some { token := token, bay := b } }) := ht
  have htx : (u.withAcc { u.acc with transaction := some { token := token, bay := b } }).acc.transaction =
      some { token := token, bay := b } := rfl
  generalize u.withAcc { u.acc with transaction := some { token := token, bay := b } } = v at *
  obtain ⟨-, hrec, -, hjrn, hseq, -⟩ := hopen.requested
  have hasks := hopen.asks hna
  rw [← heq] at hrec hjrn hseq hasks
  obtain ⟨hl, ho, hn, hi', -⟩ := hopen.rest
  have hrel := hopen.release
  rw [hi, hj] at hrel
  refine ⟨fun k r hk hr => (hrec k r hk hr).1, hjrn.trans (hopen.journal j (by rw [hi]; rfl) hj), hseq, fun hq => ?_⟩
  obtain ⟨⟨hwaits, htakes⟩, hreq⟩ := hasks hq
  have hmust : v.mustWait b ↔ s.mustWait b := by
    unfold State.mustWait
    rw [hl]
  refine ⟨hreq, fun hw => ?_, fun hw => ?_⟩
  · obtain ⟨-, -, hstart, hsend, -⟩ := htakes (fun h => hw (hmust.mp h)) _ rfl
    obtain ⟨ha, hs⟩ := hsend _ htx rfl
    refine ⟨by rw [hs, ho], ha, (hstart _ hrel).trans ?_⟩
    rw [hi', hdoor, hn]
    rfl
  · obtain ⟨-, -, hc, ha, hs⟩ := hwaits (hmust.mpr hw)
    rw [hc, ha, hs, ho]
    exact ⟨rfl, htx, hrel⟩

/-- A STUDENT token whose checks pass, with a FREE journal entry. -/
theorem decideStudent_selects {s : State} {e : CredentialEntry} {token : Token}
    (hg : s.groupOpen e.group.toNat = true) (hs : s.acc.service = false) (hh : s.cust.holds token none = false)
    {j : Fin 48} (hj : s.cust.freeEntry = some j) :
    (∀ (f : Byte) (r : Reason), s.selectBay e token = .notReady f r →
      decideStudent e token s = sendVerdict .denyNotReady f r s) ∧
    ∀ b : Bay, s.selectBay e token = .bay b → decideStudent e token s =
      if s.ldrv.canTake b then acceptStudent b token s else sendVerdict .denyLatch 0 .none s := by
  unfold decideStudent
  rw [hg, hs, hh, hj]
  refine ⟨fun f r hsel => ?_, fun b hsel => ?_⟩ <;> rw [hsel] <;> rfl

theorem tokenArrives_student {s : State} {token : Token} {e : CredentialEntry} (ht : s.acc.transaction = none)
    (hl : s.lookup token = some e) (hst : e.status = 1) (hr : e.role = 1) :
    tokenArrives token s = decideStudent e token s := by
  unfold tokenArrives
  rw [ht, hl]
  dsimp only
  rw [hst, hr]
  rfl

/-- Settles O42. -/
theorem studentChecksOutTheHomeBay : Obligations.StudentChecksOutTheHomeBay := by
  intro s token e w hc hw htx hlook hst hrole hgroup hserv hholds j hj
  have hexec : exec (.tokenArrival (frameOfToken token)) s =
      .next (decideStudent e token (s.withCollecting none)) := by
    refine congrArg Host.Outcome.next ((tokenArrival_arrives hc hw token).trans ?_)
    exact tokenArrives_student (s := s.withCollecting none) htx hlook hst hrole
  have hsel := decideStudent_selects (s := s.withCollecting none) hgroup hserv hholds hj
  have hframe := withCollecting_frame s none
  have hsv := sendVerdict_collected s
  have hready : ∀ b : Bay, s.readyFor b token → (s.withCollecting none).readyFor b token := fun b h => h
  have hselect : (s.withCollecting none).selectBay e token = s.selectBay e token := rfl
  rw [hselect] at hsel
  obtain ⟨hdeny, htake⟩ := hsel
  refine ⟨fun b r hb hnr hreason => ?_, fun h0 hnone => ?_, fun b hb hpick => ?_⟩
  · have hpick : s.selectBay e token = .notReady (bayByte b) (s.homeReason b token) := by
      rw [selectBay_home hb token]
      exact if_neg fun h => hnr ((ready_iff s b token).mp h)
    rw [homeReasonIs_unique hreason (homeReason_is s b token)]
    obtain ⟨h1, h2⟩ := hsv .denyNotReady (bayByte b) (s.homeReason b token)
    exact ⟨_, hexec.trans (congrArg _ (hdeny _ _ hpick)), h2, h1⟩
  · have hpick : s.selectBay e token = .notReady 0 .noneFree :=
      (selectBay_pool h0 token).1 (poolBay_none hnone)
    obtain ⟨h1, h2⟩ := hsv .denyNotReady 0 .noneFree
    exact ⟨_, hexec.trans (congrArg _ (hdeny _ _ hpick)), h2, h1⟩
  · have hpick : s.selectBay e token = .bay b := by
      obtain hb' | ⟨h0, hpool, hbest⟩ := hpick
      · rw [selectBay_home hb' token]
        exact if_pos ((ready_iff s b token).mpr hb)
      · exact (selectBay_pool h0 token).2 b (poolBay_some hpool hb hbest)
    have hsel := htake b hpick
    refine ⟨fun hcan => ?_, fun hcan => ?_⟩
    · obtain ⟨h1, h2⟩ := hsv .denyLatch 0 .none
      exact ⟨_, hexec.trans (congrArg _ (hsel.trans (if_neg (Bool.eq_false_iff.mp hcan)))), h2, h1⟩
    · obtain ⟨h1, h2, h3, h4⟩ := acceptStudent_accepts (hready b hb) hj rfl
      refine ⟨_, hexec.trans (congrArg _ (hsel.trans (if_pos hcan))), h1, h2, h3, h4, ?_⟩
      exact (hframe.mono (by decide)).then (acceptStudent_frame b token _)

end Sys2Proof.Machine
end

section
/-! PROOF. A teacher's group release (R115), and the verdicts that end within a token arrival (R108, R109, R110, R116). -/

namespace Sys2Proof.Machine

-- One declaration after the other: the check compiles the whole text within a memory bound.
set_option Elab.async false

/-! ## The visit of one bay (R115) -/

theorem canTake_iff (l : Ldrv) (b : Bay) :
    l.canTake b = true ↔ l.mode ≠ .off ∧ (l.queue.length < 12 ∨ l.queued b = true) := by
  simp only [Ldrv.canTake, Config.latchQueueRoom, Bool.and_eq_true, Bool.or_eq_true, bne_iff_ne]
  exact and_congr_right fun _ => or_congr_left decide_eq_true_iff

theorem freeEntry_isSome (c : Cust) : c.freeEntry.isSome = true ↔ ∃ j : Fin 48, c.journal[j].state = .free := by
  rw [Option.isSome_iff_ne_none, ne_eq, freeEntry_eq_none, not_forall_not]

theorem groupTakes_iff (s : State) (group : Nat) (b : Bay) :
    s.groupTakes group b ↔ s.bmon[b].pool = some group ∧ s.teacherTakes b = true := by
  unfold State.groupTakes State.teacherTakes
  rw [← inCartAt_iff, ← freeEntry_isSome, ← canTake_iff]
  simp only [Bool.and_eq_true, beq_iff_eq, bne_iff_ne, and_assoc]

theorem requests_right {s t u : State} {b : Bay} (h : s.requests b t) (hl : u.ldrv = t.ldrv)
    (hr : u.palloc.reserve = t.palloc.reserve) : s.requests b u := by
  unfold State.requests State.takes at h ⊢
  rw [hl, hr]
  exact h

/-- What a withdrawal leaves of the record of a bay that waits, and of one that does not. -/
theorem pschedWithdraw_record (b : Bay) (s : State) :
    (pschedWithdraw b s).psched.records = s.psched.records.set b s.psched.records[b].toNone ∧
      b ∉ (pschedWithdraw b s).psched.queue ∨ s.psched.records[b].state ≠ .waiting := by
  by_cases hw : s.psched.records[b].state = .waiting
  · left
    unfold pschedWithdraw
    rw [pschedEvent_psched_records, pschedEvent_psched_queue, if_pos hw]
    exact ⟨rfl, fun hm => bne_iff_ne.mp (List.mem_filter.mp hm).2 rfl⟩
  · exact .inr hw

theorem teacherEnqueue_enqueues {s : State} {group : Nat} {b : Bay} (h : s.groupTakes group b) (token : Token) :
    s.groupEnqueues token b (teacherEnqueue b token s) := by
  obtain ⟨-, -, ⟨i, x, hi, hx, -⟩, -, hna, -⟩ := h
  have hopen := openRelease_opens b .teacher (some token) s
  obtain ⟨⟨r, h1, h2, h3, h4, h5⟩, hrec, -, hjrn, hseq, hprov⟩ := hopen.requested
  have hasks := fun hq => (hopen.asks hna hq).2
  have hjournal := hopen.journal
  rw [← hjrn] at hjournal
  have hframe := teacherEnqueue_frame b token s
  unfold teacherEnqueue at hframe ⊢
  generalize requestDrive b (openRelease b .teacher (some token) s) = t at *
  have hw := pschedWithdraw_frame b t
  set u := (if s.psched.records[b].state = .waiting then pschedWithdraw b t else t) with hu
  have hsame : u.cust = t.cust ∧ u.ldrv = t.ldrv ∧ u.palloc.reserve = t.palloc.reserve := by
    rw [hu]
    split
    · exact ⟨cust_of_frame hw, ldrv_of_frame hw, (congrArg PAlloc.reserve (hw .limits (by decide)) :)⟩
    · exact ⟨rfl, rfl, rfl⟩
  obtain ⟨hc, hl, hr⟩ := hsame
  rw [hi] at h4 h5
  refine ⟨fun k y hk hy => ?_, fun j hj => ?_, fun hq => requests_right (hasks hq) hl hr, fun hst => ?_, fun hst => ?_,
    hframe.mono (by decide)⟩
  · rw [hc]
    exact hrec k y hk hy
  · rw [hc]
    exact ⟨hjournal j (by rw [hi]; rfl) hj, hseq, r, h1, h2, h3, h4, h5.trans hj⟩
  · have heq : u = pschedWithdraw b t := if_pos hst
    obtain ⟨hset, hq⟩ | hn := pschedWithdraw_record b t
    · have hself : u.psched.records[b] = t.psched.records[b].toNone := by
        rw [heq]
        exact (congrArg (fun v : Vector ProvRecord 36 => v[b]) hset).trans (Vector.getElem_set_self b.isLt)
      rw [hself]
      exact ⟨rfl, rfl, rfl, by rw [heq]; exact hq⟩
    · exact absurd (by rw [hprov]; exact hst) hn
  · have heq : u = t := if_neg hst
    rw [heq]
    exact hprov

/-! ## The visits of a group (R115) -/

/-- The state and the count before the visit of bay `k`. -/
def visited (group : Nat) (token : Token) (s : State) (k : Nat) : State × Nat :=
  ((List.finRange 36).take k).foldl (teacherVisit group token) (s, 0)

theorem visited_next (group : Nat) (token : Token) (s : State) (b : Bay) :
    visited group token s (b.val + 1) = teacherVisit group token (visited group token s b.val) b := by
  have hb : b.val < (List.finRange 36).length := by rw [List.length_finRange]; exact b.isLt
  unfold visited
  rw [List.take_succ_eq_append_getElem hb, List.foldl_append, List.getElem_finRange]
  rfl

theorem visited_all (group : Nat) (token : Token) (s : State) :
    visited group token s 36 = (List.finRange 36).foldl (teacherVisit group token) (s, 0) := by
  unfold visited
  rw [List.take_of_length_le (by rw [List.length_finRange])]

theorem teacherVisit_visits (group : Nat) (token : Token) (x : State × Nat) (b : Bay) :
    (x.1.groupTakes group b → x.1.groupEnqueues token b (teacherVisit group token x b).1 ∧
      (teacherVisit group token x b).2 = x.2 + 1) ∧
    (¬x.1.groupTakes group b → (teacherVisit group token x b).1 = x.1 ∧ (teacherVisit group token x b).2 = x.2) := by
  unfold teacherVisit
  refine ⟨fun h => ?_, fun h => ?_⟩
  · rw [if_pos ((groupTakes_iff _ _ _).mp h)]
    exact ⟨teacherEnqueue_enqueues h token, rfl⟩
  · rw [if_neg fun hc => h ((groupTakes_iff _ _ _).mpr hc)]
    exact ⟨rfl, rfl⟩

/-- With no student deciding, the visit of a bay sends nothing. -/
theorem teacherEnqueue_silent {s : State} (h : s.acc.transaction = none) (b : Bay) (token : Token) :
    (teacherEnqueue b token s).acc.transaction = none ∧ (teacherEnqueue b token s).out.txd = s.out.txd := by
  have hopen := openRelease_frame b .teacher (some token) s
  have hdrive := (driving_silent s.out.txd).requestDrive b (s := openRelease b .teacher (some token) s)
    (by rw [acc_of_frame hopen, out_of_frame hopen]; exact ⟨h, rfl⟩)
  unfold teacherEnqueue
  dsimp only
  split
  · have hw := pschedWithdraw_frame b (requestDrive b (openRelease b .teacher (some token) s))
    rw [acc_of_frame hw, out_of_frame hw]
    exact hdrive
  · exact hdrive

theorem teacherVisits_silent (group : Nat) (token : Token) (bs : List Bay) {x : State × Nat}
    (h : x.1.acc.transaction = none) : (bs.foldl (teacherVisit group token) x).1.acc.transaction = none ∧
      (bs.foldl (teacherVisit group token) x).1.out.txd = x.1.out.txd := by
  induction bs generalizing x with
  | nil => exact ⟨h, rfl⟩
  | cons b bs ih =>
    have hvisit : (teacherVisit group token x b).1.acc.transaction = none ∧
        (teacherVisit group token x b).1.out.txd = x.1.out.txd := by
      unfold teacherVisit
      split
      · exact teacherEnqueue_silent h b token
      · exact ⟨h, rfl⟩
    obtain ⟨h1, h2⟩ := ih hvisit.1
    exact ⟨h1, h2.trans hvisit.2⟩

/-! ## The verdicts of an arrival -/

section
variable {s : State} {token : Token} {e : CredentialEntry} (ht : s.acc.transaction = none)
  (hl : s.lookup token = some e)
include ht hl

theorem tokenArrives_suspended (hst : e.status = 2) : tokenArrives token s = sendVerdict .denySuspended 0 .none s := by
  unfold tokenArrives
  rw [ht, hl]
  exact if_pos hst

theorem tokenArrives_teacher (hst : e.status = 1) (hr : e.role = 2) :
    tokenArrives token s = decideTeacher e token s := by
  unfold tokenArrives
  rw [ht, hl]
  dsimp only
  rw [hst, hr]
  rfl

theorem tokenArrives_technician (hst : e.status = 1) (hr : e.role = 3) :
    tokenArrives token s = decideTechnician s := by
  unfold tokenArrives
  rw [ht, hl]
  dsimp only
  rw [hst, hr]
  rfl

end

/-- The checks that deny a STUDENT token, in their order (R110). -/
theorem decideStudent_denies (s : State) (e : CredentialEntry) (token : Token) :
    (s.groupOpen e.group.toNat = false → decideStudent e token s = sendVerdict .denyClosed 0 .none s) ∧
    (s.groupOpen e.group.toNat = true → s.acc.service = true →
      decideStudent e token s = sendVerdict .denyService 0 .none s) ∧
    (s.groupOpen e.group.toNat = true → s.acc.service = false → s.cust.holds token none = true →
      decideStudent e token s = sendVerdict .denyHolding 0 .none s) ∧
    (s.groupOpen e.group.toNat = true → s.acc.service = false → s.cust.holds token none = false →
      s.cust.freeEntry = none → decideStudent e token s = sendVerdict .denyJournal 0 .none s) := by
  unfold decideStudent
  refine ⟨fun h => if_pos h, fun h1 h2 => ?_, fun h1 h2 h3 => ?_, fun h1 h2 h3 h4 => ?_⟩
  · rw [h1, h2]
    rfl
  · rw [h1, h2, h3]
    rfl
  · rw [h1, h2, h3, h4]
    rfl

/-- What a technician's token leaves (R116). -/
theorem decideTechnician_toggles (s : State) :
    (decideTechnician s).acc = { s.acc with service := !s.acc.service } ∧
    (decideTechnician s).out.txd = s.out.txd ++ [⟨if s.acc.service then 0x04 else 0x03, 0, 0⟩] ∧
    s.changedOnly [.access, .counts, .verdicts] (decideTechnician s) := by
  refine ⟨?_, ?_, ?_⟩
  · unfold decideTechnician sendVerdict
    rw [withOut_acc, setAcc_acc]
  · unfold decideTechnician sendVerdict
    rw [withOut_out, setAcc_out]
    cases s.acc.service <;> rfl
  · unfold decideTechnician
    exact ((setService_frame _ s).mono (by decide)).then (sendVerdict_frame _ _ _ _)

/-- A teacher's group release (R115). -/
theorem decideTeacher_visits {s : State} {e : CredentialEntry} {token : Token} (ht : s.acc.transaction = none)
    (hs : s.acc.service = false) {t : State} (heq : t = decideTeacher e token s) :
    (∀ b : Bay,
      ((visited e.group.toNat token s b.val).1.groupTakes e.group.toNat b →
        (visited e.group.toNat token s b.val).1.groupEnqueues token b
          (visited e.group.toNat token s (b.val + 1)).1 ∧
        (visited e.group.toNat token s (b.val + 1)).2 = (visited e.group.toNat token s b.val).2 + 1) ∧
      (¬(visited e.group.toNat token s b.val).1.groupTakes e.group.toNat b →
        (visited e.group.toNat token s (b.val + 1)).1 = (visited e.group.toNat token s b.val).1 ∧
        (visited e.group.toNat token s (b.val + 1)).2 = (visited e.group.toNat token s b.val).2)) ∧
    (visited e.group.toNat token s 36).1.changedOnly [.verdicts] t ∧ t.acc.transaction = none ∧
    t.out.txd = s.out.txd ++ [⟨0x02, byteOf (visited e.group.toNat token s 36).2, 0⟩] := by
  have hlast : t = sendVerdict .group (byteOf (visited e.group.toNat token s 36).2) .none
      (visited e.group.toNat token s 36).1 := by
    rw [heq, visited_all]
    unfold decideTeacher
    rw [hs]
    rfl
  obtain ⟨ha, ho⟩ := teacherVisits_silent e.group.toNat token (List.finRange 36) (x := (s, 0)) ht
  rw [← visited_all] at ha ho
  refine ⟨fun b => ?_, ?_⟩
  · rw [visited_next]
    exact teacherVisit_visits _ _ _ b
  generalize visited e.group.toNat token s 36 = x at *
  refine ⟨?_, ?_, ?_⟩
  · rw [hlast]
    exact sendVerdict_frame _ _ _ _
  · rw [hlast]
    exact ha
  · rw [hlast, ← ho]
    rfl

/-- Settles O41. -/
theorem tokensGetTheirVerdicts : Obligations.TokensGetTheirVerdicts := by
  intro s token w hc hw
  have hexec : exec (.tokenArrival (frameOfToken token)) s = .next (tokenArrives token (s.withCollecting none)) :=
    congrArg Host.Outcome.next (tokenArrival_arrives hc hw token)
  have hsv := sendVerdict_collected s
  have hdeny : ∀ {v : Verdict}, tokenArrives token (s.withCollecting none) =
      sendVerdict v 0 .none (s.withCollecting none) →
      (tokenArrives token (s.withCollecting none)).out.txd = s.out.txd ++ [⟨v.code, 0, 0⟩] ∧
      s.changedOnly [.collecting, .verdicts] (tokenArrives token (s.withCollecting none)) := fun h => by
    rw [h]
    exact hsv _ 0 .none
  refine ⟨_, hexec, ?_, fun x hx => ?_, fun htx hl => ?_, fun e htx hl hst => ?_, fun e htx hl hst => ?_⟩
  · exact tokenArrives_frame token (s.withCollecting none) .collecting (by decide)
  · refine hdeny (v := .busy) ?_
    unfold tokenArrives
    exact if_pos (Option.isSome_iff_exists.mpr ⟨x, hx⟩)
  · refine hdeny (v := .denyUnknown) ?_
    have hl' : (s.withCollecting none).lookup token = none := hl
    have htx' : (s.withCollecting none).acc.transaction = none := htx
    unfold tokenArrives
    rw [htx', hl']
    rfl
  · exact hdeny (tokenArrives_suspended (s := s.withCollecting none) htx hl hst)
  · have hstudent : e.role = 1 → tokenArrives token (s.withCollecting none) =
        decideStudent e token (s.withCollecting none) := fun hr =>
      tokenArrives_student (s := s.withCollecting none) htx hl hst hr
    obtain ⟨d1, d2, d3, d4⟩ := decideStudent_denies (s.withCollecting none) e token
    have hteacher : e.role = 2 → tokenArrives token (s.withCollecting none) =
        decideTeacher e token (s.withCollecting none) := fun hr =>
      tokenArrives_teacher (s := s.withCollecting none) htx hl hst hr
    refine ⟨fun hr hg => hdeny ((hstudent hr).trans (d1 hg)), fun hr hg hs => hdeny ((hstudent hr).trans (d2 hg hs)),
      fun hr hg hs hh => hdeny ((hstudent hr).trans (d3 hg hs ((holds_iff s.cust token).mpr hh))),
      fun hr hg hs hh hf => hdeny ((hstudent hr).trans (d4 hg hs ?_ (freeEntry_eq_none.mpr hf))),
      fun hr hs => hdeny (v := .denyService) ((hteacher hr).trans (if_pos hs)), fun hr hs => ?_, fun hr => ?_⟩
    · refine Bool.eq_false_iff.mpr fun hholds => ?_
      obtain ⟨i, r, hi, hstate, hholder⟩ := (holds_iff s.cust token).mp hholds
      exact hh i r hi hstate hholder
    · obtain ⟨h1, h2, h3, h4⟩ := decideTeacher_visits (s := s.withCollecting none) (token := token) (e := e) htx hs rfl
      rw [hteacher hr]
      exact ⟨fun k => (visited e.group.toNat token (s.withCollecting none) k).1,
        fun k => (visited e.group.toNat token (s.withCollecting none) k).2, withCollecting_frame s none, rfl, rfl, h1, h2,
        h3, h4⟩
    · obtain ⟨h1, h2, h3⟩ := decideTechnician_toggles (s.withCollecting none)
      rw [tokenArrives_technician (s := s.withCollecting none) htx hl hst hr, h1, h2]
      exact ⟨rfl, rfl, rfl, rfl, rfl, ((withCollecting_frame s none).mono (by decide)).trans (h3.mono (by decide))⟩

end Sys2Proof.Machine
end

section
/-! PROOF. A release that is cancelled (R114, R123), and a forced opening (R10, R11, R12, R81, R125). -/

namespace Sys2Proof.Machine

-- One declaration after the other: the check compiles the whole text within a memory bound.
set_option Elab.async false

/-! ## A release cancelled with its student answered (R114, R123) -/

/-- The end of a release unopened is at most a change of custody and a consideration after it. -/
theorem endUnopened_considers (b : Bay) (s : State) : ∃ y : State, s.changedOnly [.custody, .releases, .journal] y ∧
    (endUnopened b s = y ∨ endUnopened b s = consider y) := by
  unfold endUnopened
  split
  · exact ⟨s, .refl s _, .inl rfl⟩
  · split
    · refine ⟨_, ?_, .inr rfl⟩
      refine State.changedOnly.then ?_ (setRelease_frame b none _)
      split
      · exact ((changeRecordAt_frame b _ s).mono (by decide)).then (setJournal_frame _ _ _)
      · exact (changeRecordAt_frame b _ s).mono (by decide)
    · exact ⟨_, (setRelease_frame b none s).mono (by decide), .inl rfl⟩

/-- The consideration after it leaves a bay that does not wait. -/
theorem endUnopened_recordKept {s : State} (hq : s.QueueLaw none) {x : Bay}
    (hw : s.psched.records[x].state ≠ .waiting) (b : Bay) :
    (endUnopened b s).psched.records[x] = s.psched.records[x] := by
  obtain ⟨y, hf, he⟩ := endUnopened_considers b s
  have hrec : y.psched.records[x] = s.psched.records[x] :=
    congrArg (fun v : Vector ProvRecord 36 => v[x]) (records_of_frame hf)
  have hy := hq.of_frame hf
  obtain he | he := he
  · rw [he]
    exact hrec
  · rw [he, consider_recordKept hy.nodup (.inl (hy.not_mem_of_state (by rw [hrec]; exact hw)))]
    exact hrec

/-- A release ended unopened, and a student who is deciding on its bay told why. -/
def cancelled (b : Bay) (reason : Reason) (s : State) : State :=
  answerDeciding b .denyNotReady (bayByte b) reason (endUnopened b s)

theorem cancelled_frame (b : Bay) (reason : Reason) (s : State) : s.changedOnly
    (.verdicts :: .reader :: .custody :: .releases :: .journal :: considerParts) (cancelled b reason s) :=
  ((endUnopened_quiet b s).mono (by decide)).then (answerDeciding_frame b _ _ _ _)

theorem cancelled_reverts {s : State} {b : Bay} {r : Release} (h : s.cust.releases[b] = some r) (reason : Reason) :
    s.Reverts b r (cancelled b reason s) ∧
    s.answersDeciding b ⟨0x16, bayByte b, reason.code⟩ (cancelled b reason s) := by
  have hq := endUnopened_quiet b s
  have hf := answerDeciding_frame b .denyNotReady (bayByte b) reason (endUnopened b s)
  refine ⟨(endUnopened_reverts h).right (cust_of_frame hf), answersDeciding_left (answerDeciding_answers b _ _ _ _) ?_ ?_⟩
  · exact congrArg Acc.transaction (acc_of_frame hq)
  · exact congrArg Outputs.txd (out_of_frame hq)

theorem cancelled_recordKept {s : State} (hq : s.QueueLaw none) {x : Bay}
    (hw : s.psched.records[x].state ≠ .waiting) (b : Bay) (reason : Reason) :
    (cancelled b reason s).psched.records[x] = s.psched.records[x] :=
  (congrArg (fun v : Vector ProvRecord 36 => v[x])
    (records_of_frame (answerDeciding_frame b .denyNotReady (bayByte b) reason (endUnopened b s)))).trans
    (endUnopened_recordKept hq hw b)

theorem minute_of_frame {s t : State} {l : List Part} (h : s.changedOnly l t) (hl : Part.clock ∉ l := by decide) :
    t.minute = s.minute :=
  congrArg (Option.map CartClock.minute) (h .clock hl)

/-- A fill reads the journal, the sequence number and the minute. -/
theorem fillsFree_reads {s t u : State} {k : JournalKind} {b : Bay} {tag : Option Tag} {h : Option Token} {m : Bool}
    (hf : u.fillsFree k b tag h m t) (hj : u.cust.journal = s.cust.journal)
    (hq : u.cust.nextSequence = s.cust.nextSequence) (hm : u.minute = s.minute) (hn : s.nctl.noted u.nctl) :
    s.fillsFree k b tag h m t := by
  have hfree : u.cust.freeEntry = s.cust.freeEntry := by rw [Cust.freeEntry, Cust.freeEntry, hj]
  have hcount : u.cust.freeCount = s.cust.freeCount := by rw [Cust.freeCount, Cust.freeCount, hj]
  rw [State.fillsFree, hj, hq, hm, hfree, hcount, hn.capture 9] at hf
  exact hf

/-! ## A forced opening at CUST (R123, R125) -/

/-- The state in which a forced opening fills its journal entry: a release that waits for its drive is cancelled. -/
def forcedAtCust (b : Bay) (s : State) : State :=
  match s.cust.releases[b] with
  | some r => if r.stage = .latchWait then cancelled b .fault s else s
  | none => s

theorem forcedAtCust_none {b : Bay} {s : State} (h : s.cust.releases[b] = none) : forcedAtCust b s = s := by
  unfold forcedAtCust
  rw [h]

theorem forcedAtCust_some {b : Bay} {s : State} {r : Release} (h : s.cust.releases[b] = some r)
    (hst : r.stage = .latchWait) : forcedAtCust b s = cancelled b .fault s := by
  unfold forcedAtCust
  rw [h]
  exact if_pos hst

theorem fillFree_noted (f : Fill) (s : State) : s.nctl.noted (fillFree f s).nctl := by
  unfold fillFree
  split
  · exact .refl _
  · split
    · unfold journalLow
      split
      · exact raise_noted .journalLow (advanceSequence _)
      · exact .refl s.nctl
    · exact .refl s.nctl

theorem custForced_fills (b : Bay) (s : State) :
    (forcedAtCust b s).fillsFree .forcedOpen b (forcedAtCust b s).bmon[b].tag none false (custForced b s) ∧
    (forcedAtCust b s).changedOnly [.journal, .notices, .counts] (custForced b s) ∧
    (forcedAtCust b s).nctl.noted (custForced b s).nctl := by
  set w := forcedAtCust b s with hw
  have heq : custForced b s =
      custEvent (fun s => fillFree ⟨.forcedOpen, b, (forcedAtCust b s).bmon[b].tag, none, false⟩ (forcedAtCust b s)) s :=
    rfl
  have hfill := fillFree_fills ⟨.forcedOpen, b, w.bmon[b].tag, none, false⟩ w
  have hframe := fillFree_frame ⟨.forcedOpen, b, w.bmon[b].tag, none, false⟩ w
  rw [heq]
  refine ⟨fillsFree_right hfill ?_ ?_ ?_, ?_, ?_⟩
  · rw [custEvent_cust]
  · rw [custEvent_cust]
  · rw [custEvent_nctl]
    exact .refl _
  · exact (hframe.mono (m := [.journal, .notices, .counts]) (by decide)).then (bumpCart_frame _ _)
  · rw [custEvent_nctl]
    exact fillFree_noted _ w

/-- A forced opening at a bay with no release. -/
theorem custForced_none {b : Bay} {s : State} (h : s.cust.releases[b] = none) :
    s.fillsFree .forcedOpen b s.bmon[b].tag none false (custForced b s) ∧
    s.changedOnly [.journal, .notices, .counts] (custForced b s) ∧ s.nctl.noted (custForced b s).nctl := by
  have hfills := custForced_fills b s
  rwa [forcedAtCust_none h] at hfills

/-- A forced opening at a bay whose release waits for its drive. -/
theorem custForced_waiting {b : Bay} {s : State} {r : Release} (h : s.cust.releases[b] = some r)
    (hst : r.stage = .latchWait) {t : State} (ht : t = custForced b s) : t.cust.releases[b] = none ∧
    (∀ (i : Fin 48) (x : CustodyRecord), r.recorded = true → s.cust.slotAt b = some i →
      s.cust.slots[i].record = some x → t.cust.slots[i].record = some (x.toCart b s.minute) ∧
      ∀ k : Fin 48, k ≠ i → t.cust.slots[k] = s.cust.slots[k]) ∧
    (∀ j : Fin 48, r.recorded = true → r.held = some j →
      (s.setJournal j { s.cust.journal[j] with state := .free }).fillsFree .forcedOpen b s.bmon[b].tag none false t) ∧
    (r.recorded = false → s.fillsFree .forcedOpen b s.bmon[b].tag none false t) ∧
    s.answersDeciding b ⟨0x16, bayByte b, 4⟩ t ∧ s.nctl.noted t.nctl ∧
    (s.QueueLaw none → s.psched.records[b].state ≠ .waiting → t.psched.records[b] = s.psched.records[b]) := by
  obtain ⟨hfill, hf, hn⟩ := custForced_fills b s
  rw [forcedAtCust_some h hst, ← ht] at hfill hf hn
  obtain ⟨hrev, hans⟩ := cancelled_reverts h .fault
  have hkept := fun hq hw => cancelled_recordKept (s := s) hq (x := b) hw b .fault
  have hcf := cancelled_frame b .fault s
  generalize cancelled b .fault s = w at *
  have hslots : t.cust.slots = w.cust.slots := hf .custody (by decide)
  have hrel : t.cust.releases = w.cust.releases := hf .releases (by decide)
  have hmin : w.minute = s.minute := minute_of_frame hcf
  have hnctl : w.nctl = s.nctl := nctl_of_frame hcf
  have htag : w.bmon[b].tag = s.bmon[b].tag := (congrArg BayEntry.tag (body_of_frame hcf (by decide) b) :)
  rw [htag] at hfill
  refine ⟨?_, fun i x hrec hi hx => ?_, fun j hrec hj => ?_, fun hrec => ?_, ?_, ?_, fun hq hw => ?_⟩
  · rw [hrel]
    exact hrev.cleared
  · rw [hslots]
    exact hrev.record hrec i x hi hx
  · exact fillsFree_reads hfill (hrev.journal j hrec hj) hrev.sequence hmin (.of_eq hnctl)
  · exact fillsFree_reads hfill (hrev.unrecorded hrec).2 hrev.sequence hmin (.of_eq hnctl)
  · exact answersDeciding_right hans (congrArg Acc.transaction (acc_of_frame hf)) (congrArg Outputs.txd (out_of_frame hf))
  · rw [← hnctl]
    exact hn
  · exact (congrArg (fun v : Vector ProvRecord 36 => v[b]) (records_of_frame hf)).trans (hkept hq hw)

/-! ## The forced opening -/

theorem openClass_forced {b : Bay} {s : State} (hd : s.ldrv.driving b = false)
    (hr : ∀ r : Release, s.cust.releases[b] = some r → r.stage = .latchWait) : s.openClass b = .forced := by
  have hw : s.cust.windowRuns b = false := by
    unfold Cust.windowRuns
    cases h : s.cust.releases[b] with
    | none => rfl
    | some r => simp [hr r h]
  unfold State.openClass
  rw [hd, hw]
  rfl

/-- A session end, or none, as the notices see it. -/
theorem endBayCore_noted (b : Bay) (o : SessionOutcome) (s : State) : s.nctl.noted (endBayCore b o s).nctl := by
  unfold endBayCore
  split
  · split
    · next c _ =>
      cases hx : s.psched.channels[c].session with
      | none => rw [endSessionCore_idle hx]; exact .refl _
      | some x => exact (event_noted _ _).trans (endSessionCore_noted hx o 0)
    · exact .refl _
  · exact .refl _

/-- The state in which CUST takes a forced opening: the door open and classed, FORCED_OPEN raised, the session ended and
the pass taken. -/
def forcedOpening (b : Bay) (s : State) : State :=
  pass (pschedForced b (raise .forcedOpen (cctlDoorOpen b
    (s.setEntry b { s.bmon[b] with door := .opened, doorDebounce := none, lastOpen := some .forced }))))

theorem doorOpens_forced {b : Bay} {s : State} (h : s.openClass b = .forced) :
    doorOpens b s = custForced b (forcedOpening b s) := by
  unfold doorOpens
  rw [h]
  rfl

theorem forcedOpening_frame (b : Bay) (s : State) :
    s.changedOnly (.bays :: .notices :: considerParts) (forcedOpening b s) := by
  refine State.changedOnly.then ?_ (pass_frame _)
  refine State.changedOnly.then ?_ (pschedForced_frame b _)
  refine State.changedOnly.then ?_ (raise_frame .forcedOpen _)
  exact (doorOpened_frame b { s.bmon[b] with door := .opened, doorDebounce := none, lastOpen := some .forced } s
    ⟨rfl, rfl, rfl, rfl⟩).mono (by decide)

theorem forcedOpening_body (b x : Bay) (s : State) : (forcedOpening b s).bmon[x].body = (if x = b then
    { s.bmon[b] with door := .opened, doorDebounce := none, lastOpen := some .forced } else s.bmon[x]).body := by
  set v := s.setEntry b { s.bmon[b] with door := .opened, doorDebounce := none, lastOpen := some .forced } with hv
  have hf : v.changedOnly (.delivery :: .notices :: considerParts) (forcedOpening b s) := by
    refine State.changedOnly.then ?_ (pass_frame _)
    refine State.changedOnly.then ?_ (pschedForced_frame b _)
    refine State.changedOnly.then ?_ (raise_frame .forcedOpen _)
    exact (cctlDoorOpen_frame b v).mono (by decide)
  rw [body_of_frame hf (by decide) x, hv, setEntry_entry]

theorem forcedOpening_noted (b : Bay) (s : State) :
    (s.nctl.event Notice.forcedOpen.index).noted (forcedOpening b s).nctl := by
  set v := cctlDoorOpen b
    (s.setEntry b { s.bmon[b] with door := .opened, doorDebounce := none, lastOpen := some .forced }) with hv
  have hn : v.nctl = s.nctl := by
    rw [hv]
    simp [cctlDoorOpen]
  have hp : (forcedOpening b s).nctl = (endBayCore b .forced (raise .forcedOpen v)).nctl := by
    have heq : forcedOpening b s = pass (pschedEvent (endBayCore b .forced) (raise .forcedOpen v)) := rfl
    rw [heq, pass_nctl, pschedEvent_nctl]
  rw [hp, ← hn]
  exact endBayCore_noted b .forced (raise .forcedOpen v)

theorem forcedOpening_session {b : Bay} {s : State} (hq : s.queueGood) : (forcedOpening b s).QueueLaw none ∧
    (s.psched.records[b].state = .active →
      (forcedOpening b s).psched.records[b] = s.psched.records[b].afterEnd .forced 0) := by
  set v := raise .forcedOpen (cctlDoorOpen b
    (s.setEntry b { s.bmon[b] with door := .opened, doorDebounce := none, lastOpen := some .forced })) with hv
  have hset : (s.setEntry b
      { s.bmon[b] with door := .opened, doorDebounce := none, lastOpen := some .forced }).QueueLaw none :=
    ((queueGood_iff s).mp hq).setEntry_same rfl rfl
  have hvq : v.QueueLaw none := (hset.of_frame (cctlDoorOpen_frame b _)).of_frame (raise_frame .forcedOpen _)
  have hrec : v.psched.records = s.psched.records := by
    rw [hv]
    simp [cctlDoorOpen]
  have heq : forcedOpening b s = pass (pschedEvent (endBayCore b .forced) v) := rfl
  refine ⟨?_, fun ha => ?_⟩
  · rw [heq]
    exact (pschedEvent_queueLaw (endBayCore_queueLaw b .forced hvq)).of_frame (pass_frame _)
  · have hva : v.psched.records[b] = s.psched.records[b] := congrArg (fun v : Vector ProvRecord 36 => v[b]) hrec
    rw [heq, pass_psched, pschedEvent_psched_records, endBayCore_record ((queueGood_iff v).mpr hvq)
      (o := .forced) (by rw [hva]; exact ha) nofun, hva]

/-- Settles O30. -/
theorem forcedOpeningIsReported : Obligations.ForcedOpeningIsReported := by
  intro s b since hpow hq hdoor hpin hdeb hdue hdrive hrel
  obtain ⟨v, hv⟩ : ∃ v, v = forcedOpening b s := ⟨_, rfl⟩
  obtain ⟨t, ht⟩ : ∃ t, t = custForced b v := ⟨_, rfl⟩
  have heq : doorHeld b s = t := by
    rw [ht, hv, ← doorOpens_forced (openClass_forced hdrive hrel)]
    unfold doorHeld
    rw [hdeb, hdoor, hpin]
    exact if_pos ⟨due_some hdue, nofun⟩
  have hpg : t.powerGoodBut none := heq ▸ doorHeld_power ((powerGood_iff s).mp hpow) b
  refine ⟨t, congrArg Host.Outcome.next heq, ?_⟩
  have hset : t.settled := by
    rw [ht, hv]
    exact settled_steady.custForced b (pass_settled _)
  have hcf : v.changedOnly deskParts t := ht ▸ custForced_frame b v
  have hof : s.changedOnly (.bays :: .notices :: considerParts) v := hv ▸ forcedOpening_frame b s
  have hob : ∀ x : Bay, v.bmon[x].body = (if x = b then
      { s.bmon[b] with door := .opened, doorDebounce := none, lastOpen := some .forced } else s.bmon[x]).body :=
    fun x => hv ▸ forcedOpening_body b x s
  have hon : (s.nctl.event Notice.forcedOpen.index).noted v.nctl := hv ▸ forcedOpening_noted b s
  obtain ⟨hoq, hoa⟩ : v.QueueLaw none ∧ (s.psched.records[b].state = .active →
      v.psched.records[b] = s.psched.records[b].afterEnd .forced 0) := hv ▸ forcedOpening_session hq
  clear hv
  have hbody : ∀ x : Bay, t.bmon[x].body = (if x = b then
      { s.bmon[b] with door := .opened, doorDebounce := none, lastOpen := some .forced } else s.bmon[x]).body :=
    fun x => (body_of_frame hcf (by decide) x).trans (hob x)
  have hb := (hbody b).trans (congrArg BayEntry.body (if_pos rfl))
  obtain ⟨hwant, hgrant⟩ := settled_unwanted (b := b) hset (.inl (congrArg BayEntry.door hb :))
  have happ : t.cctl[b].applied = 0 := by
    have h1 := (hpg b).1.1
    have h2 := (hpg b).1.2.1
    omega
  have hcust : v.cust = s.cust := cust_of_frame hof
  have hacc : v.acc = s.acc := acc_of_frame hof
  have hout : v.out = s.out := out_of_frame hof
  have hmin : v.minute = s.minute := minute_of_frame hof
  have hnoted : s.nctl.noted v.nctl := (event_noted _ _).trans hon
  have htag : v.bmon[b].tag = s.bmon[b].tag :=
    (congrArg BayEntry.tag ((hob b).trans (congrArg BayEntry.body (if_pos rfl))) :)
  have hraised : v.nctl.noted t.nctl → s.nctl.sources[(1 : Fin 16)].capture = true →
      t.nctl.sources[(1 : Fin 16)].request = true := fun ht =>
    raised_of_noted .forcedOpen (.refl s.nctl) (hon.trans ht)
  have hended : (v.psched.records[b].state ≠ .waiting → t.psched.records[b] = v.psched.records[b]) →
      s.psched.records[b].state = .active → t.psched.records[b].state = .none ∧
        t.psched.records[b].lastOutcome = some .forced := fun hkept ha => by
    have hve := hoa ha
    rw [hkept (by rw [hve]; nofun), hve]
    exact ⟨rfl, rfl⟩
  have hall := (hof.mono (m := .bays :: deskParts) (by decide)).then hcf
  have hothers : s.otherBays b t := fun x hx => (hbody x).trans (congrArg BayEntry.body (if_neg hx))
  cases hr : s.cust.releases[b] with
  | none =>
    obtain ⟨hfill, hf, hn⟩ := custForced_none (s := v) (b := b) (by rw [hcust]; exact hr)
    rw [← ht] at hfill hf hn
    rw [htag] at hfill
    have hrelease : t.cust.releases[b] = none :=
      (congrArg (fun v : Vector (Option Release) 36 => v[b]) (hf .releases (by decide))).trans (by rw [hcust]; exact hr)
    refine ⟨hb, hothers, hwant, hgrant, happ, hraised hn, hended fun _ => ?_, hrelease, fun _ => ⟨?_, ?_, ?_⟩, nofun,
      hall.mono (by decide)⟩
    · exact congrArg (fun v : Vector ProvRecord 36 => v[b]) (records_of_frame hf)
    · have hslots : t.cust.slots = v.cust.slots := hf .custody (by decide)
      rw [hslots, hcust]
    · exact fillsFree_reads hfill (by rw [hcust]) (by rw [hcust]) hmin hnoted
    · exact (hof.mono (m := .bays :: .journal :: .notices :: considerParts) (by decide)).then hf
  | some r =>
    obtain ⟨h1, h2, h3, h4, h5, h6, h7⟩ := custForced_waiting (s := v) (b := b) (by rw [hcust]; exact hr) (hrel r hr) ht
    obtain ⟨hdec, hsil⟩ := answersDeciding_left (s := s) h5 (by rw [hacc]) (by rw [hout])
    rw [hcust, hmin] at h2
    rw [htag] at h3 h4
    refine ⟨hb, hothers, hwant, hgrant, happ, hraised h6, hended (h7 hoq), h1, nofun, fun y hy => ?_,
      hall.mono (by decide)⟩
    obtain rfl := Option.some.inj hy
    refine ⟨hdec, hsil, h2, fun j hrec hj => ?_, fun hrec => ?_⟩
    · refine fillsFree_reads (h3 j hrec hj) ?_ ?_ ?_ ?_
      · rw [setJournal_cust, setJournal_cust, hcust]
      · rw [setJournal_cust, setJournal_cust, hcust]
      · exact hmin
      · exact hnoted
    · exact fillsFree_reads (h4 hrec) (by rw [hcust]) (by rw [hcust]) hmin hnoted

end Sys2Proof.Machine
end

section
/-! PROOF. A detach (R7, R8, R64, R71), at CUST (R114, R123, R124, R126) and at the other blocks. -/

namespace Sys2Proof.Machine

-- One declaration after the other: the check compiles the whole text within a memory bound.
set_option Elab.async false

/-! ## Entries outside the parts that change -/

theorem entry_of_frame {s t : State} {l : List Part} (h : s.changedOnly l t) (b : Bay)
    (hb : Part.bays ∉ l := by decide) (hp : Part.paths ∉ l := by decide) : t.bmon[b] = s.bmon[b] := by
  have hbody := h .bays hb b
  obtain ⟨h1, h2, h3, h4⟩ := h .paths hp b
  generalize t.bmon[b] = x at *
  generalize s.bmon[b] = y at *
  cases x
  cases y
  simp only [BayEntry.body, BayEntry.mk.injEq] at hbody ⊢
  simp_all

theorem charge_of_frame {s t : State} {l : List Part} (h : s.changedOnly l t) (b : Bay)
    (hc : Part.charge ∉ l := by decide) (hd : Part.delivery ∉ l := by decide) : t.cctl[b] = s.cctl[b] := by
  have hbody := h .charge hc b
  obtain ⟨h1, h2, h3, h4, h5, h6⟩ := h .delivery hd b
  generalize t.cctl[b] = x at *
  generalize s.cctl[b] = y at *
  cases x
  cases y
  simp only [ChargeBay.body, ChargeBay.mk.injEq] at hbody ⊢
  simp_all

/-- A bay that is not watched for a grant keeps its entry and its record through the operations of CUST and LDRV. -/
theorem keptAt_steady {b : Bay} {e : BayEntry} {r : ProvRecord} (he : e.path ≠ .watch) (hr : r.state ≠ .waiting) :
    Steady fun t => t.bmon[b] = e ∧ t.psched.records[b] = r := by
  have hframe : ∀ {s t : State} {l : List Part}, s.changedOnly l t → Part.bays ∉ l → Part.paths ∉ l → Part.prov ∉ l →
      s.bmon[b] = e ∧ s.psched.records[b] = r → t.bmon[b] = e ∧ t.psched.records[b] = r := fun h h1 h2 h3 hs =>
    ⟨(entry_of_frame h b h1 h2).trans hs.1,
      (congrArg (fun v : Vector ProvRecord 36 => v[b]) (records_of_frame h h3)).trans hs.2⟩
  constructor
  · exact fun h hs => hframe h (by decide) (by decide) (by decide) hs
  · intro s hs
    obtain ⟨h1, h2⟩ := consider_untouched (b := b) (s := s) (.inr (by rw [hs.1]; exact he))
    exact ⟨h2.trans hs.1, h1.trans hs.2⟩
  · exact fun n s hs => hframe (reservePass_frame n s) (by decide) (by decide) (by decide) hs
  · exact fun _ hs => hframe (changeRecordAt_frame _ _ _) (by decide) (by decide) (by decide) hs
  · exact fun x t s hs => hframe (((clearBay_frame x (some t) s).mono (by decide)).trans
      ((placeTag_frame x t _).mono (by decide)) (l := [.custody, .journal, .notices])) (by decide) (by decide)
      (by decide) hs
  · intro x s hs
    refine ⟨(entry_of_frame (pschedWithdraw_frame x s) b).trans hs.1, ?_⟩
    unfold pschedWithdraw
    rw [pschedEvent_psched_records]
    by_cases hw : s.psched.records[x].state = .waiting
    · rw [if_pos hw]
      have hx : x ≠ b := fun h => hr (by rw [← hs.2, ← h]; exact hw)
      exact (Vector.getElem_set_ne x.isLt b.isLt fun he => hx (Fin.ext he)).trans hs.2
    · rw [if_neg hw]
      exact hs.2

/-! ## CCTL after a detach (R64) -/

/-- CCTL's entry of bay `b` is OFF with everything but the grant at its reset value. -/
def State.offAt (b : Bay) (s : State) : Prop := ∃ g : Nat, s.cctl[b] = { ChargeBay.reset with grant := g }

/-- A bay that is OFF wants nothing, so no pass starts its ramp. -/
theorem passFrom_offAt {b : Bay} {s : State} (shown : List Byte) (h : s.offAt b) : (passFrom shown s).offAt b := by
  obtain ⟨g, hg⟩ := h
  have hoff : s.cctl[b].state = .off := by rw [hg]; rfl
  have hwant : s.wantOf b (s.tierOf b) = 0 :=
    wantOf_eq_zero (.inr (.inr ⟨by rw [hoff]; nofun, by rw [hoff]; nofun⟩)) _
  have hgrant : s.passed.bays[b].grant = 0 := by
    rw [passed_grant]
    exact grant_eq_zero hwant _ _
  unfold State.offAt
  rw [passFrom_cctl, grantsTaken_charge, hgrant]
  split
  · exact ⟨g, hg⟩
  · refine ⟨0, ?_⟩
    rw [hg]
    simp [ChargeBay.takeGrant, ChargeBay.setApplied, ChargeBay.syncRamp, ChargeBay.reset, runWhile]

theorem offAt_passing (b : Bay) : Passing (State.offAt b) where
  frame h hs := by
    unfold State.offAt
    rw [charge_of_frame h b]
    exact hs
  pass hs := passFrom_offAt _ hs
  reserve r _ hs := passFrom_offAt _ hs

/-! ## PSCHED after a detach (R71) -/

/-- What PSCHED holds of a bay after its detach, and what is left of its data path. -/
structure State.LeftBay (s : State) (b : Bay) (t : State) : Prop where
  state : t.psched.records[b].state = .none
  installed : t.psched.records[b].installed = 0
  outcome : s.psched.records[b].state = .active → t.psched.records[b].lastOutcome = some .removed
  path : t.bmon[b].path = .dark ∧ t.bmon[b].joined = none ∧ t.bmon[b].silence = none ∧ t.bmon[b].faultTimer = none

/-- The end of a session by the removal of its bay, whose entry is EMPTY already. -/
theorem endBayCore_detached {s : State} {b : Bay} (hs : s.QueueLaw (some b)) (he : s.bmon[b].occupancy = .empty)
    (hp : s.bmon[b].path ≠ .joined → s.bmon[b].path = .dark ∧ s.bmon[b].joined = none)
    (ht : s.bmon[b].silence = none ∧ s.bmon[b].faultTimer = none) :
    ((s.psched.records[b].state = .active →
      (endBayCore b .removed s).psched.records[b] = s.psched.records[b].afterEnd .removed 0)) ∧
    (endBayCore b .removed s).bmon[b].path = .dark ∧ (endBayCore b .removed s).bmon[b].joined = none ∧
    (endBayCore b .removed s).bmon[b].silence = none ∧ (endBayCore b .removed s).bmon[b].faultTimer = none := by
  by_cases ha : s.psched.records[b].state = .active
  · obtain ⟨c, x, hx, rfl, heq⟩ := endBayCore_active hs ha
    have hqueue : x.bay ∉ (sessionClosed c x .removed 0 s).psched.queue := by
      rw [sessionClosed_queue, if_neg nofun]
      exact hs.not_mem_of_state (by rw [ha]; nofun)
    obtain ⟨h1, h2⟩ := endSessionCore_settles hx (.inl hqueue)
    have hcut : s.bmon[x.bay].path ≠ .cut := fun hc => by
      have := hp (by rw [hc]; nofun)
      rw [hc] at this
      exact nomatch this.1
    have hdark : s.bmon[x.bay].pathUnjoined = .dark := by
      unfold BayEntry.pathUnjoined
      rw [if_neg hcut, he]
      rfl
    rw [heq .removed, h2]
    exact ⟨fun _ => h1, hdark, rfl, rfl, if_pos hdark⟩
  · have heq : endBayCore b .removed s = s := if_neg ha
    have hj : s.bmon[b].path ≠ .joined := fun hc => ha (hs.joined b hc)
    rw [heq]
    exact ⟨fun h => absurd h ha, (hp hj).1, (hp hj).2, ht⟩

/-- A bay taken out of the queue, with its record NONE and nothing installed. -/
theorem clearCore_installed (b : Bay) (u : State) :
    ((clearCore b u).setProv b { (clearCore b u).psched.records[b] with installed := 0 }).psched.records[b] =
      { u.psched.records[b].toNone with installed := 0 } ∧
    ((clearCore b u).setProv b { (clearCore b u).psched.records[b] with installed := 0 }).bmon = u.bmon ∧
    ((clearCore b u).setProv b { (clearCore b u).psched.records[b] with installed := 0 }).nctl = u.nctl := by
  refine ⟨(Vector.getElem_set_self b.isLt).trans ?_, rfl, rfl⟩
  exact congrArg (fun r : ProvRecord => { r with installed := 0 }) (Vector.getElem_set_self b.isLt)

theorem pschedDetach_rest (b : Bay) (s : State) :
    (pschedDetach b s).psched.records[b] = { (endBayCore b .removed s).psched.records[b].toNone with installed := 0 } ∧
    (pschedDetach b s).bmon = (endBayCore b .removed s).bmon ∧
    (pschedDetach b s).nctl = (endBayCore b .removed s).nctl := by
  obtain ⟨h1, h2, h3⟩ := clearCore_installed b (endBayCore b .removed s)
  unfold pschedDetach
  rw [pschedEvent_psched_records, pschedEvent_bmon, pschedEvent_nctl]
  exact ⟨h1, h2, h3⟩

theorem pschedDetach_leaves {s : State} {b : Bay} (hq : s.queueGood) :
    s.LeftBay b (pschedDetach b (s.setEntry b s.bmon[b].detached)) := by
  set v := s.setEntry b s.bmon[b].detached with hv
  have hentry : v.bmon[b] = s.bmon[b].detached := by rw [hv, setEntry_entry_self]
  have hvq : v.QueueLaw (some b) :=
    ((queueGood_iff s).mp hq).setEntry (fun _ h => absurd rfl h) (fun hp => by
      unfold BayEntry.detached at hp
      dsimp only at hp
      split at hp
      · assumption
      · exact nomatch hp) fun _ _ _ => by simp
  have hpath : v.bmon[b].path ≠ .joined → v.bmon[b].path = .dark ∧ v.bmon[b].joined = none := by
    rw [hentry]
    unfold BayEntry.detached
    dsimp only
    split
    · exact fun h => absurd rfl h
    · exact fun _ => ⟨rfl, rfl⟩
  have hrecv : v.psched.records[b] = s.psched.records[b] := by rw [hv, setEntry_psched]
  obtain ⟨h1, h2⟩ := endBayCore_detached hvq (by rw [hentry]; rfl) hpath (by rw [hentry]; exact ⟨rfl, rfl⟩)
  obtain ⟨hrec, hbmon, -⟩ := pschedDetach_rest b v
  generalize endBayCore b .removed v = u at *
  generalize pschedDetach b v = t at *
  refine ⟨by rw [hrec]; rfl, by rw [hrec], fun ha => ?_, by rw [hbmon]; exact h2⟩
  rw [hrec, h1 (by rw [hrecv]; exact ha)]
  rfl

theorem pschedDetach_noted (b : Bay) (s : State) : s.nctl.noted (pschedDetach b s).nctl := by
  rw [(pschedDetach_rest b s).2.2]
  exact endBayCore_noted b .removed s

/-! ## CCTL and PALLOC after a detach (R8, R64) -/

/-- CCTL and PALLOC take the detach of bay `b`, in either order. -/
def poweredDown (b : Bay) (s : State) : State :=
  eitherOrder (fun t => cctlChange b t.cctl[b].detached t) (pallocDetach b) s

theorem poweredDown_frame (b : Bay) (s : State) :
    s.changedOnly (.choices :: .limits :: .charge :: considerParts) (poweredDown b s) :=
  eitherOrder_frame (fun t => (cctlChange_frame b _ t).mono (by decide))
    (fun t => (pallocDetach_frame b t).mono (by decide)) s

theorem pallocDetach_mark (b : Bay) (s : State) : (pallocDetach b s).palloc.bays[b].toppedMark = false := by
  unfold pallocDetach
  rw [(settings_fields (pass_frame _ .limits (by decide))).2.2 b]
  exact congrArg PowerBay.toppedMark (Vector.getElem_set_self b.isLt)

theorem cctlChange_offAt {b : Bay} (s : State) : (cctlChange b s.cctl[b].detached s).offAt b := by
  have hset : (s.setCharge b s.cctl[b].detached).offAt b := ⟨s.cctl[b].grant, setCharge_charge_self _ _ _⟩
  have hpass := (offAt_passing b).passIfChanged hset
  unfold cctlChange
  dsimp only
  split
  · exact (offAt_passing b).consider hpass
  · exact hpass

theorem pallocDetach_offAt {b : Bay} {s : State} (h : s.offAt b) : (pallocDetach b s).offAt b :=
  (offAt_passing b).pass (s := s.withPalloc _) h

/-- What CCTL and PALLOC leave, whatever their order. -/
theorem poweredDown_leaves (b : Bay) (s : State) : (poweredDown b s).offAt b ∧ s.otherCharges b (poweredDown b s) ∧
    (poweredDown b s).palloc.bays[b].toppedMark = false := by
  have hw := withChoices_frame (s.choices + 1) s
  obtain he | he := eitherOrder_cases (fun t => cctlChange b t.cctl[b].detached t) (pallocDetach b) s
  · unfold poweredDown
    rw [he]
    refine ⟨pallocDetach_offAt (cctlChange_offAt _), ?_, pallocDetach_mark b _⟩
    exact otherCharges_then (cctlChange_charge b _ (s.withChoices (s.choices + 1))).2 (pallocDetach_frame b _)
  · unfold poweredDown
    rw [he]
    set v := pallocDetach b (s.withChoices (s.choices + 1)) with hv
    refine ⟨cctlChange_offAt v, fun x hx => ?_, ?_⟩
    · exact ((cctlChange_charge b _ v).2 x hx).trans
        (((hw.mono (m := [.choices, .limits, .grants, .delivery, .counts]) (by decide)).then
          (pallocDetach_frame b _)) .charge (by decide) x)
    · rw [(settings_fields (cctlChange_frame b v.cctl[b].detached v .limits (by decide))).2.2 b]
      exact pallocDetach_mark b _

/-- CCTL and PALLOC leave the record and the data path of a bay that has left. -/
theorem poweredDown_leftBay {s v : State} {b : Bay} (h : s.LeftBay b v) : s.LeftBay b (poweredDown b v) := by
  obtain ⟨h1, h2, h3, h4⟩ := h
  have hk := keptAt_steady (b := b) (e := v.bmon[b]) (r := v.psched.records[b]) (by rw [h4.1]; nofun) (by rw [h1]; nofun)
  have hkept : (poweredDown b v).bmon[b] = v.bmon[b] ∧ (poweredDown b v).psched.records[b] = v.psched.records[b] := by
    refine hk.eitherOrder (fun t ht => ?_) (fun t ht => ?_) ⟨rfl, rfl⟩
    · have hset : (passIfChanged (t.setCharge b t.cctl[b].detached)).bmon[b] = v.bmon[b] ∧
          (passIfChanged (t.setCharge b t.cctl[b].detached)).psched.records[b] = v.psched.records[b] := by
        have hf := ((setCharge_frame b t.cctl[b].detached t).mono (m := .charge :: passParts) (by decide)).then
          (passIfChanged_frame _)
        exact ⟨(entry_of_frame hf b).trans ht.1,
          (congrArg (fun v : Vector ProvRecord 36 => v[b]) (records_of_frame hf)).trans ht.2⟩
      unfold cctlChange
      dsimp only
      split
      · exact hk.consider hset
      · exact hset
    · have hf := pallocDetach_frame b t
      exact ⟨(entry_of_frame hf b).trans ht.1,
        (congrArg (fun v : Vector ProvRecord 36 => v[b]) (records_of_frame hf)).trans ht.2⟩
  obtain ⟨k1, k2⟩ := hkept
  exact ⟨by rw [k2]; exact h1, by rw [k2]; exact h2, by rw [k2]; exact h3, by rw [k1]; exact h4⟩

theorem custDetach_leftBay {s v : State} {b : Bay} (h : s.LeftBay b v) (tag : Option Tag) :
    s.LeftBay b (custDetach b tag v) := by
  obtain ⟨h1, h2, h3, h4⟩ := h
  have hk := keptAt_steady (b := b) (e := v.bmon[b]) (r := v.psched.records[b]) (by rw [h4.1]; nofun) (by rw [h1]; nofun)
  obtain ⟨k1, k2⟩ := hk.custDetach b tag ⟨rfl, rfl⟩
  exact ⟨by rw [k2]; exact h1, by rw [k2]; exact h2, by rw [k2]; exact h3, by rw [k1]; exact h4⟩

end Sys2Proof.Machine
end

section
/-! PROOF. A detach at CUST (R114, R123, R124, R126), and the detach as a whole (R7, R8, R64, R71). -/

namespace Sys2Proof.Machine

-- One declaration after the other: the check compiles the whole text within a memory bound.
set_option Elab.async false

/-! ## A removal without an opened release (R126) -/

theorem custRemoval_removes {s : State} {b : Bay} {i : Fin 48} {x : CustodyRecord} (hi : s.cust.slotAt b = some i)
    (hx : s.cust.slots[i].record = some x) :
    (∀ j : Fin 48, j ≠ i → (custRemoval b s).cust.slots[j] = s.cust.slots[j]) ∧
    (s.bmon[b].door = .opened → (custRemoval b s).cust.slots[i].record = some (x.leave .missing b none s.minute)) ∧
    (s.bmon[b].door = .closed → (custRemoval b s).cust.slots = s.cust.slots) := by
  unfold custRemoval
  by_cases hd : s.bmon[b].door = .opened
  · obtain ⟨h1, h2⟩ := changeRecordAt_changes b (fun x => x.leave .missing b none s.minute) s i x hi hx
    rw [if_pos ⟨hd, by rw [hi]; rfl⟩, consider_cust]
    exact ⟨h2, fun _ => h1, fun hc => absurd (hd.symm.trans hc) nofun⟩
  · rw [if_neg fun h => hd h.1]
    exact ⟨fun _ _ => rfl, fun hc => absurd hc hd, fun _ => rfl⟩

theorem custRemoval_quiet (b : Bay) (s : State) : s.changedOnly (.custody :: considerParts) (custRemoval b s) := by
  unfold custRemoval
  split
  · exact ((changeRecordAt_frame b _ s).mono (by decide)).then (consider_frame _)
  · exact .refl s _

/-! ## The completion of a release (R124) -/

/-- `t` holds what the completion of release `r` of bay `b` leaves of `s`. -/
structure State.Completes (s : State) (b : Bay) (r : Release) (tag : Option Tag) (t : State) : Prop where
  release : t.cust.releases[b] = none
  raised : s.nctl.sources[(8 : Fin 16)].capture = true → t.nctl.sources[(8 : Fin 16)].request = true
  silent : t.acc = s.acc ∧ t.out = s.out
  record : r.recorded = true → s.changesRecordAt b (fun x => x.leave .out b r.holder s.minute) t
  entry : ∀ (i : Fin 48) (x : CustodyRecord) (j : Fin 48), s.cust.slotAt b = some i → s.cust.slots[i].record = some x →
    r.recorded = true → r.held = some j → s.cust.nextSequence < 4294967295 →
    t.cust.nextSequence = s.cust.nextSequence + 1 ∧
    t.cust.journal = s.cust.journal.set j
      (Fill.entry ⟨r.kind.journalKind, b, some x.tag, r.holder, false⟩ s.cust.nextSequence s.minute)
  unrecorded : r.recorded = false → t.cust.slots = s.cust.slots ∧ s.fillsFree .staffRelease b tag r.holder false t

/-- The journal entry of a completed release, before the release is closed. -/
def completionFilled (b : Bay) (r : Release) (tag : Option Tag) (s : State) : State :=
  if r.recorded then
    match r.held with
    | some j => fillHeld j ⟨r.kind.journalKind, b, (s.cust.recordAt b).map CustodyRecord.tag, r.holder, false⟩
        (changeRecordAt b (fun x => x.leave .out b r.holder s.minute) s)
    | none => changeRecordAt b (fun x => x.leave .out b r.holder s.minute) s
  else fillFree ⟨.staffRelease, b, tag, r.holder, false⟩ s

theorem completeRelease_eq (b : Bay) (r : Release) (tag : Option Tag) (s : State) : completeRelease b r tag s =
    consider (raise .checkout ((completionFilled b r tag s).setRelease b none)) := rfl

theorem completionFilled_frame (b : Bay) (r : Release) (tag : Option Tag) (s : State) :
    s.changedOnly [.custody, .journal, .notices] (completionFilled b r tag s) := by
  unfold completionFilled
  split
  · have hc := (changeRecordAt_frame b (fun x => x.leave .out b r.holder s.minute) s).mono
      (m := [.custody, .journal, .notices]) (by decide)
    split
    · exact hc.then (fillHeld_frame _ _ _)
    · exact hc
  · exact (fillFree_frame _ s).mono (by decide)

theorem completionFilled_noted (b : Bay) (r : Release) (tag : Option Tag) (s : State) :
    s.nctl.noted (completionFilled b r tag s).nctl := by
  unfold completionFilled
  split
  · have hc := nctl_of_frame (changeRecordAt_frame b (fun x => x.leave .out b r.holder s.minute) s)
    split
    · exact .of_eq ((nctl_of_frame (fillHeld_frame _ _ _)).trans hc)
    · exact .of_eq hc
  · exact fillFree_noted _ s

theorem fillHeld_fills {s : State} (h : s.cust.nextSequence < 4294967295) (j : Fin 48) (f : Fill) :
    (fillHeld j f s).cust.nextSequence = s.cust.nextSequence + 1 ∧
    (fillHeld j f s).cust.journal = s.cust.journal.set j (f.entry s.cust.nextSequence s.minute) := by
  have hne : ¬s.cust.nextSequence = Config.lastSequence := fun he => by
    rw [he] at h
    exact absurd h (by decide)
  unfold fillHeld
  rw [if_neg hne]
  exact ⟨rfl, rfl⟩

theorem completeRelease_completes (b : Bay) (r : Release) (tag : Option Tag) (s : State) :
    s.Completes b r tag (completeRelease b r tag s) := by
  have hf := completionFilled_frame b r tag s
  have hn := completionFilled_noted b r tag s
  set v := completionFilled b r tag s with hv
  have hcust : (completeRelease b r tag s).cust = { v.cust with releases := v.cust.releases.set b none } := by
    rw [completeRelease_eq, consider_cust, raise_cust, setRelease_cust]
  have hsilent : (completeRelease b r tag s).acc = s.acc ∧ (completeRelease b r tag s).out = s.out := by
    rw [completeRelease_eq, consider_acc, consider_out, raise_acc, raise_out, setRelease_acc, setRelease_out]
    exact ⟨acc_of_frame hf, out_of_frame hf⟩
  have hnctl : (completeRelease b r tag s).nctl = v.nctl.event Notice.checkout.index := by
    rw [completeRelease_eq, consider_nctl, raise_nctl, setRelease_nctl]
  obtain ⟨hcj, hcq, -⟩ := changeRecordAt_rest b (fun x => x.leave .out b r.holder s.minute) s
  have hcm : (changeRecordAt b (fun x => x.leave .out b r.holder s.minute) s).minute = s.minute :=
    minute_of_frame (changeRecordAt_frame b _ s)
  refine ⟨by rw [hcust]; exact Vector.getElem_set_self b.isLt, fun hc => ?_, hsilent, fun hrec => ?_,
    fun i x j hi hx hrec hj hseq => ?_, fun hrec => ?_⟩
  · exact raised_of_noted .checkout hn (.of_eq hnctl) hc
  · have hslots : v.cust.slots = (changeRecordAt b (fun x => x.leave .out b r.holder s.minute) s).cust.slots := by
      rw [hv]
      unfold completionFilled
      rw [if_pos hrec]
      split
      · exact fillHeld_frame _ _ _ .custody (by decide)
      · rfl
    have hch := changeRecordAt_changes b (fun x => x.leave .out b r.holder s.minute) s
    simpa only [State.changesRecordAt, hcust, hslots] using hch
  · have hve : v = fillHeld j ⟨r.kind.journalKind, b, some x.tag, r.holder, false⟩
        (changeRecordAt b (fun x => x.leave .out b r.holder s.minute) s) := by
      rw [hv]
      unfold completionFilled
      rw [if_pos hrec, hj, recordAt_eq hi hx]
      rfl
    obtain ⟨h1, h2⟩ := fillHeld_fills (s := changeRecordAt b (fun x => x.leave .out b r.holder s.minute) s)
      (by rw [hcq]; exact hseq) j ⟨r.kind.journalKind, b, some x.tag, r.holder, false⟩
    rw [hcust, hve]
    exact ⟨h1.trans (by rw [hcq]), h2.trans (by rw [hcj, hcq, hcm])⟩
  · have hve : v = fillFree ⟨.staffRelease, b, tag, r.holder, false⟩ s := by
      rw [hv]
      unfold completionFilled
      rw [hrec]
      rfl
    have hslots : v.cust.slots = s.cust.slots := by
      rw [hve]
      exact fillFree_frame _ s .custody (by decide)
    have hfill := fillFree_fills ⟨.staffRelease, b, tag, r.holder, false⟩ s
    rw [← hve] at hfill
    refine ⟨by rw [hcust]; exact hslots, fillsFree_right hfill (by rw [hcust]) (by rw [hcust]) ?_⟩
    rw [hnctl]
    exact event_noted _ _

/-! ## A detach at CUST -/

/-- What CUST does with a detach, before the updates of its event. -/
def detachedAtCust (b : Bay) (tag : Option Tag) (s : State) : State :=
  match s.cust.releases[b] with
  | some r => if r.stage = .opened then completeRelease b r tag s else custRemoval b (cancelled b .empty s)
  | none => custRemoval b s

theorem custDetach_eq (b : Bay) (tag : Option Tag) (s : State) :
    custDetach b tag s = custEvent (detachedAtCust b tag) s := rfl

theorem detachedAtCust_cases (b : Bay) (tag : Option Tag) (s : State) :
    (s.cust.releases[b] = none → detachedAtCust b tag s = custRemoval b s) ∧
    (∀ r : Release, s.cust.releases[b] = some r → r.stage = .opened →
      detachedAtCust b tag s = completeRelease b r tag s) ∧
    (∀ r : Release, s.cust.releases[b] = some r → r.stage = .latchWait ∨ r.stage = .window →
      detachedAtCust b tag s = custRemoval b (cancelled b .empty s)) := by
  unfold detachedAtCust
  refine ⟨fun h => ?_, fun r h hst => ?_, fun r h hst => ?_⟩ <;> rw [h]
  · exact if_pos hst
  · exact if_neg fun ho => by rw [ho] at hst; exact hst.elim nofun nofun

/-- What CUST makes of a detach in LATCH_WAIT or WINDOW (R114, R123, R126). -/
theorem detachedAtCust_waiting {s : State} {b : Bay} {r : Release} (tag : Option Tag)
    (h : s.cust.releases[b] = some r) (hst : r.stage = .latchWait ∨ r.stage = .window) {t : State}
    (ht : t = detachedAtCust b tag s) : t.cust.releases[b] = none ∧
    s.answersDeciding b ⟨0x16, bayByte b, 1⟩ t ∧
    (∀ (i : Fin 48) (x : CustodyRecord), s.cust.slotAt b = some i → s.cust.slots[i].record = some x →
      (∀ k : Fin 48, k ≠ i → t.cust.slots[k] = s.cust.slots[k]) ∧
      (r.recorded = true → (s.bmon[b].door = .closed → t.cust.slots[i].record = some (x.toCart b s.minute)) ∧
        (s.bmon[b].door = .opened → t.cust.slots[i].record =
          some ((x.toCart b s.minute).leave .missing b none s.minute)))) ∧
    (∀ j : Fin 48, r.recorded = true → r.held = some j →
      t.cust.journal = s.cust.journal.set j { s.cust.journal[j] with state := .free }) ∧
    t.cust.nextSequence = s.cust.nextSequence := by
  rw [(detachedAtCust_cases b tag s).2.2 r h hst] at ht
  obtain ⟨hrev, hans⟩ := cancelled_reverts h .empty
  have hcf := cancelled_frame b .empty s
  generalize cancelled b .empty s = w at *
  have hf : w.changedOnly (.custody :: considerParts) t := ht ▸ custRemoval_quiet b w
  have hdoor : w.bmon[b].door = s.bmon[b].door := (congrArg BayEntry.door (body_of_frame hcf (by decide) b) :)
  have hmin : w.minute = s.minute := minute_of_frame hcf
  have hrel : t.cust.releases = w.cust.releases := hf .releases (by decide)
  have hjournal : t.cust.journal = w.cust.journal ∧ t.cust.nextSequence = w.cust.nextSequence := hf .journal (by decide)
  refine ⟨by rw [hrel]; exact hrev.cleared, answersDeciding_right hans (congrArg Acc.transaction (acc_of_frame hf))
    (congrArg Outputs.txd (out_of_frame hf)), fun i x hi hx => ?_, fun j hrec hj => ?_, ?_⟩
  · cases hrec : r.recorded with
    | false =>
      have hw := (hrev.unrecorded hrec).1
      have hwi : w.cust.slotAt b = some i := by
        rw [← hi]
        unfold Cust.slotAt
        rw [hw]
      obtain ⟨h1, -, -⟩ := custRemoval_removes hwi (x := x) (by rw [hw]; exact hx)
      rw [← ht] at h1
      exact ⟨fun k hk => (h1 k hk).trans (by rw [hw]), nofun⟩
    | true =>
      obtain ⟨hself, hothers⟩ := hrev.record hrec i x hi hx
      have hloc : (x.toCart b s.minute).locatedAt b = true := (locatedAt_iff _ _).mpr ⟨.inl rfl, rfl⟩
      obtain ⟨h1, h2, h3⟩ := custRemoval_removes (slotAt_changed hi hself hloc hothers) hself
      rw [← ht, hdoor, hmin] at h2
      rw [← ht] at h1
      rw [← ht, hdoor] at h3
      exact ⟨fun k hk => (h1 k hk).trans (hothers k hk), fun _ => ⟨fun hc => by rw [h3 hc]; exact hself, h2⟩⟩
  · exact hjournal.1.trans (hrev.journal j hrec hj)
  · exact hjournal.2.trans hrev.sequence

/-- A detach closes any release of its bay, and touches no custody slot but that of the bay. -/
theorem detachedAtCust_others (b : Bay) (tag : Option Tag) (s : State) :
    (detachedAtCust b tag s).cust.releases[b] = none ∧
    ∀ (i : Fin 48) (x : CustodyRecord), s.cust.slotAt b = some i → s.cust.slots[i].record = some x →
      ∀ j : Fin 48, j ≠ i → (detachedAtCust b tag s).cust.slots[j] = s.cust.slots[j] := by
  obtain ⟨hnone, hopened, -⟩ := detachedAtCust_cases b tag s
  cases hr : s.cust.releases[b] with
  | none =>
    have hf := custRemoval_quiet b s
    have hrel : (custRemoval b s).cust.releases = s.cust.releases := hf .releases (by decide)
    rw [hnone hr]
    exact ⟨(congrArg (fun v : Vector (Option Release) 36 => v[b]) hrel).trans hr,
      fun i x hi hx => (custRemoval_removes hi hx).1⟩
  | some r =>
    by_cases hst : r.stage = .opened
    · have hdone := completeRelease_completes b r tag s
      rw [hopened r hr hst]
      refine ⟨hdone.release, fun i x hi hx j hj => ?_⟩
      cases hrec : r.recorded with
      | true => exact (hdone.record hrec i x hi hx).2 j hj
      | false => rw [(hdone.unrecorded hrec).1]
    · have hwait : r.stage = .latchWait ∨ r.stage = .window := by
        cases hs : r.stage with
        | latchWait => exact .inl rfl
        | window => exact .inr rfl
        | opened => exact absurd hs hst
      obtain ⟨h1, -, h3, -⟩ := detachedAtCust_waiting tag hr hwait rfl
      exact ⟨h1, fun i x hi hx => (h3 i x hi hx).1⟩

/-! ## The detach -/

/-- The state in which CUST takes a detach. -/
def scheduledOff (b : Bay) (s : State) : State := pschedDetach b (s.setEntry b s.bmon[b].detached)

theorem scheduledOff_rest (b : Bay) (s : State) : (scheduledOff b s).cust = s.cust ∧ (scheduledOff b s).acc = s.acc ∧
    (scheduledOff b s).out = s.out ∧ (scheduledOff b s).ldrv = s.ldrv ∧ (scheduledOff b s).minute = s.minute ∧
    s.nctl.noted (scheduledOff b s).nctl ∧
    ∀ x : Bay, (scheduledOff b s).bmon[x].body = (if x = b then s.bmon[b].detached else s.bmon[x]).body := by
  set v := s.setEntry b s.bmon[b].detached with hv
  have hf : v.changedOnly endParts (scheduledOff b s) := pschedDetach_frame b v
  have hn : v.nctl.noted (scheduledOff b s).nctl := pschedDetach_noted b v
  have hvn : v.nctl = s.nctl := by rw [hv, setEntry_nctl]
  refine ⟨(cust_of_frame hf).trans (by rw [hv, setEntry_cust]), (acc_of_frame hf).trans (by rw [hv, setEntry_acc]),
    (out_of_frame hf).trans (by rw [hv, setEntry_out]), (ldrv_of_frame hf).trans (by rw [hv, setEntry_ldrv]),
    minute_of_frame ((setEntry_frame b s.bmon[b].detached s).mono (m := .bays :: endParts) (by decide) |>.then hf),
    hvn ▸ hn, fun x => ?_⟩
  rw [body_of_frame hf (by decide) x, hv, setEntry_entry]

theorem detachBay_eq {b : Bay} {s : State} (ho : s.bmon[b].occupancy ≠ .empty)
    (hd : due s.bmon[b].presenceDebounce Config.presenceHold s.now = true) :
    detachBay b s = poweredDown b (custDetach b s.bmon[b].tag (scheduledOff b s)) :=
  if_pos ⟨ho, hd⟩

/-- What CUST's detach is at the end of the whole. -/
theorem poweredDown_cust (b : Bay) (tag : Option Tag) (s : State) :
    (poweredDown b (custDetach b tag s)).cust = (detachedAtCust b tag s).cust ∧
    (poweredDown b (custDetach b tag s)).acc = (detachedAtCust b tag s).acc ∧
    (poweredDown b (custDetach b tag s)).out = (detachedAtCust b tag s).out ∧
    (poweredDown b (custDetach b tag s)).nctl = (detachedAtCust b tag s).nctl ∧
    (poweredDown b (custDetach b tag s)).ldrv = s.ldrv := by
  have hf := poweredDown_frame b (custDetach b tag s)
  refine ⟨(cust_of_frame hf).trans ?_, (acc_of_frame hf).trans ?_, (out_of_frame hf).trans ?_,
    (nctl_of_frame hf).trans ?_, (ldrv_of_frame hf).trans (ldrv_of_frame (custDetach_frame b tag s))⟩
  · rw [custDetach_eq, custEvent_cust]
  · rw [custDetach_eq, custEvent_acc]
  · rw [custDetach_eq, custEvent_out]
  · rw [custDetach_eq, custEvent_nctl]

theorem poweredDown_settled (b : Bay) (s : State) : (poweredDown b s).settled := by
  unfold poweredDown
  obtain he | he := eitherOrder_cases (fun t => cctlChange b t.cctl[b].detached t) (pallocDetach b) s
  · rw [he]
    exact pass_settled _
  · rw [he]
    exact cctlChange_settled b _ (settled_passGood (pass_settled _))

/-- The bay, its power and its provisioning after a detach. -/
theorem detachBay_empties {s t : State} {b : Bay} (hq : s.queueGood) (hp : s.powerGood)
    (ho : s.bmon[b].occupancy ≠ .empty) (hd : due s.bmon[b].presenceDebounce Config.presenceHold s.now = true)
    (ht : t = detachBay b s) : s.LeftBay b t ∧ b ∉ t.psched.queue ∧
    (∀ x : Bay, t.bmon[x].body = (if x = b then s.bmon[b].detached else s.bmon[x]).body) ∧
    t.cctl[b] = ChargeBay.reset ∧ s.otherCharges b t ∧ t.palloc.bays[b].toppedMark = false ∧
    t.palloc.bays[b].want = 0 ∧ t.palloc.bays[b].grant = 0 := by
  have heq := ht.trans (detachBay_eq ho hd)
  obtain ⟨-, -, -, -, -, -, hbody⟩ := scheduledOff_rest b s
  have hleft : s.LeftBay b t := heq ▸ poweredDown_leftBay (custDetach_leftBay (pschedDetach_leaves hq) _)
  have hset : t.settled := heq ▸ poweredDown_settled b _
  have hpow : t.powerGoodBut none := ht ▸ detachBay_power ((powerGood_iff s).mp hp) b
  have hql : t.QueueLaw none := ht ▸ detachBay_queueLaw ((queueGood_iff s).mp hq) b
  obtain ⟨⟨g, hg⟩, hothers, hmark⟩ := poweredDown_leaves b (custDetach b s.bmon[b].tag (scheduledOff b s))
  have hcf := custDetach_frame b s.bmon[b].tag (scheduledOff b s)
  have hpf := poweredDown_frame b (custDetach b s.bmon[b].tag (scheduledOff b s))
  rw [← heq] at hg hothers hmark hpf
  have hall : ∀ x : Bay, t.bmon[x].body = (if x = b then s.bmon[b].detached else s.bmon[x]).body := fun x =>
    ((body_of_frame hpf (by decide) x).trans (body_of_frame hcf (by decide) x)).trans (hbody x)
  obtain ⟨hwant, hgrant⟩ := settled_unwanted (b := b) hset (.inr (by rw [hg]; exact ⟨nofun, nofun⟩))
  have hzero : g = 0 := by
    have h := (hpow b).1.2.1
    rw [hg, hgrant] at h
    exact h
  have hsf : s.changedOnly (.bays :: .paths :: endParts) (scheduledOff b s) :=
    ((setEntry_frame b s.bmon[b].detached s).mono (by decide)).then (pschedDetach_frame b _)
  refine ⟨hleft, hql.not_mem_of_state (by rw [hleft.state]; nofun), hall, by rw [hg, hzero]; rfl, fun x hx => ?_, hmark,
    hwant, hgrant⟩
  exact (hothers x hx).trans ((hcf .charge (by decide) x).trans (hsf .charge (by decide) x))

theorem doorOfBody {e f : BayEntry} (h : e.body = f.detached.body) : e.door = f.door :=
  (congrArg BayEntry.door h :)

/-- The state `v` in which CUST takes a detach, and the state `w` that it makes of it, as the detach ends. -/
theorem detachBay_custody {s t : State} {b : Bay} (ho : s.bmon[b].occupancy ≠ .empty)
    (hd : due s.bmon[b].presenceDebounce Config.presenceHold s.now = true) (ht : t = detachBay b s) :
    ∃ v w : State, v = scheduledOff b s ∧ w = detachedAtCust b s.bmon[b].tag v ∧ t.cust = w.cust ∧ t.acc = w.acc ∧
      t.out = w.out ∧ t.nctl = w.nctl ∧ t.ldrv = s.ldrv ∧ v.cust = s.cust ∧ v.acc = s.acc ∧ v.out = s.out ∧
      v.minute = s.minute ∧ s.nctl.noted v.nctl ∧ v.bmon[b].door = s.bmon[b].door := by
  obtain ⟨v1, v2, v3, v4, v5, v6, v7⟩ := scheduledOff_rest b s
  obtain ⟨p1, p2, p3, p4, p5⟩ := poweredDown_cust b s.bmon[b].tag (scheduledOff b s)
  rw [← detachBay_eq ho hd, ← ht] at p1 p2 p3 p4 p5
  have hdoor := doorOfBody ((v7 b).trans (congrArg BayEntry.body (if_pos rfl)))
  exact ⟨_, _, rfl, rfl, p1, p2, p3, p4, p5.trans v4, v1, v2, v3, v5, v6, hdoor⟩

/-- Settles O27. -/
theorem detachEmptiesTheBay : Obligations.DetachEmptiesTheBay := by
  refine ⟨fun s b since hq hp ho hd hdue => ?_, fun s b i x since ho hd hdue hi hx => ?_,
    fun s b r since ho hd hdue hr => ?_⟩
  · have hdue' : due s.bmon[b].presenceDebounce Config.presenceHold s.now = true := by rw [hd]; exact due_some hdue
    obtain ⟨t, ht⟩ : ∃ t, t = detachBay b s := ⟨_, rfl⟩
    obtain ⟨⟨l1, l2, l3, l4, l5, l6, l7⟩, hqueue, hbody, h1, h2, h3, h4, h5⟩ := detachBay_empties hq hp ho hdue' ht
    have hrel : t.cust.releases[b] = none := by
      rw [ht, detachBay_eq ho hdue']
      exact (congrArg (fun c : Cust => c.releases[b]) (poweredDown_cust b _ _).1).trans (detachedAtCust_others b _ _).1
    have hfr : s.changedOnly detachParts t := ht ▸ detachBay_frame b s
    exact ⟨t, congrArg Host.Outcome.next ht.symm, (hbody b).trans (congrArg BayEntry.body (if_pos rfl)),
      fun x hx => (hbody x).trans (congrArg BayEntry.body (if_neg hx)), l5, l6, l7, l4, h1, h2, h3, h4, h5, l1, l2,
      hqueue, l3, hrel, hfr.mono (by decide)⟩
  · have hdue' : due s.bmon[b].presenceDebounce Config.presenceHold s.now = true := by rw [hd]; exact due_some hdue
    obtain ⟨t, ht⟩ : ∃ t, t = detachBay b s := ⟨_, rfl⟩
    obtain ⟨v, w, hv, hw, c1, -, -, c4, -, v1, -, -, v4, v5, hdoor⟩ := detachBay_custody ho hdue' ht
    have hothers := (detachedAtCust_others b s.bmon[b].tag v).2 i x (by rw [v1]; exact hi) (by rw [v1]; exact hx)
    obtain ⟨hnone, hopened, -⟩ := detachedAtCust_cases b s.bmon[b].tag v
    rw [← hw, ← c1, v1] at hothers
    refine ⟨t, congrArg Host.Outcome.next ht.symm, hothers, fun r hr hst hrec => ?_, fun hr hdo => ?_, fun hr hdc => ?_⟩
    · have hdone := completeRelease_completes b r s.bmon[b].tag v
      rw [← hopened r (by rw [v1]; exact hr) hst, ← hw] at hdone
      have hrecord := (hdone.record hrec i x (by rw [v1]; exact hi) (by rw [v1]; exact hx)).1
      have hentry := fun j => hdone.entry i x j (by rw [v1]; exact hi) (by rw [v1]; exact hx) hrec
      rw [← c1, v4] at hrecord
      rw [← c1, v1, v4] at hentry
      refine ⟨hrecord, by rw [c1]; exact hdone.release, fun hc => ?_, fun j hj hseq => hentry j hj hseq⟩
      rw [c4]
      exact hdone.raised ((v5.capture 8).trans hc)
    · obtain ⟨-, h2, -⟩ := custRemoval_removes (s := v) (b := b) (i := i) (x := x) (by rw [v1]; exact hi) (by rw [v1]; exact hx)
      have hf := custRemoval_quiet b v
      rw [← hnone (by rw [v1]; exact hr), ← hw] at h2 hf
      have hjournal : w.cust.journal = v.cust.journal := (hf .journal (by decide)).1
      rw [c1, hjournal, v1, h2 (hdoor.trans hdo), v4]
      exact ⟨rfl, rfl⟩
    · obtain ⟨-, -, h3⟩ := custRemoval_removes (s := v) (b := b) (i := i) (x := x) (by rw [v1]; exact hi) (by rw [v1]; exact hx)
      have hf := custRemoval_quiet b v
      rw [← hnone (by rw [v1]; exact hr), ← hw] at h3 hf
      have hjournal : w.cust.journal = v.cust.journal := (hf .journal (by decide)).1
      rw [c1, hjournal, h3 (hdoor.trans hdc), v1]
      exact ⟨rfl, rfl⟩
  · have hdue' : due s.bmon[b].presenceDebounce Config.presenceHold s.now = true := by rw [hd]; exact due_some hdue
    obtain ⟨t, ht⟩ : ∃ t, t = detachBay b s := ⟨_, rfl⟩
    obtain ⟨v, w, hv, hw, c1, c2, c3, c4, c5, v1, v2, v3, v4, v5, hdoor⟩ := detachBay_custody ho hdue' ht
    have hrv : v.cust.releases[b] = some r := by rw [v1]; exact hr
    have hrel : t.cust.releases[b] = none := by
      rw [c1, hw]
      exact (detachedAtCust_others b _ v).1
    refine ⟨t, congrArg Host.Outcome.next ht.symm, hrel, c5, fun hst => ?_, fun hst hrec => ?_⟩
    · obtain ⟨-, hans, hslots, hjournal, hseq⟩ := detachedAtCust_waiting s.bmon[b].tag hrv hst hw
      obtain ⟨hdec, hsil⟩ := answersDeciding_left (s := s) (answersDeciding_right (u := t) hans (by rw [c2]) (by rw [c3]))
        (by rw [v2]) (by rw [v3])
      rw [v1, v4, hdoor, ← c1] at hslots
      rw [v1, ← c1] at hjournal hseq
      refine ⟨hdec, hsil, fun i x hrec hi hx => ?_, hjournal, hseq⟩
      obtain ⟨hothers, hself⟩ := hslots i x hi hx
      exact ⟨hothers, hself hrec⟩
    · have hdone := completeRelease_completes b r s.bmon[b].tag v
      rw [← (detachedAtCust_cases b s.bmon[b].tag v).2.1 r hrv hst, ← hw] at hdone
      obtain ⟨hslots, hfill⟩ := hdone.unrecorded hrec
      obtain ⟨ha, hout⟩ := hdone.silent
      refine ⟨by rw [c1, hslots, v1], by rw [c2, ha, v2], by rw [c3, hout, v3], ?_, fun hc => ?_⟩
      · refine fillsFree_reads (fillsFree_right (u := t) hfill (by rw [c1]) (by rw [c1]) (.of_eq c4)) ?_ ?_ v4 v5
        · rw [v1]
        · rw [v1]
      · rw [c4]
        exact hdone.raised ((v5.capture 8).trans hc)

end Sys2Proof.Machine
end

section
/-! PROOF. A tag read that places its tablet (R3, R4, R9, R70, R127, R128). -/

namespace Sys2Proof.Machine

-- One declaration after the other: the check compiles the whole text within a memory bound.
set_option Elab.async false

/-! ## Considerations and bays that may not be joined -/

theorem considerCore_notQueued {b : Bay} {s : State} (h : b ∉ s.psched.queue) : b ∉ (considerCore s).psched.queue := by
  have hscan : ∀ (n : Nat) (s : State), b ∉ s.psched.queue → b ∉ (scanCore n s).psched.queue := fun n => by
    induction n with
    | zero => exact fun s h => h
    | succ n ih =>
      intro s h
      obtain ⟨c, x, -, -, he⟩ | ⟨-, he⟩ := scanCore_cases n s <;> rw [he]
      · refine ih _ ?_
        rw [grantCore_eq, pass_psched, granted_queue]
        exact fun hm => h (List.mem_filter.mp hm).1
      · exact h
  unfold considerCore
  split
  · exact h
  · exact hscan 4 s h

/-- A consideration leaves the entry of a bay that is not PRESENT. -/
theorem consider_absent {b : Bay} {s : State} (h : s.bmon[b].occupancy ≠ .present) :
    (consider s).bmon[b] = s.bmon[b] := by
  have hscan : ∀ (n : Nat) (s : State), s.bmon[b].occupancy ≠ .present → (scanCore n s).bmon[b] = s.bmon[b] := fun n => by
    induction n with
    | zero => exact fun s _ => rfl
    | succ n ih =>
      intro s h
      obtain ⟨c, x, -, hx, he⟩ | ⟨-, he⟩ := scanCore_cases n s <;> rw [he]
      have hne : b ≠ x := fun hb => h (eligible_present (hb ▸ List.find?_some hx))
      have hkept := grantCore_entry (c := c) hne s
      rw [ih _ (by rw [hkept]; exact h), hkept]
  unfold consider
  rw [pschedEvent_bmon]
  unfold considerCore
  split
  · rfl
  · exact hscan 4 s h

/-! ## The clearing of a bay, for the tag that is read (R127) -/

/-- What the clearing of bay `b` for tag `t` leaves of `s`: the records of the tag, the free slots and the journal. -/
structure State.ClearedFor (s : State) (b : Bay) (t : Tag) (u : State) : Prop where
  missing : ∀ (i : Fin 48) (x : CustodyRecord), s.cust.slotAt b = some i → s.cust.slots[i].record = some x →
    x.tag ≠ t → u.cust.slots[i].record = some (x.leave .missing b none s.minute)
  kept : ∀ k : Fin 48, (s.cust.slots[k].record = none ∨ ∃ x : CustodyRecord, s.cust.slots[k].record = some x ∧ x.tag = t) →
    u.cust.slots[k] = s.cust.slots[k]
  free : u.cust.freeSlot = s.cust.freeSlot
  slot : u.cust.slotOf t = s.cust.slotOf t
  journal : u.cust.journal = s.cust.journal ∧ u.cust.nextSequence = s.cust.nextSequence
  minute : u.minute = s.minute
  nctl : u.nctl = s.nctl

theorem clearBay_cleared (b : Bay) (t : Tag) (s : State) : s.ClearedFor b t (clearBay b (some t) s) := by
  have hf := clearBay_frame b (some t) s
  obtain ⟨hj, hq, -⟩ := clearBay_rest b (some t) s
  have hrest : (clearBay b (some t) s).minute = s.minute ∧ (clearBay b (some t) s).nctl = s.nctl :=
    ⟨minute_of_frame hf, nctl_of_frame hf⟩
  by_cases hch : ∃ (i : Fin 48) (x : CustodyRecord), s.cust.slotAt b = some i ∧ s.cust.slots[i].record = some x ∧ x.tag ≠ t
  · obtain ⟨i, x, hi, hx, ht⟩ := hch
    obtain ⟨hself, hothers⟩ := clearBay_missing (tag := some t) hi hx fun h => ht (Option.some.inj h)
    have hkept : ∀ k : Fin 48, (s.cust.slots[k].record = none ∨
        ∃ y : CustodyRecord, s.cust.slots[k].record = some y ∧ y.tag = t) →
        (clearBay b (some t) s).cust.slots[k] = s.cust.slots[k] := fun k hk => by
      refine hothers k fun he => ?_
      subst he
      obtain hk | ⟨y, hy, hyt⟩ := hk
      · exact absurd (hk.symm.trans hx) nofun
      · obtain rfl := Option.some.inj (hx.symm.trans hy)
        exact ht hyt
    refine ⟨fun j y hj hy _ => ?_, hkept, ?_, ?_, ⟨hj, hq⟩, hrest.1, hrest.2⟩
    · obtain rfl := Option.some.inj (hi.symm.trans hj)
      obtain rfl := Option.some.inj (hx.symm.trans hy)
      exact hself
    · unfold Cust.freeSlot
      refine congrArg (fun p : Fin 48 → Bool => (List.finRange 48).find? p) (funext fun k => ?_)
      by_cases hk : k = i
      · subst hk
        rw [hself, hx]
        rfl
      · rw [hothers k hk]
    · unfold Cust.slotOf
      refine congrArg (fun p : Fin 48 → Bool => (List.finRange 48).find? p) (funext fun k => ?_)
      by_cases hk : k = i
      · subst hk
        rw [hself, hx]
        rfl
      · rw [hothers k hk]
  · have heq : clearBay b (some t) s = s := by
      cases hi : s.cust.slotAt b with
      | none => exact clearBay_empty hi _
      | some i =>
        obtain ⟨x, hx, -⟩ := slotAt_record s.cust b i hi
        rw [clearBay_located hi hx]
        exact if_pos (congrArg some (of_not_not fun ht => hch ⟨i, x, hi, hx, ht⟩))
    rw [heq]
    exact ⟨fun i x hi hx ht => absurd ⟨i, x, hi, hx, ht⟩ hch, fun _ _ => rfl, rfl, rfl, ⟨rfl, rfl⟩, rfl, rfl⟩

/-! ## The placing of a tag (Table 6-8) -/

section
variable {s : State} {t : Tag} (b : Bay)

theorem placeTag_arrival {i : Fin 48} (h : s.cust.slotOf t = none) (hi : s.cust.freeSlot = some i) :
    placeTag b t s = fillFree ⟨.arrival, b, some t, none, false⟩
      (s.setSlot i (some (CustodyRecord.fresh t .inCart (some b) none s.minute))) := by
  unfold placeTag
  rw [h, hi]

theorem placeTag_full (h : s.cust.slotOf t = none) (hi : s.cust.freeSlot = none) :
    placeTag b t s = raise .custodyFull s := by
  unfold placeTag
  rw [h, hi]

variable {i : Fin 48} {x : CustodyRecord} (h : s.cust.slotOf t = some i) (hx : s.cust.slots[i].record = some x)
include h hx

/-- The return of a tablet that was out of the cart. -/
theorem placeTag_returned (hst : x.state = .out ∨ x.state = .missing) :
    placeTag b t s = if x.lastBay.isSome && x.lastBay != some b
      then raise .misplaced (fillFree ⟨.returned, b, some t, x.holder, x.lastBay.isSome && x.lastBay != some b⟩
        (s.setSlot i (some (x.toCart b s.minute))))
      else fillFree ⟨.returned, b, some t, x.holder, x.lastBay.isSome && x.lastBay != some b⟩
        (s.setSlot i (some (x.toCart b s.minute))) := by
  unfold placeTag
  rw [h]
  dsimp only
  rw [hx]
  obtain hst | hst := hst
  · simp only [hst]
  · simp only [hst]

/-- The move of a tablet that is IN_CART at another bay. -/
theorem placeTag_moved (hst : x.state = .inCart) (hb : x.bay ≠ some b) :
    placeTag b t s = raise .misplaced (fillFree ⟨.returned, b, some t, none, true⟩
      (s.setSlot i (some (x.toCart b s.minute)))) := by
  unfold placeTag
  rw [h]
  dsimp only
  rw [hx]
  simp only [hst, if_neg hb]

theorem placeTag_inPlace (hst : x.state = .inCart) (hb : x.bay = some b) : placeTag b t s = s := by
  unfold placeTag
  rw [h]
  dsimp only
  rw [hx]
  simp only [hst, if_pos hb]

end

theorem placeTag_kept (b : Bay) (t : Tag) {s : State} {k : Fin 48} (h1 : s.cust.slotOf t ≠ some k)
    (h2 : s.cust.freeSlot ≠ some k) : (placeTag b t s).cust.slots[k] = s.cust.slots[k] := by
  have hset : ∀ (i : Fin 48) (r : Option CustodyRecord), i ≠ k → (s.setSlot i r).cust.slots[k] = s.cust.slots[k] :=
    fun i r hik => setSlot_slot_other (Ne.symm hik) r s
  have hfill : ∀ (f : Fill) (u : State), (fillFree f u).cust.slots = u.cust.slots := fun f u =>
    fillFree_frame f u .custody (by decide)
  unfold placeTag
  split
  · split
    · next i hi => rw [hfill]; exact hset i _ fun he => h2 (he ▸ hi)
    · rfl
  · next i hi =>
    have hik : i ≠ k := fun he => h1 (he ▸ hi)
    split
    · rfl
    · split
      all_goals
        first
        | rfl
        | dsimp only
          split
          all_goals
            first
            | rfl
            | exact (congrArg (fun v : Vector CustodySlot 48 => v[k]) (hfill _ _)).trans (hset i _ hik)

/-- A record placed in slot `i`, with its journal entry filled. -/
theorem placed_filled {s u : State} {b : Bay} {t : Tag} (hu : s.ClearedFor b t u) (i : Fin 48) (r : CustodyRecord)
    (f : Fill) :
    (fillFree f (u.setSlot i (some r))).cust.slots[i].record = some r ∧
    s.fillsFree f.kind f.bay f.tag f.holder f.misplaced (fillFree f (u.setSlot i (some r))) ∧
    s.nctl.noted (fillFree f (u.setSlot i (some r))).nctl := by
  have hfill := fillFree_fills f (u.setSlot i (some r))
  have hslots : (fillFree f (u.setSlot i (some r))).cust.slots = (u.setSlot i (some r)).cust.slots :=
    fillFree_frame f _ .custody (by decide)
  have hnoted : s.nctl.noted (u.setSlot i (some r)).nctl := .of_eq hu.nctl
  refine ⟨?_, fillsFree_reads hfill hu.journal.1 hu.journal.2 hu.minute hnoted, hnoted.trans (fillFree_noted f _)⟩
  rw [hslots]
  exact setSlot_record_self i (some r) u

/-- MISPLACED raised after a fill. -/
theorem misplaced_raised {s w : State} {k : JournalKind} {b : Bay} {tag : Option Tag} {h : Option Token} {m : Bool}
    (hf : s.fillsFree k b tag h m w) (hn : s.nctl.noted w.nctl) : s.fillsFree k b tag h m (raise .misplaced w) ∧
    (s.nctl.sources[(10 : Fin 16)].capture = true → (raise .misplaced w).nctl.sources[(10 : Fin 16)].request = true) :=
  ⟨fillsFree_right hf rfl rfl (raise_noted .misplaced w), fun hc =>
    raise_request .misplaced rfl ((hn.capture 10).trans hc)⟩

theorem misplaced_iff (x : CustodyRecord) (b : Bay) :
    (x.lastBay.isSome && x.lastBay != some b) = decide (x.lastBay ≠ none ∧ x.lastBay ≠ some b) := by
  rw [Bool.eq_iff_iff]
  simp [Option.isSome_iff_ne_none]

/-! ## The tag read at its bay (R4, R9) -/

theorem tagHeld_iff (s : State) (b : Bay) (t : Tag) : s.tagHeld b t = true ↔
    ∃ x : Bay, x ≠ b ∧ s.bmon[x].occupancy = .present ∧ s.bmon[x].tag = some t := by
  unfold State.tagHeld
  simp [-Fin.getElem_fin, and_assoc]

theorem tagFrame_reads {s : State} {b : Bay} {tag : Tag} {r : TagRead} (ho : s.bmon[b].occupancy = .settling)
    (hr : s.bmon[b].tagRead = some r) (hw : s.now ≤ r.since + 250) (ht : tag ≠ BitVec.allOnes 48) :
    tagFrameArrives b tag true s = readTag b tag s := by
  unfold tagFrameArrives
  rw [hr]
  dsimp only
  rw [if_pos ⟨ho, within_some hw⟩]
  exact if_pos ⟨rfl, ht⟩

/-- What PSCHED makes of the entry of a bay to PRESENT (R70). -/
theorem pschedPresent_clears (b : Bay) (s : State) : b ∉ (pschedPresent b s).psched.queue ∧
    (pschedPresent b s).psched.records[b].state = .none ∧ (pschedPresent b s).psched.records[b].installed = 0 ∧
    (pschedPresent b s).bmon[b] = s.bmon[b] := by
  obtain ⟨h1, h2, -⟩ := clearCore_installed b s
  set v := (clearCore b s).setProv b { (clearCore b s).psched.records[b] with installed := 0 } with hv
  have hq : b ∉ v.psched.queue := fun hm => bne_iff_ne.mp (List.mem_filter.mp hm).2 rfl
  obtain ⟨h3, h4⟩ := considerCore_untouched (s := v) (.inl hq)
  have heq : pschedPresent b s = pschedEvent (fun s => considerCore
      ((clearCore b s).setProv b { (clearCore b s).psched.records[b] with installed := 0 })) s := rfl
  rw [heq, pschedEvent_psched_queue, pschedEvent_psched_records, pschedEvent_bmon, ← hv, h3, h4, h1, h2]
  exact ⟨considerCore_notQueued hq, rfl, rfl, rfl⟩

/-- CUST's tag read at a bay that does not wait: its record, its entry and the state of CUST. -/
theorem custTagRead_rest {b : Bay} {s : State} (hq : b ∉ s.psched.queue) (t : Tag) :
    (custTagRead b t s).psched.records[b] = s.psched.records[b] ∧ (custTagRead b t s).bmon[b] = s.bmon[b] ∧
    (custTagRead b t s).cust = (placeTag b t (clearBay b (some t) s)).cust ∧
    (custTagRead b t s).nctl = (placeTag b t (clearBay b (some t) s)).nctl := by
  have hf : s.changedOnly (.custody :: journalParts) (placeTag b t (clearBay b (some t) s)) :=
    ((clearBay_frame b (some t) s).mono (by decide)).then (placeTag_frame b t _)
  have hrec := records_of_frame hf
  have hqueue : (placeTag b t (clearBay b (some t) s)).psched.queue = s.psched.queue := (hf .prov (by decide)).2.1
  obtain ⟨h1, h2⟩ := consider_untouched (b := b) (s := placeTag b t (clearBay b (some t) s))
    (.inl (by rw [hqueue]; exact hq))
  unfold custTagRead
  rw [custEvent_psched, custEvent_bmon, custEvent_cust, custEvent_nctl, consider_cust, consider_nctl]
  exact ⟨h1.trans (congrArg (fun v : Vector ProvRecord 36 => v[b]) hrec), h2.trans (entry_of_frame hf b), rfl, rfl⟩

/-- CUST's clearing of a bay that is not PRESENT: its entry, the state of CUST and the notices. -/
theorem custOtherEntry_rest {b : Bay} {s : State} (h : s.bmon[b].occupancy ≠ .present) (tag : Option Tag) :
    (custOtherEntry b tag s).bmon[b] = s.bmon[b] ∧ (custOtherEntry b tag s).cust = (clearBay b tag s).cust ∧
    (custOtherEntry b tag s).nctl = s.nctl := by
  have hf := clearBay_frame b tag s
  have hentry : (clearBay b tag s).bmon[b] = s.bmon[b] := entry_of_frame hf b
  refine ⟨?_, custOtherEntry_cust b tag s, ?_⟩
  · unfold custOtherEntry
    rw [custEvent_bmon, consider_absent (by rw [hentry]; exact h)]
    exact hentry
  · unfold custOtherEntry
    rw [custEvent_nctl, consider_nctl]
    exact nctl_of_frame hf

/-- The bay in which the tag is read a second time (R4). -/
def readTwice (b : Bay) (tag : Tag) (s : State) : State :=
  pass (raise .bayFault (s.setEntry b { s.bmon[b] with occupancy := .duplicate, tag := some tag, tagRead := none }))

/-- The bay that enters PRESENT with the tag, with its provisioning record cleared (R4, R70). -/
def readPresent (b : Bay) (tag : Tag) (s : State) : State :=
  pschedPresent b (pass (s.setEntry b (s.bmon[b].entersPresent tag s.pins[b].atFault s.now)))

theorem readTwice_rest (b : Bay) (tag : Tag) (s : State) : (readTwice b tag s).cust = s.cust ∧
    (readTwice b tag s).minute = s.minute ∧ (readTwice b tag s).nctl = s.nctl.event Notice.bayFault.index ∧
    ∀ x : Bay, (readTwice b tag s).bmon[x] = if x = b then
      { s.bmon[b] with occupancy := .duplicate, tag := some tag, tagRead := none } else s.bmon[x] := by
  unfold readTwice
  refine ⟨by simp, ?_, by simp, fun x => ?_⟩
  · rw [State.minute, pass_acc, raise_acc, setEntry_acc]
    rfl
  · rw [pass_bmon, raise_bmon, setEntry_entry]

theorem readPresent_rest (b : Bay) (tag : Tag) (s : State) : (readPresent b tag s).cust = s.cust ∧
    (readPresent b tag s).minute = s.minute ∧ (readPresent b tag s).nctl = s.nctl ∧
    b ∉ (readPresent b tag s).psched.queue ∧ (readPresent b tag s).psched.records[b].state = .none ∧
    (readPresent b tag s).psched.records[b].installed = 0 ∧
    (readPresent b tag s).bmon[b] = s.bmon[b].entersPresent tag s.pins[b].atFault s.now ∧
    ∀ x : Bay, x ≠ b → (readPresent b tag s).bmon[x].body = s.bmon[x].body := by
  set v := pass (s.setEntry b (s.bmon[b].entersPresent tag s.pins[b].atFault s.now)) with hv
  have hf := pschedPresent_frame b v
  have hent : ∀ x : Bay, v.bmon[x] =
      if x = b then s.bmon[b].entersPresent tag s.pins[b].atFault s.now else s.bmon[x] := fun x => by
    rw [hv, pass_bmon, setEntry_entry]
  obtain ⟨h1, h2, h3, h4⟩ := pschedPresent_clears b v
  have heq : readPresent b tag s = pschedPresent b v := rfl
  rw [heq]
  refine ⟨(cust_of_frame hf).trans (by rw [hv, pass_cust, setEntry_cust]), ?_, (nctl_of_frame hf).trans
    (by rw [hv, pass_nctl, setEntry_nctl]), h1, h2, h3, h4.trans ((hent b).trans (if_pos rfl)), fun x hx => ?_⟩
  · refine (minute_of_frame hf).trans ?_
    rw [State.minute, hv, pass_acc, setEntry_acc]
    rfl
  · rw [body_of_frame hf (by decide) x, hent x, if_neg hx]

theorem readTag_cases (b : Bay) (tag : Tag) (s : State) :
    (s.tagHeld b tag = true → readTag b tag s = custOtherEntry b (some tag) (readTwice b tag s)) ∧
    (s.tagHeld b tag = false → readTag b tag s = custTagRead b tag (readPresent b tag s)) :=
  ⟨fun h => if_pos h, fun h => if_neg (Bool.eq_false_iff.mp h)⟩

/-- Settles O28. -/
theorem tagReadPlacesTheTablet : Obligations.TagReadPlacesTheTablet := by
  intro s b tag r ho hr hw htag
  obtain ⟨t, ht⟩ : ∃ t, t = readTag b tag s := ⟨_, rfl⟩
  refine ⟨t, congrArg Host.Outcome.next ((tagFrame_reads ho hr hw htag).trans ht.symm), ?_⟩
  have hframe : s.changedOnly tagParts t := ht ▸ readTag_frame b tag s
  obtain ⟨htwice, hpresent⟩ := readTag_cases b tag s
  cases hheld : s.tagHeld b tag with
  | true =>
    have hheld' := (tagHeld_iff s b tag).mp hheld
    obtain ⟨v1, v2, v3, v4⟩ := readTwice_rest b tag s
    have heq := ht.trans (htwice hheld)
    generalize readTwice b tag s = v at *
    have hvb := (v4 b).trans (if_pos rfl)
    obtain ⟨c1, c2, c3⟩ := custOtherEntry_rest (b := b) (s := v) (by rw [hvb]; nofun) (some tag)
    have hcf := custOtherEntry_frame b (some tag) v
    rw [← heq] at c1 c2 c3 hcf
    obtain ⟨j1, j2, j3⟩ := clearBay_rest b (some tag) v
    have hbody : ∀ x : Bay, t.bmon[x].body = v.bmon[x].body := fun x => body_of_frame hcf (by decide) x
    refine ⟨fun x hx => ?_, hframe.mono (by decide), by rw [c2, j3, v1], fun _ => ⟨?_, ?_, ?_, ?_, fun hc => ?_⟩,
      fun i x hi hx hne => ?_, fun hno => ?_⟩
    · rw [hbody x, v4 x, if_neg hx]
    · rw [hbody b, hvb]
      rfl
    · rw [c1, hvb]
    · rw [c2, j1, v1]
    · rw [c2, j2, v1]
    · rw [c3, v3]
      exact event_request _ _ hc
    · have hmiss := (clearBay_missing (s := v) (b := b) (tag := some tag) (by rw [v1]; exact hi) (by rw [v1]; exact hx)
        fun he => hne (Option.some.inj he)).1
      rw [c2, hmiss, v2]
      rfl
    · obtain ⟨x, hxb, hxo, hxt⟩ := hheld'
      exact absurd hxt (hno x hxb hxo)
  | false =>
    have hfree : ¬∃ x : Bay, x ≠ b ∧ s.bmon[x].occupancy = .present ∧ s.bmon[x].tag = some tag := fun h => by
      rw [(tagHeld_iff s b tag).mpr h] at hheld
      exact nomatch hheld
    obtain ⟨v1, v2, v3, v4, v5, v6, v7, v8⟩ := readPresent_rest b tag s
    have heq := ht.trans (hpresent hheld)
    generalize readPresent b tag s = v at *
    obtain ⟨c1, c2, c3, c4⟩ := custTagRead_rest (b := b) (s := v) v4 tag
    have hcf := custTagRead_frame b tag v
    rw [← heq] at c1 c2 c3 c4 hcf
    have hu : s.ClearedFor b tag (clearBay b (some tag) v) := by
      obtain ⟨h1, h2, h3, h4, h5, h6, h7⟩ := clearBay_cleared b tag v
      rw [v1] at h1 h2 h3 h4 h5
      rw [v2] at h1 h6
      exact ⟨h1, h2, h3, h4, h5, h6, h7.trans v3⟩
    have hrel : (placeTag b tag (clearBay b (some tag) v)).cust.releases = s.cust.releases := by
      have h1 : (placeTag b tag (clearBay b (some tag) v)).cust.releases = (clearBay b (some tag) v).cust.releases :=
        placeTag_frame b tag _ .releases (by decide)
      rw [h1, (clearBay_rest b (some tag) v).2.2, v1]
    generalize clearBay b (some tag) v = u at *
    refine ⟨fun x hx => ?_, hframe.mono (by decide), by rw [c3, hrel], fun h => absurd h hfree,
      fun i x hi hx hne => ?_, fun _ => ⟨?_, ?_, ?_, ?_, ?_, fun i hno hi => ?_, fun hno hi => ?_, fun i x hi hx => ?_⟩⟩
    · exact (body_of_frame hcf (by decide) x).trans (v8 x hx)
    · have hmiss := hu.missing i x hi hx hne
      have hkept : (placeTag b tag u).cust.slots[i] = u.cust.slots[i] := by
        refine placeTag_kept b tag (fun hc => ?_) fun hc => ?_
        · obtain ⟨y, hy, hyt⟩ := slotOf_record hc
          obtain rfl := Option.some.inj (hmiss.symm.trans hy)
          exact hne hyt
        · have := List.find?_some hc
          rw [hmiss] at this
          exact nomatch this
      rw [c3, hkept]
      exact hmiss
    · rw [c2, v7]
      rfl
    · rw [c2, v7]
      rfl
    · rw [c2, v7]
      rfl
    · rw [c1]
      exact v5
    · rw [c1]
      exact v6
    · have hp := placeTag_arrival b (hu.slot.trans hno) (hu.free.trans hi)
      obtain ⟨p1, p2, -⟩ := placed_filled hu i (CustodyRecord.fresh tag .inCart (some b) none u.minute)
        ⟨.arrival, b, some tag, none, false⟩
      rw [← hp] at p1 p2
      refine ⟨?_, fillsFree_right p2 (by rw [c3]) (by rw [c3]) (.of_eq c4)⟩
      rw [c3, p1, hu.minute]
      rfl
    · have hp := placeTag_full b (hu.slot.trans hno) (hu.free.trans hi)
      rw [c3, c4, hp]
      refine ⟨hu.journal.1, hu.journal.2, fun hc => raise_request .custodyFull rfl ?_⟩
      rw [hu.nctl]
      exact hc
    · have hxt : x.tag = tag := by
        obtain ⟨y, hy, hyt⟩ := slotOf_record hi
        obtain rfl := Option.some.inj (hx.symm.trans hy)
        exact hyt
      have hkept := hu.kept i (.inr ⟨x, hx, hxt⟩)
      have hux : u.cust.slots[i].record = some x := by rw [hkept]; exact hx
      have hui := hu.slot.trans hi
      refine ⟨fun hst => ?_, fun hst hb => ?_, fun hst hb => ?_⟩
      · have hp := placeTag_returned b hui hux hst
        rw [misplaced_iff] at hp
        obtain ⟨p1, p2, p3⟩ := placed_filled hu i (x.toCart b u.minute)
          ⟨.returned, b, some tag, x.holder, decide (x.lastBay ≠ none ∧ x.lastBay ≠ some b)⟩
        obtain ⟨m1, m2⟩ := misplaced_raised p2 p3
        rw [hu.minute] at hp p1 p2 m1 m2
        by_cases hm : x.lastBay ≠ none ∧ x.lastBay ≠ some b
        · rw [if_pos (decide_eq_true hm)] at hp
          rw [← hp] at m1 m2
          refine ⟨?_, fillsFree_right m1 (by rw [c3]) (by rw [c3]) (.of_eq c4), fun _ _ hc => by rw [c4]; exact m2 hc⟩
          rw [c3, hp]
          exact p1
        · rw [if_neg fun hd => hm (of_decide_eq_true hd)] at hp
          rw [← hp] at p1 p2
          refine ⟨?_, fillsFree_right p2 (by rw [c3]) (by rw [c3]) (.of_eq c4), fun h1 h2 _ => absurd ⟨h1, h2⟩ hm⟩
          rw [c3]
          exact p1
      · have hp := placeTag_moved b hui hux hst hb
        obtain ⟨p1, p2, p3⟩ := placed_filled hu i (x.toCart b u.minute) ⟨.returned, b, some tag, none, true⟩
        obtain ⟨m1, m2⟩ := misplaced_raised p2 p3
        rw [hu.minute] at hp p1 m1 m2
        rw [← hp] at m1 m2
        refine ⟨?_, fillsFree_right m1 (by rw [c3]) (by rw [c3]) (.of_eq c4), fun hc => by rw [c4]; exact m2 hc⟩
        rw [c3, hp]
        exact p1
      · have hp := placeTag_inPlace b hui hux hst hb
        rw [c3, hp]
        exact ⟨hkept, hu.journal⟩

end Sys2Proof.Machine
end

section
/-! PROOF. PROVISION and CANCEL_PROVISION visit the bays of their mask (R69, R72, R83, R84, Table 4-5). -/

namespace Sys2Proof.Machine

-- One declaration after the other: the check compiles the whole text within a memory bound.
set_option Elab.async false

/-! ## What a consideration leaves of a record -/

/-- A consideration leaves a record that is not WAITING, and keeps its bay out of the queue. -/
theorem considerCore_notWaiting {b : Bay} {s : State} (hs : s.QueueLaw none) (h : s.psched.records[b].state ≠ .waiting) :
    (considerCore s).psched.records[b] = s.psched.records[b] ∧ b ∉ (considerCore s).psched.queue :=
  ⟨considerCore_record (hs.not_mem_of_state h), considerCore_notQueued (hs.not_mem_of_state h)⟩

/-- What PSCHED holds after visits or after the consideration that follows them. -/
theorem considerCore_moves {s : State} (hs : s.QueueLaw none) (b : Bay) :
    (considerCore s).psched.records[b] = s.psched.records[b] ∨ s.psched.records[b].state = .waiting ∧
      (considerCore s).psched.records[b] = { s.psched.records[b] with state := .active } := by
  by_cases h : s.psched.records[b].state = .waiting
  · exact (considerCore_recordState b s).imp_right fun hb => ⟨h, hb⟩
  · exact .inl (considerCore_notWaiting hs h).1

/-! ## A visit of PROVISION (Table 4-5) -/

/-- PROVISION appends the bay of this record: it is not at the revision, and neither ACTIVE nor WAITING. -/
def ProvRecord.appends (r : ProvRecord) (v : Half) : Bool :=
  r.state != .active && r.state != .waiting && r.installed != v

/-- The record of a PRESENT bay after the visit. -/
def ProvRecord.provisioned (r : ProvRecord) (v : Half) (n m : Nat) : ProvRecord :=
  if r.state = .active then { r with wanted := v, sessionLimit := n, silenceLimit := m }
  else if r.installed = v then
    { r with state := .current, wanted := v, attempts := 0, sessionLimit := n, silenceLimit := m }
  else if r.state = .waiting then { r with wanted := v, sessionLimit := n, silenceLimit := m }
  else { r with state := .waiting, wanted := v, attempts := 0, sessionLimit := n, silenceLimit := m }

theorem provisioned_wanted (r : ProvRecord) (v : Half) (n m : Nat) :
    (r.provisioned v n m).wanted = v ∧ (r.provisioned v n m).installed = r.installed ∧
      (r.provisioned v n m).sessionLimit = n ∧ (r.provisioned v n m).silenceLimit = m := by
  unfold ProvRecord.provisioned
  split
  · exact ⟨rfl, rfl, rfl, rfl⟩
  split
  · exact ⟨rfl, rfl, rfl, rfl⟩
  split <;> exact ⟨rfl, rfl, rfl, rfl⟩

/-- A revision order for the bay of a session reaches the session too. -/
def Session.revised (x : Session) (p : Bay → Bool) (v : Half) : Session := if p x.bay then { x with wanted := v } else x

/-- `y` holds what the visits of the PRESENT bays `l` leave of `x` (Table 4-5). -/
structure Provisioned (v : Half) (n m : Nat) (l : List Bay) (x y : State × Nat) : Prop where
  record : ∀ b : Bay, y.1.psched.records[b] =
    if b ∈ l then x.1.psched.records[b].provisioned v n m else x.1.psched.records[b]
  channel : ∀ c : Chan, y.1.psched.channels[c].lastEnded = x.1.psched.channels[c].lastEnded ∧
    y.1.psched.channels[c].session = x.1.psched.channels[c].session.map fun z => z.revised (fun b => decide (b ∈ l)) v
  queue : y.1.psched.queue = (x.1.psched.queue.filter fun b => !(decide (b ∈ l) && x.1.psched.records[b].installed == v)) ++
    l.filter fun b => x.1.psched.records[b].appends v
  count : y.2 = x.2 + l.countP fun b => x.1.psched.records[b].appends v

section
variable {v : Half} {n m : Nat}

theorem Provisioned.nil (x : State × Nat) : Provisioned v n m [] x x where
  record b := by simp
  channel c := ⟨rfl, by cases x.1.psched.channels[c].session <;> simp [Session.revised]⟩
  queue := by simp
  count := by simp

/-- A visit, then the visits of other bays. -/
theorem Provisioned.cons {b : Bay} {l : List Bay} {x y z : State × Nat} (h : Provisioned v n m [b] x y)
    (ht : Provisioned v n m l y z) (hb : b ∉ l) : Provisioned v n m (b :: l) x z := by
  have hkept : ∀ a : Bay, a ∈ l → y.1.psched.records[a] = x.1.psched.records[a] := fun a ha => by
    rw [h.record, if_neg]
    simpa using fun he : a = b => hb (he ▸ ha)
  have hinst : ∀ a : Bay, y.1.psched.records[a].installed = x.1.psched.records[a].installed := fun a => by
    rw [h.record]
    split
    · exact (provisioned_wanted _ v n m).2.1
    · rfl
  have happ : ∀ a ∈ l, y.1.psched.records[a].appends v = x.1.psched.records[a].appends v := fun a ha => by rw [hkept a ha]
  refine ⟨fun a => ?_, fun c => ⟨(ht.channel c).1.trans (h.channel c).1, ?_⟩, ?_, ?_⟩
  · rw [ht.record]
    by_cases ha : a ∈ l
    · rw [if_pos ha, if_pos (List.mem_cons_of_mem _ ha), hkept a ha]
    · rw [if_neg ha, h.record]
      simp [ha]
  · rw [(ht.channel c).2, (h.channel c).2, Option.map_map]
    congr 1
    funext z
    simp only [Function.comp, Session.revised, List.mem_cons, List.not_mem_nil, or_false]
    by_cases h1 : z.bay = b <;> by_cases h2 : z.bay ∈ l <;> simp [h1, h2]
  · rw [ht.queue, h.queue, List.filter_append, List.filter_filter, List.filter_congr happ, List.append_assoc]
    congr 1
    · refine List.filter_congr fun a _ => ?_
      rw [hinst]
      by_cases h1 : a = b
      · subst h1
        simp [hb]
      · by_cases h2 : a ∈ l <;> simp [h1, h2]
    · have hself : ([b].filter fun a => x.1.psched.records[a].appends v).filter
          (fun a => !(decide (a ∈ l) && y.1.psched.records[a].installed == v)) =
          [b].filter fun a => x.1.psched.records[a].appends v := by
        refine List.filter_eq_self.mpr fun a ha => ?_
        have : a = b := by simpa using (List.mem_filter.mp ha).1
        simp [this, hb]
      rw [hself, ← List.filter_append]
      rfl
  · have hrest : l.countP (fun a => y.1.psched.records[a].appends v) =
        l.countP fun a => x.1.psched.records[a].appends v :=
      List.countP_congr fun a ha => by rw [happ a ha]
    rw [ht.count, h.count, hrest, ← List.singleton_append (l := l), List.countP_append, Nat.add_assoc]

theorem provWanted_channels {s : State} {b : Bay} {d : Chan} (hd : s.psched.channelOf b = some d) (r : ProvRecord) :
    (provWanted b r v s).psched.channels = s.psched.channels.set d { s.psched.channels[d] with
      session := s.psched.channels[d].session.map fun x => { x with wanted := v } } := by
  unfold provWanted
  dsimp only
  split
  · next c hc =>
    obtain rfl := Option.some.inj (hc.symm.trans hd)
    rw [setChannel_psched]
    rfl
  · next hc => exact absurd (hc.symm.trans hd) nofun

/-- The session of an ACTIVE bay takes the revision with the bay's record (R83). -/
theorem provWanted_channel {s : State} (hs : s.QueueLaw none) {b : Bay} (ha : s.psched.records[b].state = .active)
    (r : ProvRecord) (c : Chan) :
    (provWanted b r v s).psched.channels[c].lastEnded = s.psched.channels[c].lastEnded ∧
      (provWanted b r v s).psched.channels[c].session =
        s.psched.channels[c].session.map fun z => z.revised (fun a => decide (a ∈ [b])) v := by
  obtain ⟨d, hd⟩ := Option.isSome_iff_exists.mp ((channelOf_isSome s.psched b).mpr (hs.active b ha).1)
  have hbay := channelOf_eq_some hd
  rw [provWanted_channels hd r, getElem_set_fin]
  split
  · next hc =>
    subst hc
    obtain ⟨z, hz, hzb⟩ := bayOf_eq_some.mp hbay
    simp [-Fin.getElem_fin, hz, Session.revised, hzb]
  · next hc =>
    refine ⟨rfl, ?_⟩
    cases hz : s.psched.channels[c].session with
    | none => rfl
    | some z =>
      have hne : z.bay ≠ b := fun hzb => hc (hs.once c d b (bayOf_eq_some.mpr ⟨z, hz, hzb⟩) hbay)
      simp [Session.revised, hne]

theorem provWanted_rest (b : Bay) (r : ProvRecord) (s : State) :
    (provWanted b r v s).psched.queue = s.psched.queue ∧
      (provWanted b r v s).psched.records = s.psched.records.set b { r with wanted := v } := by
  unfold provWanted
  dsimp only
  split
  · rw [setChannel_psched, setProv_psched]
    exact ⟨rfl, rfl⟩
  · rw [setProv_psched]
    exact ⟨rfl, rfl⟩

/-- A visit of a bay that is not ACTIVE changes its record and the queue. -/
theorem Provisioned.of_idle {x y : State × Nat} {b : Bay} (hs : x.1.QueueLaw none)
    (ha : x.1.psched.records[b].state ≠ .active)
    (hr : y.1.psched.records = x.1.psched.records.set b (x.1.psched.records[b].provisioned v n m))
    (hc : y.1.psched.channels = x.1.psched.channels)
    (hq : y.1.psched.queue = (x.1.psched.queue.filter fun a => !(decide (a ∈ [b]) && x.1.psched.records[a].installed == v)) ++
      [b].filter fun a => x.1.psched.records[a].appends v)
    (hn : y.2 = x.2 + [b].countP fun a => x.1.psched.records[a].appends v) : Provisioned v n m [b] x y where
  record a := by
    rw [hr, getElem_set_fin]
    by_cases hab : a = b
    · subst hab
      simp
    · simp [hab]
  channel c := by
    rw [hc]
    refine ⟨rfl, ?_⟩
    cases hz : x.1.psched.channels[c].session with
    | none => rfl
    | some z =>
      have hne : z.bay ≠ b := fun hzb => ha (hs.busy c b (bayOf_eq_some.mpr ⟨z, hz, hzb⟩))
      simp [Session.revised, hne]
  queue := hq
  count := hn

/-- The queue of a visit that takes its bay not out. -/
theorem filter_visited {s : State} {b : Bay} (h : b ∈ s.psched.queue → s.psched.records[b].installed ≠ v) :
    s.psched.queue.filter (fun a => !(decide (a ∈ [b]) && s.psched.records[a].installed == v)) = s.psched.queue := by
  refine List.filter_eq_self.mpr fun a ha => ?_
  by_cases hab : a = b
  · subst hab
    simpa using h ha
  · simp [hab]

theorem appends_active {r : ProvRecord} (h : r.state = .active) : r.appends v = false := by simp [ProvRecord.appends, h]

theorem appends_waiting {r : ProvRecord} (h : r.state = .waiting) : r.appends v = false := by simp [ProvRecord.appends, h]

theorem appends_current {r : ProvRecord} (h : r.installed = v) : r.appends v = false := by simp [ProvRecord.appends, h]

theorem appends_idle {r : ProvRecord} (ha : r.state ≠ .active) (hw : r.state ≠ .waiting) (hi : r.installed ≠ v) :
    r.appends v = true := by simp [ProvRecord.appends, ha, hw, hi]

theorem appended_none {s : State} {b : Bay} (h : s.psched.records[b].appends v = false) :
    ([b].filter fun a => s.psched.records[a].appends v) = [] ∧ ([b].countP fun a => s.psched.records[a].appends v) = 0 := by
  simp [-Fin.getElem_fin, h]

theorem appended_self {s : State} {b : Bay} (h : s.psched.records[b].appends v = true) :
    ([b].filter fun a => s.psched.records[a].appends v) = [b] ∧ ([b].countP fun a => s.psched.records[a].appends v) = 1 := by
  simp [-Fin.getElem_fin, h]

/-- One visit by Table 4-5. -/
theorem provBay_provisions {x : State × Nat} (hs : x.1.QueueLaw none) (b : Bay) :
    Provisioned v n m [b] x (provBay b v n m x) := by
  have hidle (hw : x.1.psched.records[b].state ≠ .waiting) (hi : x.1.psched.records[b].installed = v)
      (ha : x.1.psched.records[b].state ≠ .active) : Provisioned v n m [b] x
        (x.1.setProv b ({ x.1.psched.records[b] with sessionLimit := n, silenceLimit := m }.toCurrent v), x.2) := by
    refine .of_idle hs ha ?_ rfl ?_ ?_
    · rw [setProv_psched, ProvRecord.provisioned, if_neg ha, if_pos hi]
      rfl
    · rw [filter_visited fun hb => absurd hb (hs.not_mem_of_state hw), setProv_psched,
        (appended_none (appends_current hi)).1, List.append_nil]
    · rw [(appended_none (appends_current hi)).2, Nat.add_zero]
  have happend (hw : x.1.psched.records[b].state ≠ .waiting) (hi : x.1.psched.records[b].installed ≠ v)
      (ha : x.1.psched.records[b].state ≠ .active) : Provisioned v n m [b] x
        (provAppend b { x.1.psched.records[b] with sessionLimit := n, silenceLimit := m } v x.1, x.2 + 1) := by
    refine .of_idle hs ha ?_ rfl ?_ ?_
    · rw [provAppend, setQueue_psched, setProv_psched, ProvRecord.provisioned, if_neg ha, if_neg hi, if_neg hw]
    · rw [filter_visited fun _ => hi, provAppend, setQueue_psched, (appended_self (appends_idle ha hw hi)).1]
    · rw [(appended_self (appends_idle ha hw hi)).2]
  unfold provBay
  dsimp only
  split
  · next h =>
    have hrest := provWanted_rest (v := v) b { x.1.psched.records[b] with sessionLimit := n, silenceLimit := m } x.1
    refine ⟨fun a => ?_, provWanted_channel hs h _, ?_, ?_⟩
    · rw [hrest.2, getElem_set_fin]
      by_cases hab : a = b
      · subst hab
        rw [if_pos rfl, if_pos (List.mem_singleton_self a), ProvRecord.provisioned, if_pos h]
      · simp [hab]
    · rw [hrest.1, filter_visited fun hb => absurd ((hs.mem b).mp hb) (by rw [h]; decide),
        (appended_none (appends_active h)).1, List.append_nil]
    · rw [(appended_none (appends_active h)).2, Nat.add_zero]
  · next h =>
    have ha : x.1.psched.records[b].state ≠ .active := by rw [h]; decide
    split
    · next hi =>
      refine .of_idle hs ha ?_ rfl ?_ ?_
      · rw [setProv_psched, ProvRecord.provisioned, if_neg ha, if_pos hi]
        rfl
      · rw [setProv_psched, setQueue_psched]
        rw [(appended_none (appends_waiting h)).1, List.append_nil]
        refine List.filter_congr fun a _ => ?_
        by_cases hab : a = b
        · subst hab
          simpa using hi
        · simp [hab]
      · rw [(appended_none (appends_waiting h)).2, Nat.add_zero]
    · next hi =>
      refine .of_idle hs ha ?_ rfl ?_ ?_
      · rw [setProv_psched, ProvRecord.provisioned, if_neg ha, if_neg hi, if_pos h]
      · rw [filter_visited fun _ => hi, setProv_psched,
          (appended_none (appends_waiting h)).1, List.append_nil]
      · rw [(appended_none (appends_waiting h)).2, Nat.add_zero]
  all_goals
    next h =>
    have ha : x.1.psched.records[b].state ≠ .active := by rw [h]; decide
    have hw : x.1.psched.records[b].state ≠ .waiting := by rw [h]; decide
    split
    · next hi => exact hidle hw hi ha
    · next hi => exact happend hw hi ha

/-- The bays of a mask that the visits take: those that are PRESENT. -/
def State.presentOf (s : State) (bays : List Bay) : List Bay := bays.filter fun b => s.bmon[b].occupancy == .present

theorem provVisits_provisions {s : State} (hs : s.QueueLaw none) {bays : List Bay} (hnd : bays.Nodup) :
    Provisioned v n m (s.presentOf bays) (s, 0) (provVisits bays v n m s) := by
  have hfold : ∀ (bs : List Bay) (x : State × Nat), bs.Nodup → x.1.QueueLaw none → (∀ b : Bay, x.1.bmon[b].occupancy = s.bmon[b].occupancy) →
      Provisioned v n m (s.presentOf bs) x (bs.foldl (provVisit v n m) x) := by
    intro bs
    induction bs with
    | nil => exact fun x _ _ _ => Provisioned.nil x
    | cons b bs ih =>
      intro x hn hx hb
      obtain ⟨hnot, hn⟩ := List.nodup_cons.mp hn
      have hvisit : provVisit v n m x b = if s.bmon[b].occupancy = .present then provBay b v n m x else x := by
        rw [provVisit, hb]
      rw [List.foldl_cons, hvisit]
      split
      · next hp =>
        have hlist : s.presentOf (b :: bs) = b :: s.presentOf bs := List.filter_cons_of_pos (by simpa using hp)
        rw [hlist]
        refine (provBay_provisions hx b).cons (ih _ hn (provBay_queueLaw hx b v n m) fun a => ?_) fun h =>
          hnot (List.mem_filter.mp h).1
        rw [← hb, entry_of_frame (provBay_frame b v n m x) a]
      · next hp =>
        have hlist : s.presentOf (b :: bs) = s.presentOf bs := List.filter_cons_of_neg (by simpa using hp)
        rw [hlist]
        exact ih x hn hx hb
  exact hfold bays (s, 0) hnd hs fun _ => rfl

theorem provisioned_state (r : ProvRecord) :
    (r.state = .active → (r.provisioned v n m).state = .active) ∧
    (r.state ≠ .active → r.installed = v →
      (r.provisioned v n m).state = .current ∧ (r.provisioned v n m).attempts = 0) ∧
    (r.state ≠ .active → r.installed ≠ v → (r.provisioned v n m).state = .waiting ∧
      (r.state = .waiting → (r.provisioned v n m).attempts = r.attempts) ∧
      (r.state ≠ .waiting → (r.provisioned v n m).attempts = 0)) := by
  unfold ProvRecord.provisioned
  refine ⟨fun ha => ?_, fun ha hi => ?_, fun ha hi => ?_⟩
  · rw [if_pos ha]
    exact ha
  · rw [if_neg ha, if_pos hi]
    exact ⟨rfl, rfl⟩
  · rw [if_neg ha, if_neg hi]
    split
    · next hw => exact ⟨hw, fun _ => rfl, fun h => absurd hw h⟩
    · next hw => exact ⟨rfl, fun h => absurd h hw, fun _ => rfl⟩

/-! ## The order's event -/

section
variable {s : State} {bays : List Bay}

/-- With no bay appended, PSCHED holds what the visits leave. -/
theorem provisionEvent_visits (h : (provVisits bays v n m s).2 = 0) :
    (provisionEvent bays v n m s).psched.records = (provVisits bays v n m s).1.psched.records ∧
      (provisionEvent bays v n m s).psched.queue = (provVisits bays v n m s).1.psched.queue ∧
      (provisionEvent bays v n m s).psched.channels = (provVisits bays v n m s).1.psched.channels := by
  unfold provisionEvent
  rw [pschedEvent_psched_records, pschedEvent_psched_queue, pschedEvent_psched_channels]
  dsimp only
  rw [if_pos h]
  exact ⟨rfl, rfl, rfl⟩

/-- With a bay appended, a grant is considered with the queue as the visits leave it. -/
theorem provisionEvent_consideration (h : (provVisits bays v n m s).2 ≠ 0) :
    provisionEvent bays v n m s = pschedEvent (fun _ => considerCore (provVisits bays v n m s).1) s := by
  unfold provisionEvent
  refine pschedEvent_congr ?_
  dsimp only
  rw [if_neg h]

theorem provisionEvent_considers (h : (provVisits bays v n m s).2 ≠ 0) :
    (provVisits bays v n m s).1.considers (provisionEvent bays v n m s) := by
  rw [provisionEvent_consideration h]
  generalize (provVisits bays v n m s).1 = u
  exact considers_right (considerCore_considers u) (pschedEvent_psched_records _ _) (pschedEvent_psched_queue _ _)
    (pschedEvent_psched_channels _ _) (fun b => by rw [pschedEvent_bmon]; exact ⟨rfl, rfl, rfl, rfl⟩)
    fun c x _ ht => by rw [pschedEvent_palloc]; exact ht

/-- What the event leaves of a record after the visits: a WAITING bay may be granted, and no other changes. -/
theorem provisionEvent_moves (hs : s.QueueLaw none) (b : Bay) :
    ((provVisits bays v n m s).1.psched.records[b].state ≠ .waiting →
      (provisionEvent bays v n m s).psched.records[b] = (provVisits bays v n m s).1.psched.records[b] ∧
      b ∉ (provisionEvent bays v n m s).psched.queue) ∧
    ((provisionEvent bays v n m s).psched.records[b] = (provVisits bays v n m s).1.psched.records[b] ∨
      (provVisits bays v n m s).1.psched.records[b].state = .waiting ∧ (provisionEvent bays v n m s).psched.records[b] =
        { (provVisits bays v n m s).1.psched.records[b] with state := .active }) := by
  have hlaw := provVisits_queueLaw hs bays v n m
  by_cases h : (provVisits bays v n m s).2 = 0
  · obtain ⟨hr, hqu, -⟩ := provisionEvent_visits h
    rw [hr, hqu]
    exact ⟨fun hw => ⟨rfl, hlaw.not_mem_of_state hw⟩, .inl rfl⟩
  · rw [provisionEvent_consideration h, pschedEvent_psched_records, pschedEvent_psched_queue]
    exact ⟨considerCore_notWaiting hlaw, considerCore_moves hlaw b⟩

/-- A visited bay's record after the order (Table 4-5). -/
theorem provisionEvent_visited (hs : s.QueueLaw none) {b : Bay} (hrec : (provVisits bays v n m s).1.psched.records[b] =
    s.psched.records[b].provisioned v n m) {t : State} (ht : t.psched = (provisionEvent bays v n m s).psched) :
    t.psched.records[b].wanted = v ∧ t.psched.records[b].installed = s.psched.records[b].installed ∧
    t.psched.records[b].sessionLimit = n ∧ t.psched.records[b].silenceLimit = m ∧
    (s.psched.records[b].state = .active → t.psched.records[b].state = .active) ∧
    (s.psched.records[b].state ≠ .active → s.psched.records[b].installed = v →
      t.psched.records[b].state = .current ∧ b ∉ t.psched.queue ∧ t.psched.records[b].attempts = 0) ∧
    (s.psched.records[b].state ≠ .active → s.psched.records[b].installed ≠ v →
      (t.psched.records[b].state = .waiting ∨ t.psched.records[b].state = .active) ∧
      (s.psched.records[b].state = .waiting → t.psched.records[b].attempts = s.psched.records[b].attempts) ∧
      (s.psched.records[b].state ≠ .waiting → t.psched.records[b].attempts = 0)) := by
  obtain ⟨hkept, hmoves⟩ := provisionEvent_moves (v := v) (n := n) (m := m) (bays := bays) hs b
  obtain ⟨hactive, hcurrent, hwaiting⟩ := provisioned_state (v := v) (n := n) (m := m) s.psched.records[b]
  have hfields := provisioned_wanted s.psched.records[b] v n m
  rw [hrec] at hkept hmoves
  rw [ht]
  generalize (provisionEvent bays v n m s).psched = p at *
  refine and_assoc.mp (and_assoc.mp (and_assoc.mp ⟨?_, fun ha => ?_, fun ha hi => ?_, fun ha hi => ?_⟩))
  · rw [and_assoc, and_assoc]
    rcases hmoves with h | ⟨-, h⟩ <;> rw [h] <;> exact hfields
  · have hst := hactive ha
    rw [(hkept (by rw [hst]; decide)).1]
    exact hst
  · obtain ⟨hst, hat⟩ := hcurrent ha hi
    obtain ⟨h, hnot⟩ := hkept (by rw [hst]; decide)
    rw [h]
    exact ⟨hst, hnot, hat⟩
  · obtain ⟨hst, hat⟩ := hwaiting ha hi
    rcases hmoves with h | ⟨-, h⟩ <;> rw [h]
    · exact ⟨.inl hst, hat⟩
    · exact ⟨.inr rfl, hat⟩

end

end

/-! ## PROVISION -/

theorem mem_presentOf_mask {s : State} {mask : Nat} {b : Bay} :
    b ∈ s.presentOf (maskBays mask) ↔ mask.testBit b.val = true ∧ s.bmon[b].occupancy = .present := by
  simp [State.presentOf, maskBays, and_comm]

theorem visited_test (s : State) (mask : Nat) (b : Bay) : decide (b ∈ s.presentOf (maskBays mask)) =
    (mask.testBit b.val && s.bmon[b].occupancy == .present) := by
  rw [Bool.eq_iff_iff, decide_eq_true_iff, mem_presentOf_mask, Bool.and_eq_true, beq_iff_eq]

theorem not_visited {s : State} {mask : Nat} {b : Bay}
    (h : mask.testBit b.val = false ∨ s.bmon[b].occupancy ≠ .present) : b ∉ s.presentOf (maskBays mask) := by
  rw [mem_presentOf_mask]
  rintro ⟨ht, hp⟩
  rcases h with h | h
  · exact absurd (ht.symm.trans h) (by decide)
  · exact h hp

theorem presentOf_mask (s : State) (mask : Nat) : s.presentOf (maskBays mask) =
    (List.finRange 36).filter fun b => mask.testBit b.val && s.bmon[b].occupancy == .present := by
  unfold State.presentOf maskBays
  rw [List.filter_filter]
  exact List.filter_congr fun b _ => Bool.and_comm ..

theorem maskBays_nodup (mask : Nat) : (maskBays mask).Nodup := (List.nodup_finRange 36).filter _

/-- PROVISION with good fields (R83). -/
theorem orderProvision_visits {s : State} {off : Nat} {v : Half} (hmask : s.fieldN off 0x10 5 < 2 ^ 36)
    (hv : v.toNat = s.fieldN off 0x0C 2) (hne : v ≠ 0) : orderProvision off s =
      (provisionEvent (maskBays (s.fieldN off 0x10 5)) v (clampTo 1 240 (s.field1 off 0x0E).toNat)
        (clampTo 5 120 (s.field1 off 0x0F).toNat) s,
        .clamped (clampTo 1 240 (s.field1 off 0x0E).toNat != (s.field1 off 0x0E).toNat ||
            clampTo 5 120 (s.field1 off 0x0F).toNat != (s.field1 off 0x0F).toNat)
          (provVisits (maskBays (s.fieldN off 0x10 5)) v (clampTo 1 240 (s.field1 off 0x0E).toNat)
            (clampTo 5 120 (s.field1 off 0x0F).toNat) s).2) := by
  have habove : maskAbove (s.maskOf off) = false := decide_eq_false (Nat.not_le.mpr hmask)
  have hzero : s.fieldN off 0x0C 2 ≠ 0 := fun h => hne (BitVec.eq_of_toNat_eq (hv.trans h))
  unfold orderProvision
  rw [if_neg (by rw [habove]; decide), if_neg hzero]
  dsimp only
  rw [revision_eq hv]
  rfl

/-- The answer's outcome: a limit out of its range is clamped (R83). -/
theorem clampAnswer_outcome (n m d : Nat) : (Answer.clamped (clampTo 1 240 n != n || clampTo 5 120 m != m) d).outcome =
    if 1 ≤ n ∧ n ≤ 240 ∧ 5 ≤ m ∧ m ≤ 120 then .done else .doneClamped := by
  have hn : clampTo 1 240 n = n ↔ 1 ≤ n ∧ n ≤ 240 := by
    unfold clampTo
    omega
  have hm : clampTo 5 120 m = m ↔ 5 ≤ m ∧ m ≤ 120 := by
    unfold clampTo
    omega
  unfold Answer.clamped
  by_cases h : 1 ≤ n ∧ n ≤ 240 ∧ 5 ≤ m ∧ m ≤ 120
  · rw [if_pos h, hn.mpr ⟨h.1, h.2.1⟩, hm.mpr h.2.2]
    simp
  · have hor : clampTo 1 240 n ≠ n ∨ clampTo 5 120 m ≠ m := by
      rw [Ne, Ne, hn, hm]
      omega
    rw [if_neg h, if_pos (by simpa using hor)]

/-! ## A visit of CANCEL_PROVISION (R84) -/

/-- CANCEL_PROVISION takes the bay of this record: it is WAITING or ACTIVE. -/
def ProvRecord.pending (r : ProvRecord) : Prop := r.state = .waiting ∨ r.state = .active

/-- `t` holds what the visit of the WAITING or ACTIVE bay `b` leaves of `s`: the bay NONE, and at most grants of other
WAITING bays. -/
structure Withdrawn (b : Bay) (s t : State) : Prop where
  gone : t.psched.records[b].state = .none ∧ t.psched.records[b].wanted = 0 ∧ t.psched.records[b].attempts = 0 ∧
    (s.psched.records[b].state = .active → t.psched.records[b].lastOutcome = some .cancelled)
  other : ∀ a : Bay, a ≠ b → t.psched.records[a] = s.psched.records[a] ∨ s.psched.records[a].state = .waiting ∧
    t.psched.records[a] = { s.psched.records[a] with state := .active }

theorem clearCore_withdraws {s : State} {b : Bay} (h : s.psched.records[b].state = .waiting) :
    Withdrawn b s (clearCore b s) := by
  have hrec : ∀ a : Bay, (clearCore b s).psched.records[a] =
      if a = b then s.psched.records[b].toNone else s.psched.records[a] := fun a => by
    rw [clearCore, setProv_psched, setQueue_psched, getElem_set_fin]
  refine ⟨?_, fun a ha => .inl ?_⟩
  · rw [hrec, if_pos rfl]
    exact ⟨rfl, rfl, rfl, fun ha => absurd (h.symm.trans ha) (by decide)⟩
  · rw [hrec, if_neg ha]

theorem endBayCore_withdraws {s : State} {b : Bay} (hs : s.QueueLaw none) (h : s.psched.records[b].state = .active) :
    Withdrawn b s (endBayCore b .cancelled s) := by
  obtain ⟨c, x, hx, rfl, he⟩ := endBayCore_active hs h
  have hpsched : (endNotices (s.psched.records[x.bay].afterEnd .cancelled 0)
      (pass (sessionClosed c x .cancelled 0 s))).psched = (sessionClosed c x .cancelled 0 s).psched := by
    rw [endNotices_psched, pass_psched]
  have hlaw : (endNotices (s.psched.records[x.bay].afterEnd .cancelled 0)
      (pass (sessionClosed c x .cancelled 0 s))).QueueLaw none :=
    ((sessionClosed_queueLaw hs hx .cancelled 0).of_frame (pass_frame _)).of_frame (endNotices_frame _ _)
  rw [he, endSessionCore_busy hx]
  generalize endNotices (s.psched.records[x.bay].afterEnd .cancelled 0)
    (pass (sessionClosed c x .cancelled 0 s)) = w at *
  have hrec : ∀ a : Bay, w.psched.records[a] =
      if a = x.bay then s.psched.records[x.bay].afterEnd .cancelled 0 else s.psched.records[a] := fun a => by
    rw [hpsched, sessionClosed_record]
  have hown := hrec x.bay
  rw [if_pos rfl] at hown
  refine ⟨?_, fun a ha => ?_⟩
  · rw [(considerCore_notWaiting hlaw (by rw [hown]; exact nofun)).1, hown]
    exact ⟨rfl, rfl, rfl, fun _ => rfl⟩
  · have hother := hrec a
    rw [if_neg ha] at hother
    rw [← hother]
    exact considerCore_moves hlaw a

/-- One visit (R84). -/
theorem cancelVisit_withdraws {x : State × Nat} (hs : x.1.QueueLaw none) (b : Bay) :
    (x.1.psched.records[b].pending → Withdrawn b x.1 (cancelVisit x b).1 ∧ (cancelVisit x b).2 = x.2 + 1) ∧
    (¬x.1.psched.records[b].pending → cancelVisit x b = x) := by
  unfold cancelVisit ProvRecord.pending
  split
  · next h => exact ⟨fun _ => ⟨clearCore_withdraws h, rfl⟩, fun hn => absurd (.inl h) hn⟩
  · next h => exact ⟨fun _ => ⟨endBayCore_withdraws hs h, rfl⟩, fun hn => absurd (.inr h) hn⟩
  all_goals
    next h =>
    exact ⟨fun hp => absurd hp (by rw [h]; decide), fun _ => rfl⟩

theorem cancelVisit_queueLaw {x : State × Nat} (hs : x.1.QueueLaw none) (b : Bay) :
    (cancelVisit x b).1.QueueLaw none := by
  unfold cancelVisit
  split
  · next h => exact hs.clearCore (by rw [h]; decide)
  · exact endBayCore_queueLaw b _ hs
  all_goals exact hs

/-- `y` holds what the visits of the bays `l` leave of `x`. -/
structure Cancelled (l : List Bay) (x y : State × Nat) : Prop where
  gone : ∀ b ∈ l, x.1.psched.records[b].pending →
    y.1.psched.records[b].state = .none ∧ y.1.psched.records[b].wanted = 0 ∧ y.1.psched.records[b].attempts = 0 ∧
    (x.1.psched.records[b].state = .active → y.1.psched.records[b].lastOutcome = some .cancelled)
  kept : ∀ b : Bay, ¬x.1.psched.records[b].pending → y.1.psched.records[b] = x.1.psched.records[b]
  count : ∀ q : Bay → Bool, (∀ b : Bay, q b = true ↔ x.1.psched.records[b].pending) → y.2 = x.2 + l.countP q

theorem Cancelled.nil (x : State × Nat) : Cancelled [] x x :=
  ⟨fun _ hb => absurd hb List.not_mem_nil, fun _ _ => rfl, fun _ _ => rfl⟩

theorem Cancelled.skip {b : Bay} {l : List Bay} {x y : State × Nat} (hb : ¬x.1.psched.records[b].pending)
    (h : Cancelled l x y) : Cancelled (b :: l) x y where
  gone a ha hp := (List.mem_cons.mp ha).elim (fun he => absurd (he ▸ hp) hb) fun ha => h.gone a ha hp
  kept := h.kept
  count q hq := by
    rw [h.count q hq, List.countP_cons_of_neg fun hqb => hb ((hq b).mp hqb)]

/-- A visit that takes its bay, then the visits of other bays. -/
theorem Cancelled.take {b : Bay} {l : List Bay} {x y z : State × Nat} (hb : b ∉ l)
    (hp : x.1.psched.records[b].pending) (hw : Withdrawn b x.1 y.1) (hn : y.2 = x.2 + 1) (h : Cancelled l y z) :
    Cancelled (b :: l) x z := by
  have hidle : ¬y.1.psched.records[b].pending := by
    rw [ProvRecord.pending, hw.gone.1]
    decide
  have hsame : ∀ a : Bay, a ≠ b → (y.1.psched.records[a].pending ↔ x.1.psched.records[a].pending) := fun a ha => by
    rcases hw.other a ha with he | ⟨hst, he⟩
    · rw [he]
    · rw [he]
      exact ⟨fun _ => .inl hst, fun _ => .inr rfl⟩
  refine ⟨fun a ha hpa => ?_, fun a hpa => ?_, fun q hq => ?_⟩
  · by_cases hab : a = b
    · subst hab
      rw [h.kept a hidle]
      exact hw.gone
    · obtain ⟨h1, h2, h3, h4⟩ := h.gone a ((List.mem_cons.mp ha).resolve_left hab) ((hsame a hab).mpr hpa)
      refine ⟨h1, h2, h3, fun hact => h4 ?_⟩
      rcases hw.other a hab with he | ⟨-, he⟩ <;> rw [he]
      exact hact
  · have hab : a ≠ b := fun he => hpa (he ▸ hp)
    rw [h.kept a (mt (hsame a hab).mp hpa)]
    exact (hw.other a hab).resolve_right fun hst => hpa (.inl hst.1)
  · have hrest : l.countP (fun a => q a && a != b) = l.countP q :=
      List.countP_congr fun a ha => by
        have hab : a ≠ b := fun he => hb (he ▸ ha)
        simp [hab]
    rw [h.count (fun a => q a && a != b) fun a => ?_, hn, hrest, List.countP_cons_of_pos ((hq b).mpr hp)]
    · omega
    · by_cases hab : a = b
      · subst hab
        simpa using hidle
      · rw [hsame a hab, ← hq a]
        simp [hab]

theorem cancelVisits_cancels {s : State} (hs : s.QueueLaw none) {bays : List Bay} (hnd : bays.Nodup) :
    Cancelled bays (s, 0) (cancelVisits bays s) := by
  have hfold : ∀ (bs : List Bay) (x : State × Nat), bs.Nodup → x.1.QueueLaw none →
      Cancelled bs x (bs.foldl cancelVisit x) := by
    intro bs
    induction bs with
    | nil => exact fun x _ _ => .nil x
    | cons b bs ih =>
      intro x hn hx
      obtain ⟨hnot, hn⟩ := List.nodup_cons.mp hn
      obtain ⟨htake, hskip⟩ := cancelVisit_withdraws hx b
      by_cases hp : x.1.psched.records[b].pending
      · obtain ⟨hw, hcount⟩ := htake hp
        exact .take hnot hp hw hcount (ih _ hn (cancelVisit_queueLaw hx b))
      · rw [List.foldl_cons, hskip hp]
        exact .skip hp (ih x hn hx)
  exact hfold bays (s, 0) hnd hs

/-- CANCEL_PROVISION with a good mask (R84). -/
theorem orderCancelProvision_visits {s : State} {off : Nat} (hmask : s.fieldN off 0x10 5 < 2 ^ 36) :
    orderCancelProvision off s = (pschedEvent (fun s => (cancelVisits (maskBays (s.maskOf off)) s).1) s,
      ⟨.done, (cancelVisits (maskBays (s.fieldN off 0x10 5)) s).2⟩) := by
  have habove : maskAbove (s.maskOf off) = false := decide_eq_false (Nat.not_le.mpr hmask)
  unfold orderCancelProvision
  rw [if_neg (by rw [habove]; decide)]
  rfl

/-! ## The two orders -/

/-- The orders refuse a mask that names a bay above 36. -/
theorem maskAbove_refused {s : State} {off : Nat} (h : 2 ^ 36 ≤ s.fieldN off 0x10 5) :
    orderProvision off s = refuse (.badField 1) s ∧ orderCancelProvision off s = refuse (.badField 1) s := by
  have habove : maskAbove (s.maskOf off) = true := decide_eq_true h
  unfold orderProvision orderCancelProvision
  rw [if_pos habove, if_pos habove]
  exact ⟨rfl, rfl⟩

theorem zeroRevision_refused {s : State} {off : Nat} (h : s.fieldN off 0x10 5 < 2 ^ 36) (h0 : s.fieldN off 0x0C 2 = 0) :
    orderProvision off s = refuse (.badField 2) s := by
  have habove : maskAbove (s.maskOf off) = false := decide_eq_false (Nat.not_le.mpr h)
  unfold orderProvision
  rw [if_neg (by rw [habove]; decide), if_pos h0]

/-- The bays that PROVISION appends, as the visits meet them. -/
theorem appended_eq (s : State) (mask : Nat) (v : Half) :
    (s.presentOf (maskBays mask)).filter (fun b => s.psched.records[b].appends v) =
      (List.finRange 36).filter fun b => mask.testBit b.val && s.bmon[b].occupancy == .present &&
        s.psched.records[b].state != .active && s.psched.records[b].state != .waiting &&
        s.psched.records[b].installed != v := by
  rw [presentOf_mask, List.filter_filter]
  refine List.filter_congr fun b _ => ?_
  simp only [ProvRecord.appends, Bool.and_assoc, Bool.and_comm, Bool.and_left_comm]

/-- Settles O51, by the visits' effect on each record, channel and the queue, and the consideration that follows. -/
theorem provisionAndCancelVisitTheMask : Obligations.ProvisionAndCancelVisitTheMask := by
  refine ⟨fun s i off k hm hq hr => ⟨fun h => ?_, fun h h0 => ?_, fun v hmask hv hne => ?_⟩,
    fun s i off k hm hq hr => ⟨fun h => ?_, fun hmask => ?_⟩⟩
  · exact order_refused (kind := .provision) (a := .badField 1) hm hr (maskAbove_refused h).1
  · exact order_refused (kind := .provision) (a := .badField 2) hm hr (zeroRevision_refused h h0)
  · have hlaw := (queueGood_iff s).mp hq
    obtain ⟨hexec, hans, -, hfr⟩ := order_answered hm hr (kind := .provision) (orderProvision_visits hmask hv hne)
    obtain ⟨n, hn⟩ : ∃ n, n = clampTo 1 240 (s.field1 off 0x0E).toNat := ⟨_, rfl⟩
    obtain ⟨m, hm'⟩ : ∃ m, m = clampTo 5 120 (s.field1 off 0x0F).toNat := ⟨_, rfl⟩
    have hvisits := provVisits_provisions (v := v) (n := n) (m := m) hlaw (maskBays_nodup (s.fieldN off 0x10 5))
    have hcount := hvisits.count
    rw [Nat.zero_add, List.countP_eq_length_filter, appended_eq] at hcount
    have hrecord (b : Bay) : (provVisits (maskBays (s.fieldN off 0x10 5)) v n m s).1.psched.records[b] =
        if b ∈ s.presentOf (maskBays (s.fieldN off 0x10 5)) then s.psched.records[b].provisioned v n m
        else s.psched.records[b] := hvisits.record b
    have hvisited (b : Bay) (hb : (s.fieldN off 0x10 5).testBit b.val = true) (hp : s.bmon[b].occupancy = .present) :=
      (hrecord b).trans (if_pos (mem_presentOf_mask.mpr ⟨hb, hp⟩))
    have hrest (b : Bay) (hb : (s.fieldN off 0x10 5).testBit b.val = false ∨ s.bmon[b].occupancy ≠ .present) :=
      (hrecord b).trans (if_neg (not_visited hb))
    rw [clampAnswer_outcome, ← hn, ← hm', Answer.clamped] at hans
    rw [← hn, ← hm'] at hexec hfr
    rw [show max 1 (min 240 (s.field1 off 0x0E).toNat) = n from hn.symm,
      show max 5 (min 120 (s.field1 off 0x0F).toNat) = m from hm'.symm]
    refine ⟨_, hexec, ?_, fun b hb hp => ?_, fun b hb => ?_, ⟨_, provVisits_frame (maskBays (s.fieldN off 0x10 5)) v n m s,
      fun b => ⟨fun hb hp => ?_, hrest b⟩, fun c => ?_, fun added hadded => ⟨?_, fun hne' => ?_, fun hnil => ?_⟩⟩,
      hfr.mono (by decide)⟩
    · rw [List.countP_eq_length_filter, ← hcount]
      exact hans
    · exact provisionEvent_visited hlaw (hvisited b hb hp) (answered_psched ..)
    · have h := (provisionEvent_moves (v := v) (n := n) (m := m) (bays := maskBays (s.fieldN off 0x10 5)) hlaw b).2
      rw [hrest b hb] at h
      exact h
    · have h := provisioned_wanted s.psched.records[b] v n m
      rw [hvisited b hb hp]
      exact ⟨h.1, h.2.2⟩
    · have h := hvisits.channel c
      simp only [visited_test, Session.revised] at h
      exact h
    · have h := hvisits.queue
      rw [appended_eq] at h
      simp only [visited_test] at h
      rw [hadded]
      exact h
    · refine answered_considers (provisionEvent_considers ?_) i off k _ _
      rw [hcount, ← hadded]
      exact fun h => hne' (List.length_eq_zero_iff.mp h)
    · rw [answered_psched]
      obtain ⟨h1, h2, h3⟩ := provisionEvent_visits (v := v) (n := n) (m := m) (s := s)
        (bays := maskBays (s.fieldN off 0x10 5)) (by rw [hcount, ← hadded, hnil]; rfl)
      exact ⟨h2, h3, h1⟩
  · exact order_refused (kind := .cancelProvision) (a := .badField 1) hm hr (maskAbove_refused h).2
  · have hlaw := (queueGood_iff s).mp hq
    obtain ⟨hexec, hans, -, hfr⟩ := order_answered hm hr (kind := .cancelProvision) (orderCancelProvision_visits hmask)
    have hvisits := cancelVisits_cancels hlaw (maskBays_nodup (s.fieldN off 0x10 5))
    have hafter : (cancelVisits (maskBays (s.fieldN off 0x10 5)) s).1.QueueLaw none := cancelVisits_queueLaw hlaw _
    have hcount := hvisits.count (fun b => s.psched.records[b].state == .waiting || s.psched.records[b].state == .active)
      fun b => by simp [ProvRecord.pending]
    rw [Nat.zero_add, maskBays, List.countP_filter] at hcount
    simp only [Bool.and_comm] at hcount
    refine ⟨_, hexec, ?_, fun b hb => ⟨fun hp => ?_, fun hw ha => ?_⟩, hfr.mono (by decide)⟩
    · rw [← hcount]
      exact hans
    · obtain ⟨h1, h2, h3, h4⟩ := hvisits.gone b (by simpa [maskBays] using hb) hp
      rw [answered_psched, pschedEvent_psched_records, pschedEvent_psched_queue]
      exact ⟨h1, h2, h3, hafter.not_mem_of_state (by rw [h1]; decide), h4⟩
    · rw [answered_psched, pschedEvent_psched_records]
      exact hvisits.kept b fun hp => hp.elim hw ha

end Sys2Proof.Machine
end
